-- ==== Sys2Proof/Word.lean ====
section
/-! DEFINITION. The word types of the SP-9100, the names of the sequencers, and the shape of sparse tables.
Rules R7 to R9 fix the numbers; R123 the sequencer registers. -/

namespace Sys2Proof

/-- A byte of the core store, of HBM or of host memory. -/
abbrev Byte := BitVec 8
/-- A register of BAR0 (R9), and an FP32 bit pattern. -/
abbrev W32 := BitVec 32
/-- A scalar register (R123), a host-queue word (R378). -/
abbrev W64 := BitVec 64
/-- A device virtual address (R123). -/
abbrev VAddr := BitVec 57
/-- A core-store byte offset (R125). -/
abbrev Off := BitVec 30
/-- A hurdle ID (R19). -/
abbrev Hid := BitVec 12
/-- A context number. -/
abbrev CtxId := Fin 64
/-- A core C0 to C7; also a fabric die F0 to F7, its relay engine and a partition. -/
abbrev CoreId := Fin 8
/-- An HBM stack M0 to M15; also a port P0 to P15 and a hypercube dimension. -/
abbrev PortId := Fin 16
/-- A function of the host port: 0 the PF, v the VF v (R374). -/
abbrev FnId := Fin 9

/-- A sparse table: (key, value) pairs with keys rising, and no entry equal to what an unlisted key reads as. -/
abbrev SMap (α : Type) := List (Nat × α)

/-- The three sequencers of a core. -/
inductive SeqId where
  | F | B | U
  deriving DecidableEq, Repr

end Sys2Proof
end

