-- ==== Sys2Proof/Wire.lean ====
section
/-! DEFINITION. What the outside world brings with an event: error codes, flits and messages of the links (R322 to R325),
relay messages (R353) and split messages (R424). -/

namespace Sys2Proof

/-- What the error code of a line's 64-byte segments reports on a read (R269): segments corrected, or one that it
cannot correct. -/
inductive Ecc where
  | clean
  | corrected (segments : Nat)
  | uncorrectable
  deriving DecidableEq, Repr

/-- The key of a relay command (R351). -/
structure RelayKey where
  job : BitVec 16
  core : CoreId
  op : BitVec 8
  tag : W32
  step : W32
  deriving DecidableEq, Repr

/-- A row of a ROWS message with its row header (R365). A row of DISPATCH carries the addresses of its position and of the
position's origin entry, which the expert map gives; a row of COMBINE goes to the return slot of its token and choice
(R366, R367; notes/assumptions/21). -/
structure RowItem where
  expert : BitVec 16
  pos : BitVec 20
  token : W32
  choice : BitVec 3
  core : CoreId
  dest : Option (VAddr × VAddr)
  bytes : List Byte
  deriving DecidableEq, Repr

/-- What follows the relay header, by RKIND (R353). A VALUE message carries the value and the bits of R361 and R362; a
REFUSE says whether the table of READY messages was full (R351). -/
inductive RelayBody where
  | ready (count : W64)
  | data (seg : W64) (bytes : List Byte)
  | ack (seg : W64)
  | abort
  | rows (seg : W64) (rs : List RowItem)
  | value (v : W64) (bits : BitVec 2)
  | refuse (full : Bool)
  deriving DecidableEq, Repr

/-- A split message by SKIND (R424). -/
inductive SplitKind where
  | data (bytes : List Byte)
  | ack
  | seal
  | sealAck
  | readReq
  | readRsp (bytes : List Byte)
  | refuse
  deriving DecidableEq, Repr

/-- The header of a split message (R424). -/
structure SplitHead where
  part : CoreId
  slot : Fin 4
  act : Bool
  seq : W32
  off : W64
  len : W32
  deriving DecidableEq, Repr

/-- The body of a message, by MTYPE (R325). A memory request carries its access hint (R274; notes/assumptions/17). -/
inductive MsgBody where
  | rdReq (hint : Fin 3)
  | rdRsp (line : List Byte)
  | wr (hint : Fin 3) (bytes : List (Nat × Byte))
  | wrAck
  | refuse
  | peerLost
  | arrive (hid : Hid) (baton : W64)
  | relay (k : RelayKey) (j : BitVec 5) (dims : BitVec 16) (b : RelayBody)
  | split (h : SplitHead) (k : SplitKind)
  | reserved (mtype : BitVec 6) (len : Nat)
  deriving DecidableEq, Repr

/-- A message with its header (R325). -/
structure Msg where
  dst : BitVec 16
  org : BitVec 16
  tag : BitVec 16
  addr : BitVec 48
  body : MsgBody
  deriving DecidableEq, Repr

/-- What the receiver learns of a flit (R319, R322): whether it passed its CRC and lay in no uncorrectable codeword, its
retry and credit fields, and what the code has counted since the flit before it: symbols corrected and uncorrectable
codewords. -/
structure FlitHead where
  ok : Bool
  corrected : Nat
  lost : Nat
  seq : BitVec 12
  ack : BitVec 12
  nak : Bool
  credit : Vector (BitVec 8) 4
  deriving DecidableEq, Repr

/-- A link-layer command of a CTRL flit (R320, R321, R333). -/
inductive Ctrl where
  | laneSwap (fibre : Fin 8) (lambda : Fin 8) (tx : Bool)
  | width (w : Fin 9) (tx : Bool)
  | opened
  deriving DecidableEq, Repr

/-- What a TSYNC flit brings (R336): a request, or the answer with the parent's instants, in units of 0.125 ns, and the
state the parent reports. -/
inductive Tsync where
  | request (t1 : W64)
  | answer (t1 t2 t3 t4 : W64) (parent : BitVec 2)
  deriving DecidableEq, Repr

/-- The identity of an IDENT flit (R333). -/
structure Ident where
  pkg : BitVec 16
  dim : BitVec 4
  system : W32
  stepping : BitVec 8
  starting : Bool
  deriving DecidableEq, Repr

/-- What the image stage meets (R494, R505): the configuration flash answers, and in 1S-1S-1S mode only; whether the vendor and
owner signatures of the stage bank and of the active image verify; whether the copy verifies, and, where power is lost during
it, the bytes that have been programmed. -/
structure ImageWorld where
  answers : Bool
  slow : Bool
  stageSig : Bool
  stageOwn : Bool
  sig : Bool
  own : Bool
  copyOk : Bool
  cut : Option Nat
  deriving DecidableEq, Repr

/-- What a gauntlet run finds in a unit (R511 to R516), with the repairs in use applied: the logic test that fails; failing
columns; failing core-store rows by bank; failing statistics rows; a failing PHY lane; failing lanes of a port by direction,
fibre and wavelength; no laser input; and a limit that stops the run. -/
structure GntUnit where
  logic : Option (BitVec 6)
  cols : List Nat
  rows : List (Nat × Nat)
  stat : Nat
  phy : Bool
  lanes : List (Bool × Fin 8 × Fin 8)
  dark : Bool
  hot : Bool
  deriving DecidableEq, Repr

/-- The SSD that the HBM stage finds (R392, R393): its FLP_STATUS fields, and the LBAs of namespace 1. -/
structure SsdWorld where
  speed : BitVec 4
  width : BitVec 4
  lba4k : Bool
  lbas : W64
  deriving DecidableEq, Repr

/-- What the HBM stage meets (R272, R392): stacks that train at 6.4 Gb/s only, channels that fail training, whether
initialisation reports no uncorrectable write, and the SSD. -/
structure HbmWorld where
  slow : List (Fin 16)
  failed : List (Fin 512)
  initOk : Bool
  ssd : Option SsdWorld
  deriving DecidableEq, Repr

/-- A 64-bit count of the SCH block (R414, R415): the run time or energy of a context, the energy of overhead, and that of the
package. -/
inductive SchLo where
  | run (x : CtxId)
  | energy (x : CtxId)
  | overhead
  | all
  deriving DecidableEq, Repr

end Sys2Proof
end

