-- ==== Sys2Proof/Syntax.lean ====
section
/-! DEFINITION. The commands of the part: one constructor for each row of the opcode table.
A sequencer instruction carries its core, its sequencer and the fields of its word (R168, R169), reserved fields too,
because a reserved field that is not zero is a fault (R170). An event carries what identifies it, and what the outside
world brings with it: a sample, a message, an outcome. -/

namespace Sys2Proof

/-- Word format SR of R169, with the predicate fields of R168. -/
structure SR where
  pn : Bool
  pr : BitVec 3
  d : BitVec 5
  a : BitVec 5
  b : BitVec 5
  cc : BitVec 5
  zero : BitVec 28
  fn : BitVec 4
  deriving DecidableEq, Repr

/-- Word format SI of R169. -/
structure SI where
  pn : Bool
  pr : BitVec 3
  d : BitVec 5
  a : BitVec 5
  fn : BitVec 4
  zero : BitVec 6
  imm : BitVec 32
  deriving DecidableEq, Repr

/-- Word format CT of R169. -/
structure CT where
  pn : Bool
  pr : BitVec 3
  d : BitVec 5
  a : BitVec 5
  win : Bool
  zero : BitVec 9
  imm : BitVec 32
  deriving DecidableEq, Repr

/-- Word format H of R169. -/
structure HF where
  pn : Bool
  pr : BitVec 3
  sa : BitVec 5
  sb : BitVec 5
  remote : Bool
  hid : BitVec 12
  df : Bool
  zero : BitVec 28
  deriving DecidableEq, Repr

/-- Word format E of R169. -/
structure EF where
  pn : Bool
  pr : BitVec 3
  sd : BitVec 5
  sb : BitVec 5
  hv : Bool
  hid : BitVec 12
  xf : BitVec 5
  doff : BitVec 24
  deriving DecidableEq, Repr

/-- Word format EA of R169. -/
structure EA where
  pn : Bool
  pr : BitVec 3
  sd : BitVec 5
  sb : BitVec 5
  hv : Bool
  hid : BitVec 12
  xf : BitVec 5
  ar : BitVec 4
  doff : BitVec 20
  deriving DecidableEq, Repr


/-- The commands of the part, one constructor per row of the table: the instructions of the sequencers (R171) and the events that happen to the blocks. -/
inductive Instr where
  /-- SADD (R175): Adds two scalar registers modulo 2^64. -/
  | sadd (c : Fin 8) (q : SeqId) (w : SR)
  /-- SSUB (R175): Subtracts one scalar register from another modulo 2^64. -/
  | ssub (c : Fin 8) (q : SeqId) (w : SR)
  /-- SAND (R175): Bitwise AND of two scalar registers. -/
  | sand (c : Fin 8) (q : SeqId) (w : SR)
  /-- SOR (R175): Bitwise OR of two scalar registers. -/
  | sor (c : Fin 8) (q : SeqId) (w : SR)
  /-- SXOR (R175): Bitwise XOR of two scalar registers. -/
  | sxor (c : Fin 8) (q : SeqId) (w : SR)
  /-- SSHL (R175): Shifts a scalar register left by s[B][5:0]. -/
  | sshl (c : Fin 8) (q : SeqId) (w : SR)
  /-- SSHR (R175): Shifts a scalar register right logically by s[B][5:0]. -/
  | sshr (c : Fin 8) (q : SeqId) (w : SR)
  /-- SSRA (R175): Shifts a scalar register right arithmetically by s[B][5:0]. -/
  | ssra (c : Fin 8) (q : SeqId) (w : SR)
  /-- SMUL (R175): Low 64 bits of the product of two scalar registers. -/
  | smul (c : Fin 8) (q : SeqId) (w : SR)
  /-- SDIV (R176): Signed quotient of two scalar registers with fixed results for division by zero and overflow. -/
  | sdiv (c : Fin 8) (q : SeqId) (w : SR)
  /-- SDIVU (R176): Unsigned quotient of two scalar registers. -/
  | sdivu (c : Fin 8) (q : SeqId) (w : SR)
  /-- SREM (R176): Signed remainder of two scalar registers. -/
  | srem (c : Fin 8) (q : SeqId) (w : SR)
  /-- SREMU (R176): Unsigned remainder of two scalar registers. -/
  | sremu (c : Fin 8) (q : SeqId) (w : SR)
  /-- SADDI (R175): Adds a sign-extended immediate to a scalar register. -/
  | saddi (c : Fin 8) (q : SeqId) (w : SI)
  /-- SSUBI (R175): Subtracts a sign-extended immediate from a scalar register. -/
  | ssubi (c : Fin 8) (q : SeqId) (w : SI)
  /-- SANDI (R175): Bitwise AND with an immediate. -/
  | sandi (c : Fin 8) (q : SeqId) (w : SI)
  /-- SORI (R175): Bitwise OR with an immediate. -/
  | sori (c : Fin 8) (q : SeqId) (w : SI)
  /-- SXORI (R175): Bitwise XOR with an immediate. -/
  | sxori (c : Fin 8) (q : SeqId) (w : SI)
  /-- SSHLI (R175): Shift left by IMM[5:0]. -/
  | sshli (c : Fin 8) (q : SeqId) (w : SI)
  /-- SSHRI (R175): Logical shift right by IMM[5:0]. -/
  | sshri (c : Fin 8) (q : SeqId) (w : SI)
  /-- SSRAI (R175): Arithmetic shift right by IMM[5:0]. -/
  | ssrai (c : Fin 8) (q : SeqId) (w : SI)
  /-- SMULI (R175): Multiplies a scalar register by an immediate. -/
  | smuli (c : Fin 8) (q : SeqId) (w : SI)
  /-- SDIVI (R176): Signed division by an immediate. -/
  | sdivi (c : Fin 8) (q : SeqId) (w : SI)
  /-- SDIVUI (R176): Unsigned division by an immediate. -/
  | sdivui (c : Fin 8) (q : SeqId) (w : SI)
  /-- SREMI (R176): Signed remainder by an immediate. -/
  | sremi (c : Fin 8) (q : SeqId) (w : SI)
  /-- SREMUI (R176): Unsigned remainder by an immediate. -/
  | sremui (c : Fin 8) (q : SeqId) (w : SI)
  /-- SMOVI (R175): Writes a sign-extended immediate to a scalar register. -/
  | smovi (c : Fin 8) (q : SeqId) (w : SI)
  /-- SMOVHI (R175): Writes the immediate into bits 63:32 of a scalar register. -/
  | smovhi (c : Fin 8) (q : SeqId) (w : SI)
  /-- SMOVA (R175): Copies an address register zero-extended into a scalar register. -/
  | smova (c : Fin 8) (q : SeqId) (w : SR)
  /-- AMOV (R175): Copies bits 56:0 of a scalar register into an address register. -/
  | amov (c : Fin 8) (q : SeqId) (w : SR)
  /-- AADD (R175): Adds a scalar register to an address register modulo 2^57. -/
  | aadd (c : Fin 8) (q : SeqId) (w : SR)
  /-- AADDI (R175): Adds an immediate to an address register modulo 2^57. -/
  | aaddi (c : Fin 8) (q : SeqId) (w : SI)
  /-- SCMP (R177): Sets a predicate from a comparison of two scalar registers. -/
  | scmp (c : Fin 8) (q : SeqId) (w : SR)
  /-- SCMPI (R177): Sets a predicate from a comparison of a scalar register with an immediate. -/
  | scmpi (c : Fin 8) (q : SeqId) (w : SI)
  /-- SPRED (R177): Sets a predicate from a logical function of two predicates. -/
  | spred (c : Fin 8) (q : SeqId) (w : SR)
  /-- FADD (R176): FP32 addition of two scalar registers. -/
  | fadd (c : Fin 8) (q : SeqId) (w : SR)
  /-- FMUL (R176): FP32 multiplication of two scalar registers. -/
  | fmul (c : Fin 8) (q : SeqId) (w : SR)
  /-- FFMA (R175): FP32 fused multiply-add with one rounding. -/
  | ffma (c : Fin 8) (q : SeqId) (w : SR)
  /-- FCVTI (R176): Converts FP32 to a signed 64-bit integer, truncating and saturating. -/
  | fcvti (c : Fin 8) (q : SeqId) (w : SR)
  /-- ICVTF (R176): Converts a signed 64-bit integer to FP32 with round to nearest even. -/
  | icvtf (c : Fin 8) (q : SeqId) (w : SR)
  /-- SLD (R179): Loads 8 bytes from the core store into a scalar register. -/
  | sld (c : Fin 8) (q : SeqId) (w : SI)
  /-- SST (R179): Stores a scalar register to 8 bytes of the core store, written 12 FCLK later. -/
  | sst (c : Fin 8) (q : SeqId) (w : SI)
  /-- SSYS (R178): Reads a system value selected by IMM into a scalar register. -/
  | ssys (c : Fin 8) (q : SeqId) (w : SI)
  /-- NOP (R180): Does nothing and retires in one cycle. -/
  | nop (c : Fin 8) (q : SeqId) (w : CT)
  /-- BR (R180): Branches to PC plus IMM, with the bubbles of R126. -/
  | br (c : Fin 8) (q : SeqId) (w : CT)
  /-- CALL (R180): Writes the return address and branches. -/
  | call (c : Fin 8) (q : SeqId) (w : CT)
  /-- JR (R180): Jumps to the address held in a scalar register. -/
  | jr (c : Fin 8) (q : SeqId) (w : CT)
  /-- CHEAP (R153): Sets the live-range pointer; a pending stop takes effect here. -/
  | cheap (c : Fin 8) (q : SeqId) (w : CT)
  /-- END (R165): The sequencer enters ENDED and stops issue. -/
  | endIssue (c : Fin 8) (q : SeqId) (w : CT)
  /-- MSHAPE (R182): Queues a change of array shape for later commands. -/
  | mshape (c : Fin 8) (q : SeqId) (w : EF)
  /-- MPRE (R183): Queues a preload of a bank in ZERO, BIAS or TILE mode. -/
  | mpre (c : Fin 8) (q : SeqId) (w : EF)
  /-- MPASS (R184): Checks and queues an accumulating pass of the array on a bank. -/
  | mpass (c : Fin 8) (q : SeqId) (w : EF)
  /-- MDRAIN (R187): Checks and queues a drain of a bank with conversion to the core store. -/
  | mdrain (c : Fin 8) (q : SeqId) (w : EF)
  /-- TSTREAM (R189): Allocates a stream slot and hands it a stream descriptor. -/
  | tstream (c : Fin 8) (q : SeqId) (w : EA)
  /-- TREARM (R239): Queues a pending re-arm on a held slot or acts as TSTREAM. -/
  | trearm (c : Fin 8) (q : SeqId) (w : EA)
  /-- TCANCEL (R191): Cancels a held ARMED, RUNNING or HALTED stream slot. -/
  | tcancel (c : Fin 8) (q : SeqId) (w : EA)
  /-- TSTAT (R191): Returns the status of a stream slot to a scalar register. -/
  | tstat (c : Fin 8) (q : SeqId) (w : SR)
  /-- TGATHER (R192): Allocates a gather index stream and queues a gather descriptor. -/
  | tgather (c : Fin 8) (q : SeqId) (w : EA)
  /-- HARM (R193): Sends an arming request to a hurdle and holds issue until the answer returns. -/
  | harm (c : Fin 8) (q : SeqId) (w : HF)
  /-- HARRIVE (R194): Sends one arrival with a baton word to a local or remote hurdle. -/
  | harrive (c : Fin 8) (q : SeqId) (w : HF)
  /-- HWAIT (R195): Waits until a hurdle's RELEASES reaches a target. -/
  | hwait (c : Fin 8) (q : SeqId) (w : HF)
  /-- HREAD (R196): Reads a hurdle's RELEASES count into a scalar register. -/
  | hread (c : Fin 8) (q : SeqId) (w : HF)
  /-- WNORM (R200): Row-engine RMS or layer normalisation with statistics write. -/
  | wnorm (c : Fin 8) (q : SeqId) (w : EF)
  /-- WNORMB (R201): Row-engine normalisation backward using stored statistics. -/
  | wnormb (c : Fin 8) (q : SeqId) (w : EF)
  /-- WSMAX (R202): Row-engine soft-maximum with optional causal mask. -/
  | wsmax (c : Fin 8) (q : SeqId) (w : EF)
  /-- WSMAXB (R203): Row-engine soft-maximum backward. -/
  | wsmaxb (c : Fin 8) (q : SeqId) (w : EF)
  /-- WACT (R204): Row-engine activation function. -/
  | wact (c : Fin 8) (q : SeqId) (w : EF)
  /-- WACTB (R204): Row-engine activation derivative. -/
  | wactb (c : Fin 8) (q : SeqId) (w : EF)
  /-- WEW (R205): Row-engine element-wise COPY, ADD, MUL, AXPY or SCALE. -/
  | wew (c : Fin 8) (q : SeqId) (w : EF)
  /-- WLOSS (R206): Row-engine soft-maximum cross-entropy loss and gradient. -/
  | wloss (c : Fin 8) (q : SeqId) (w : EF)
  /-- XSPEC (R159): Opens a speculation window with a register checkpoint. -/
  | xspec (c : Fin 8) (q : SeqId) (w : CT)
  /-- XCOMMIT (R162): Requests commit of a speculation window. -/
  | xcommit (c : Fin 8) (q : SeqId) (w : CT)
  /-- XDISCARD (R163): Starts discard of a speculation window and younger windows. -/
  | xdiscard (c : Fin 8) (q : SeqId) (w : CT)
  /-- XSTASH (R285): Places a tensor in the stash by the placement cases or stalls. -/
  | xstash (c : Fin 8) (q : SeqId) (w : EF)
  /-- XRECALL (R213): Looks up a stash key, sets a predicate and copies it back if present. -/
  | xrecall (c : Fin 8) (q : SeqId) (w : EF)
  /-- XFREE (R214): Releases a stash key's space and generation reference. -/
  | xfree (c : Fin 8) (q : SeqId) (w : EF)
  /-- XRCHECK (R215): Queues a comparison of logged and actual routing words on the gather engine. -/
  | xrcheck (c : Fin 8) (q : SeqId) (w : EF)
  /-- UGRAD (R296): Hands a layer gradient to the relay engine for reduce-scatter. -/
  | ugrad (c : Fin 8) (q : SeqId) (w : EA)
  /-- USIGN_PLANE (R298): Exports a shard's sign plane and header to host memory. -/
  | usignPlane (c : Fin 8) (q : SeqId) (w : EA)
  /-- USIGN_STEP (R301): Runs the norm-tree all-reduce and writes the step header. -/
  | usignStep (c : Fin 8) (q : SeqId) (w : EA)
  /-- UAPPLY (R307): Reads the code header and starts the all-gather of code planes. -/
  | uapply (c : Fin 8) (q : SeqId) (w : EA)
  /-- UAPPLY_WRITE (R307): After gather and checks and any generation stall, applies codes to the masters and moves the generation entry. -/
  | uapplyWrite (c : Fin 8)
  /-- UPUB_INIT (R309): Publishes a compute copy and creates or re-initialises a generation entry. -/
  | upubInit (c : Fin 8) (q : SeqId) (w : EA)
  /-- UPUB_PUBLISH (R309): Publishes the newest generation's compute copy. -/
  | upubPublish (c : Fin 8) (q : SeqId) (w : EA)
  /-- UPUB_VERDICT (R309): Reads the host verdict record and starts the verdict vote. -/
  | upubVerdict (c : Fin 8) (q : SeqId) (w : EA)
  /-- DESCRIPTOR_READ_AHEAD (R173): Sequencer reads ahead the next engine instruction's descriptor once its conditions hold. -/
  | descriptorReadAhead (c : Fin 8) (q : SeqId)
  /-- ARRAY_COMMAND_ACCEPT (R75): The array takes an M-class command from crossing 1 and checks it against the projected bank state. -/
  | arrayCommandAccept (c : Fin 8)
  /-- SHAPE_RECONFIGURED (R81): MSHAPE reconfigures the band heads once no pass is in the edges. -/
  | shapeReconfigured (c : Fin 8)
  /-- PRELOAD_START (R77): An MPRE starts on its bank once the bank allows it. -/
  | preloadStart (c : Fin 8)
  /-- PRELOAD_COMPLETE (R74): Last preload write; the bank becomes LOADED. -/
  | preloadComplete (c : Fin 8) (b : Fin 2)
  /-- PASS_START (R71): A pass reaches T0 and its bank becomes ACTIVE. -/
  | passStart (c : Fin 8)
  /-- PASS_COMPLETE (R70): t_full is reached and the bank becomes FULL. -/
  | passComplete (c : Fin 8)
  /-- DRAIN_START (R86): MDRAIN starts at D0 and the bank becomes DRAINING. -/
  | drainStart (c : Fin 8)
  /-- DRAIN_COMPLETE (R86): Last drained row is written to the core store and the bank moves on. -/
  | drainComplete (c : Fin 8) (b : Fin 2)
  /-- ROW_COMMAND_COMPLETE (R208): A row-engine command finishes its outputs and statistics. -/
  | rowCommandComplete (c : Fin 8)
  /-- HARM_AT_HOME (R144): The home hurdle unit checks and applies a HARM and returns the answer. -/
  | harmAtHome (c : Fin 8) (q : SeqId)
  /-- HURDLE_ARRIVAL (R145): The hurdle unit counts arrivals registered in a cycle and releases or poisons. -/
  | hurdleArrival (hid : Hid) (k : Nat)
  /-- HRD_CTL_WRITE (R147): Software writes IDLE or POISONED to a hurdle's state. -/
  | hrdCtlWrite (hid : Hid) (v : W32)
  /-- QUIESCE_COMPLETE (R155): After a stop, every engine instruction of the context completes and the save begins. -/
  | quiesceComplete (x : Fin 64)
  /-- SAVE_COMPLETE (R409): Save frames are written on every core; the turn ends and the next turn starts. -/
  | saveComplete (x : Fin 64) (t : W64)
  /-- RESTORE_COMPLETE (R157): A context's state is restored and its sequencers resume. -/
  | restoreComplete (x : Fin 64)
  /-- SPEC_COMMIT_COMPLETE (R162): All instructions of a committing window complete; regions exchange and held work is released. -/
  | specCommitComplete (c : Fin 8) (w : Fin 2)
  /-- SPEC_DISCARD_COMPLETE (R163): Discard ends and SEQ-F resumes at the discard target. -/
  | specDiscardComplete (c : Fin 8) (w : Fin 2)
  /-- STREAM_ARM (R236): A slot's stride program is read and checked; it becomes RUNNING if its gate is satisfied. -/
  | streamArm (c : Fin 8) (j : Fin 32)
  /-- GATHER_ARM (R251): An index stream leaves the gather command queue and becomes RUNNING. -/
  | gatherArm (c : Fin 8)
  /-- LINE_GENERATE (R228): The address generator produces up to 8 line requests of one slot or index stream. -/
  | lineGenerate (c : Fin 8) (gth : Bool)
  /-- LINE_TAG_GRANT (R229): A held request receives a tag and leaves for the fabric. -/
  | lineTagGrant (c : Fin 8) (gth : Bool)
  /-- LINE_COMPLETE (R231): A line's data is written or its write acknowledged; chunks and completion follow. -/
  | lineComplete (c : Fin 8) (gth : Bool) (j : Nat) (n : Nat)
  /-- STR_RESUME_WRITE (R245): Host resumes HALTED stream slots. -/
  | strResumeWrite (c : Fin 8) (v : W32)
  /-- STR_ABORT_WRITE (R245): Host aborts HALTED stream slots with STR_PAGE_INVALID. -/
  | strAbortWrite (c : Fin 8) (v : W32)
  /-- GTH_RESUME_WRITE (R251): Host resumes HALTED index streams. -/
  | gthResumeWrite (c : Fin 8) (v : W32)
  /-- GTH_ABORT_WRITE (R251): Host aborts HALTED index streams. -/
  | gthAbortWrite (c : Fin 8) (v : W32)
  /-- PRG_RESPONSE (R245): The host answers a PRI page request, resuming or faulting a halted slot. -/
  | prgResponse (c : Fin 8) (gth : Bool) (j : Nat) (ok : Bool)
  /-- WATCH_ENTRY_EXPIRE (R243): A watch-table entry lapses WATCH_US after its run completes. -/
  | watchEntryExpire (n : Fin 8) (t : W64)
  /-- XRCHECK_COMPARE (R215): At the head of the gather queue, compares routing lists and writes RESULT. -/
  | xrcheckCompare (c : Fin 8)
  /-- STASH_COPY_COMPLETE (R283): A stash or recall copy is written. -/
  | stashCopyComplete (c : Fin 8)
  /-- STASH_SPILL_COMPLETE (R284): A spill copy to HBM is written; the key moves from MOVING to HBM. -/
  | stashSpillComplete (c : Fin 8)
  /-- STASH_STALL_TIMEOUT (R286): EXHAUST_MS passes with no free during an XSTASH stall. -/
  | stashStallTimeout (c : Fin 8) (row : Bool) (t : W64)
  /-- HBM_READ (R265): A controller accepts and serves a read of a line. -/
  | hbmRead (c : Fin 8) (gth : Bool) (j : Nat) (n : Nat) (e : Ecc)
  /-- HBM_WRITE (R266): A controller accepts a write and handles it by buffer mode. -/
  | hbmWrite (c : Fin 8) (gth : Bool) (j : Nat) (n : Nat)
  /-- WCB_IDLE_WRITEBACK (R266): A buffer entry untouched for WCB_IDLE_US is written back. -/
  | wcbIdleWriteback (line : Nat)
  /-- SCRUB (R269): Periodic scrub of a line, correcting or marking failing rows. -/
  | scrub (pa : Nat) (e : Ecc)
  /-- SOFT_REPAIR_COMPLETE (R270): A failing row's copy to a spare finishes. -/
  | softRepairComplete (pa : Nat)
  /-- MEM_INVAL_WRITE (R262): Starts a translation invalidation. -/
  | memInvalWrite (v : W32)
  /-- MEM_INVAL_COMPLETE (R262): Caches have dropped entries and accesses completed; BUSY clears. -/
  | memInvalComplete
  /-- MEM_FLUSH_WRITE (R268): Starts write-back of every buffer entry. -/
  | memFlushWrite (v : W32)
  /-- MEM_FLUSH_COMPLETE (R268): The last write-back is accepted and BUSY clears. -/
  | memFlushComplete
  /-- ATS_INVALIDATION (R275): The host die answers an ATS invalidation request. -/
  | atsInvalidation (p : Fin 8) (page : Nat) (present : Bool)
  /-- FLIT_SLOT (R326): Each LCLK flit slot the transmitter chooses a flit to send. -/
  | flitSlot (p : Fin 16)
  /-- IDLE_FLIT (R323): Receipt of an IDLE flit carrying ACK and credits. -/
  | idleFlit (p : Fin 16) (h : FlitHead) (down : Bool)
  /-- DATA_FLIT (R327): Receipt of a sequenced DATA flit, checked and delivered or NAKed. -/
  | dataFlit (p : Fin 16) (h : FlitHead) (vc : Fin 4) (tseq : BitVec 16) (msgs : List Msg)
  /-- CTRL_LANE_SWAP (R320): CTRL flit agreeing a lane swap onto a spare lane. -/
  | ctrlLaneSwap (p : Fin 16) (h : FlitHead) (fibre : Fin 8) (lambda : Fin 8) (tx : Bool)
  /-- CTRL_WIDTH_CHANGE (R321): CTRL flit agreeing a width change. -/
  | ctrlWidthChange (p : Fin 16) (h : FlitHead) (w : Fin 9) (tx : Bool)
  /-- OPEN (R333): Receipt of OPEN on a FENCED port; UP when both ends opened. -/
  | openRx (p : Fin 16) (h : FlitHead)
  /-- TSYNC_FLIT (R336): Receipt of a TSYNC request or answer; offset and round trip computed. -/
  | tsyncFlit (p : Fin 16) (h : FlitHead) (t : Tsync)
  /-- NOTICE_FLIT (R337): Receipt of a NOTICE flit starting a loss condition. -/
  | noticeFlit (p : Fin 16) (h : FlitHead) (cause : Nat)
  /-- IDENT_FLIT (R333): Receipt of an IDENT flit and its identity checks. -/
  | identFlit (p : Fin 16) (h : FlitHead) (id : Ident)
  /-- RD_REQ (R274): A remote line read request arrives and is accepted or refused. -/
  | rdReq (n : Nat)
  /-- RD_RSP (R325): A remote read response line arrives. -/
  | rdRsp (n : Nat)
  /-- WR (R325): A remote write arrives and is applied when whole. -/
  | wr (n : Nat)
  /-- WR_ACK (R325): Acknowledgement of a remote write arrives. -/
  | wrAck (n : Nat)
  /-- REFUSE (R274): A refusal of a remote access arrives at the requester. -/
  | refuse (n : Nat)
  /-- PEER_LOST (R339): A PEER_LOST message completes a request at its origin. -/
  | peerLost (n : Nat)
  /-- ARRIVE_MESSAGE (R150): A remote hurdle arrival message arrives and is forwarded to its home die. -/
  | arriveMessage (n : Nat)
  /-- TSYNC_REQUEST (R336): Every 1 us the child sends a TSYNC request to its parent. -/
  | tsyncRequest (t : W64)
  /-- LOSS_OF_LIGHT (R337): A receive fibre stays below threshold for 500 ns. -/
  | lossOfLight (p : Fin 16)
  /-- CODEWORD_LOCK_LOSS (R337): Codeword lock is lost for 1 us. -/
  | codewordLockLoss (p : Fin 16)
  /-- PEER_DOWN_COUNT (R337): 256 consecutive IDLE flits with DOWN set are received. -/
  | peerDownCount (p : Fin 16)
  /-- PORT_MARK_LOST (R338): A port is marked LOST or SHED after its loss condition; hurdles poisoned, requests completed, HOLD requested. -/
  | portMarkLost (p : Fin 16)
  /-- LIGHT_REGAINED (R334): Light and codeword lock return on a LOST (AUTO) or SHED port, which retrains. -/
  | lightRegained (p : Fin 16)
  /-- PORT_TRAINED (R333): A port completes training and becomes UP or FENCED. -/
  | portTrained (p : Fin 16) (wtx : Fin 9) (wrx : Fin 9) (stx : BitVec 8) (srx : BitVec 8)
  /-- TRAIN_TIMEOUT (R334): A port reaches TRAIN_MS untrained. -/
  | trainTimeout (p : Fin 16) (t : W64)
  /-- TRAIN_RETRY (R334): Training restarts every 1 s after a timeout. -/
  | trainRetry (p : Fin 16) (t : W64)
  /-- LANE_SPARE (R320): A lane loses signal or exceeds its error rate over 10 ms and is moved to the spare lane. -/
  | laneSpare (p : Fin 16) (tx : Bool) (fibre : Fin 8) (lambda : Fin 8)
  /-- WIDTH_REDUCE (R321): A direction drops a wavelength and retrains at W-1, or goes LOST below 4. -/
  | widthReduce (p : Fin 16) (tx : Bool)
  /-- LASER_SAMPLE (R316): Every 10 us the laser input power of each wavelength is measured. -/
  | laserSample (p : Fin 16) (k : Fin 8) (dbm : BitVec 16)
  /-- LNK_RETRAIN (R334): Host write of LNK_CTL.RETRAIN starts training. -/
  | lnkRetrain (p : Fin 16)
  /-- LNK_OPEN (R333): Host write of LNK_CTL.OPEN sends OPEN on a FENCED port. -/
  | lnkOpen (p : Fin 16)
  /-- LNK_DISABLE (R334): Host write of LNK_CTL.DISABLE takes a port to DISABLED. -/
  | lnkDisable (p : Fin 16) (v : Bool)
  /-- REFCLK_SYS_LOSS (R31): REFCLK_SYS missing or out of tolerance for 10 us. -/
  | refclkSysLoss
  /-- REFCLK_LINK_LOSS (R31): REFCLK_LINK fails; every port is marked LOST. -/
  | refclkLinkLoss
  /-- PTB_REPLICA_RELOAD (R33): Every 1 us non-FCLK PTB replicas are reloaded. -/
  | ptbReplicaReload (t : W64)
  /-- RELAY_QUEUE_KICK (R347): At a kick-hurdle release the relay engine reads and accepts posted entries. -/
  | relayQueueKick
  /-- RELAY_QUEUE_POLL (R347): The engine re-reads an empty queue every 64 FCLK, up to 16 times. -/
  | relayQueuePoll (d : Fin 8) (x : Fin 64) (q : Fin 3)
  /-- REDUCE_SCATTER (R354): Posted reduce-scatter over DIMS. -/
  | reduceScatter (d : Fin 8) (id : Nat)
  /-- ALL_REDUCE (R356): Posted all-reduce: reduce-scatter then all-gather of shards. -/
  | allReduce (d : Fin 8) (id : Nat)
  /-- ALL_GATHER (R356): Posted all-gather of records. -/
  | allGather (d : Fin 8) (id : Nat)
  /-- DISPATCH (R364): Posted expert dispatch of token rows to receive buffers. -/
  | dispatch (d : Fin 8) (id : Nat)
  /-- COMBINE (R367): Posted return of expert results to origin return slots. -/
  | combine (d : Fin 8) (id : Nat)
  /-- UGRAD_REDUCE (R354): Internal reduce-scatter command created by UGRAD. -/
  | ugradReduce (d : Fin 8) (id : Nat)
  /-- NORM (R361): Internal norm-tree all-reduce created by USIGN STEP. -/
  | norm (d : Fin 8) (id : Nat)
  /-- CODES (R307): Internal all-gather of code records created by UAPPLY. -/
  | codes (d : Fin 8) (id : Nat)
  /-- VOTE (R362): Internal verdict vote created by UPUB VERDICT. -/
  | vote (d : Fin 8) (id : Nat)
  /-- RELAY_COMMAND_START (R350): A relay command starts once its scratch is allocated and sends READY messages. -/
  | relayCommandStart (d : Fin 8)
  /-- READY (R351): A READY relay message arrives and is matched or stored. -/
  | ready (n : Nat)
  /-- RELAY_DATA (R354): A relay DATA segment arrives and is added or stored. -/
  | relayData (n : Nat)
  /-- RELAY_ACK (R352): A relay ACK arrives; the command may send more or complete. -/
  | relayAck (n : Nat)
  /-- RELAY_ABORT (R359): A relay ABORT arrives and aborts the command, spreading. -/
  | relayAbort (n : Nat)
  /-- ROWS (R366): A ROWS pack arrives and its rows and origin entries are written. -/
  | rows (n : Nat)
  /-- RELAY_VALUE (R361): A VALUE message arrives for a norm or vote step. -/
  | relayValue (n : Nat)
  /-- RELAY_REFUSE (R344): A relay REFUSE arrives and the sender aborts with REFUSED. -/
  | relayRefuse (n : Nat)
  /-- READY_RESEND (R351): A refused READY is resent after 1 us. -/
  | readyResend (d : Fin 8) (id : Nat) (j : Nat)
  /-- READY_WAIT_EXPIRE (R352): A command has waited READY_MS for its partner's READY. -/
  | readyWaitExpire (d : Fin 8) (id : Nat) (t : W64)
  /-- PACK_IDLE (R365): A dispatch pack idle for PACK_NS is sent. -/
  | packIdle (d : Fin 8) (id : Nat) (dst : BitVec 16) (t : W64)
  /-- FOLLOW_PROBE (R371): PROBE_US after the last follow request the cores return to their own setting. -/
  | followProbe (n : Fin 8) (x : Fin 64) (t : W64)
  /-- BAR2_READ (R39): Host read through the BAR2 aperture. -/
  | bar2Read (f : Fin 9) (off : Nat) (n : Fin 9)
  /-- BAR2_WRITE (R39): Host write through the BAR2 aperture. -/
  | bar2Write (f : Fin 9) (off : Nat) (bytes : List Byte)
  /-- REGISTER_WRITE (R45): A BAR0 or SMBus write to a register without its own row. -/
  | registerWrite (f : Fin 9) (off : Nat) (v : W64) (wide : Bool) (full : Bool)
  /-- REGISTER_READ_TIMEOUT (R48): A BAR0 read gets no answer within 1 ms. -/
  | registerReadTimeout (f : Fin 9) (off : Nat)
  /-- CSET_COMMIT (R50): Commit write: consistency check then prepare of every block. -/
  | csetCommit (v : W32)
  /-- CSET_DISCARD (R52): Discard write copies active values back into the shadow. -/
  | csetDiscard (v : W32)
  /-- COMMIT_APPLY (R50): Every block is ready and the apply is broadcast. -/
  | commitApply (n : Fin 16)
  /-- COMMIT_TIMEOUT (R50): A block is not ready within 1 ms; the commit is refused TIMEOUT. -/
  | commitTimeout (n : Fin 16) (off : Nat)
  /-- PTB_NOW_LO_READ (R37): Read of PTB_NOW_LO latches PTB_NOW_HI. -/
  | ptbNowLoRead (f : Fin 9)
  /-- ARR_PRODUCTS_LO_READ (R93): Read of ARR_PRODUCTS_LO latches the high word. -/
  | arrProductsLoRead (f : Fin 9) (c : Fin 8)
  /-- SCH_LO_READ (R414): Read of an SCH _LO word latches its _HI word. -/
  | schLoRead (f : Fin 9) (w : SchLo)
  /-- ARR_BANK_STALL_READ (R79): Read-clear of the bank stall count. -/
  | arrBankStallRead (f : Fin 9) (c : Fin 8)
  /-- ARR_BANK_STALL_CYC_READ (R79): Read-clear of the bank stall cycles. -/
  | arrBankStallCycRead (f : Fin 9) (c : Fin 8)
  /-- ARR_WINDOW_TRUNC_READ (R61): Read-clear of the truncated products count. -/
  | arrWindowTruncRead (f : Fin 9) (c : Fin 8)
  /-- ARR_SAT_READ (R110): Read-clear of a class saturation counter. -/
  | arrSatRead (f : Fin 9) (c : Fin 8) (k : Fin 5)
  /-- ARR_NONFIN_READ (R110): Read-clear of a class non-finite counter. -/
  | arrNonfinRead (f : Fin 9) (c : Fin 8) (k : Fin 5)
  /-- ARR_UNDER_READ (R110): Read-clear of a class underflow counter. -/
  | arrUnderRead (f : Fin 9) (c : Fin 8) (k : Fin 5)
  /-- HRD_STRAY_READ (R146): Read-clear of a die's stray arrival count. -/
  | hrdStrayRead (f : Fin 9) (n : Fin 8)
  /-- SEQ_ISSUED_READ (R167): Read-clear of a sequencer's issued count. -/
  | seqIssuedRead (f : Fin 9) (c : Fin 8) (q : SeqId)
  /-- SEQ_GRANT_WAIT_READ (R135): Read-clear of a sequencer's grant-wait cycles. -/
  | seqGrantWaitRead (f : Fin 9) (c : Fin 8) (q : SeqId)
  /-- STR_QUOTA_WAIT_READ (R230): Read-clear of stream quota-wait cycles. -/
  | strQuotaWaitRead (f : Fin 9) (c : Fin 8)
  /-- GTH_QUOTA_WAIT_READ (R250): Read-clear of gather quota-wait cycles. -/
  | gthQuotaWaitRead (f : Fin 9) (c : Fin 8)
  /-- STR_STALE_READ (R243): Read-clear of stale-prefetch detections. -/
  | strStaleRead (f : Fin 9) (c : Fin 8)
  /-- STR_WATCH_EVICT_READ (R243): Read-clear of watch evictions. -/
  | strWatchEvictRead (f : Fin 9) (c : Fin 8)
  /-- MEM_CE_READ (R269): Read-clear of a stack's corrected errors. -/
  | memCeRead (f : Fin 9) (m : Fin 16)
  /-- MEM_UE_READ (R269): Read-clear of a stack's uncorrectable reads. -/
  | memUeRead (f : Fin 9) (m : Fin 16)
  /-- MEM_BLOCKED_READ (R271): Read-clear of writes discarded on blocked rows. -/
  | memBlockedRead (f : Fin 9) (m : Fin 16)
  /-- MEM_INBOUND_CNT_READ (R276): Read-clear of refused remote accesses, re-enabling MEM_INBOUND_REFUSED. -/
  | memInboundCntRead (f : Fin 9)
  /-- STORE_STASH_SPILLS_READ (R289): Read-clear of stash spills. -/
  | storeStashSpillsRead (f : Fin 9) (c : Fin 8)
  /-- STORE_STASH_DROPS_READ (R289): Read-clear of stash drops. -/
  | storeStashDropsRead (f : Fin 9) (c : Fin 8)
  /-- STORE_STASH_WAIT_READ (R289): Read-clear of stash stall cycles. -/
  | storeStashWaitRead (f : Fin 9) (c : Fin 8)
  /-- GEN_STALL_READ (R293): Read-clear of UAPPLY stall cycles. -/
  | genStallRead (f : Fin 9) (c : Fin 8)
  /-- LNK_FEC_CORR_READ (R319): Read-clear of corrected symbols. -/
  | lnkFecCorrRead (f : Fin 9) (p : Fin 16)
  /-- LNK_FEC_UNCORR_READ (R319): Read-clear of uncorrectable codewords. -/
  | lnkFecUncorrRead (f : Fin 9) (p : Fin 16)
  /-- LNK_REPLAYS_READ (R327): Read-clear of flits replayed. -/
  | lnkReplaysRead (f : Fin 9) (p : Fin 16)
  /-- LNK_PEER_LOST_READ (R339): Read-clear of PEER_LOST completions. -/
  | lnkPeerLostRead (f : Fin 9) (p : Fin 16)
  /-- LNK_BAD_MSG_READ (R325): Read-clear of discarded reserved-MTYPE messages. -/
  | lnkBadMsgRead (f : Fin 9) (p : Fin 16)
  /-- REL_CAP_DROP_READ (R364): Read-clear of routing words dropped for capacity. -/
  | relCapDropRead (f : Fin 9) (d : Fin 8)
  /-- REL_READY_RETRY_READ (R351): Read-clear of READY resends. -/
  | relReadyRetryRead (f : Fin 9) (d : Fin 8)
  /-- REL_REFUSED_READ (R344): Read-clear of refused relay messages. -/
  | relRefusedRead (f : Fin 9) (d : Fin 8)
  /-- EQ_DROP_READ (R385): Read-clear of dropped event records. -/
  | eqDropRead (f : Fin 9) (g : Fin 9)
  /-- PSC_DROOP_READ (R462): Read-clear of a core's droop trips. -/
  | pscDroopRead (f : Fin 9) (c : Fin 8)
  /-- PSC_REFUSE_CNT_READ (R484): Read-clear of a refuser's count. -/
  | pscRefuseCntRead (f : Fin 9) (k : Fin 13)
  /-- HNG_PHOTO_STATUS_READ (R450): Read of photo status clears MISSED. -/
  | hngPhotoStatusRead (f : Fin 9)
  /-- HNG_PHOTO_DATA_READ (R451): Read returns a photo word and advances the index. -/
  | hngPhotoDataRead (f : Fin 9)
  /-- GLB_OOS_CLEAR (R448): PF write of 1 to GLB_STATUS.OOS clears out of service if every context allows it. -/
  | glbOosClear
  /-- FLR (R375): Function Level Reset of a VF or the PF. -/
  | flr (f : Fin 9)
  /-- DOORBELL_TAIL_WRITE (R382): Host writes a queue's TAIL doorbell. -/
  | doorbellTailWrite (f : Fin 9) (q : Fin 64) (v : W32) (whole : Bool)
  /-- EQ_HEAD_WRITE (R385): Host writes EQ_HEAD, freeing event slots. -/
  | eqHeadWrite (f : Fin 9) (v : W32) (whole : Bool)
  /-- QUEUE_NOP (R379): Command-queue NOP. -/
  | queueNop (f : Fin 9) (q : Fin 64)
  /-- COPY (R383): Host-queue copy between host, device and physical spaces. -/
  | copy (f : Fin 9) (q : Fin 64) (hostErr : Bool)
  /-- FILL (R383): Host-queue fill with a 64-bit pattern. -/
  | fill (f : Fin 9) (q : Fin 64) (hostErr : Bool)
  /-- ARRIVE (R383): Host-queue command sending N arrivals to a hurdle. -/
  | arrive (f : Fin 9) (q : Fin 64)
  /-- WAIT (R383): Host-queue wait for a hurdle's RELEASES to reach a target. -/
  | wait (f : Fin 9) (q : Fin 64)
  /-- TIMESTAMP (R379): Writes the PTB to a host address. -/
  | timestamp (f : Fin 9) (q : Fin 64) (hostErr : Bool)
  /-- INVAL (R383): VF invalidation of partition translations. -/
  | inval (f : Fin 9) (q : Fin 64)
  /-- QCREATE (R382): Creates a command queue. -/
  | qcreate (f : Fin 9) (q : Fin 64)
  /-- QDELETE (R382): Deletes a command queue after its running commands. -/
  | qdelete (f : Fin 9) (q : Fin 64)
  /-- COMMAND_COMPLETE (R381): A queue command completes; status, head report and vector are written. -/
  | commandComplete (f : Fin 9) (q : Fin 64) (idx : W32)
  /-- WAIT_LIMIT_EXPIRE (R383): A host WAIT reaches LIMIT_US. -/
  | waitLimitExpire (f : Fin 9) (q : Fin 64) (idx : W32) (t : W64)
  /-- EQ_MODERATION_EXPIRE (R385): End of a MOD_US interval signals held event records. -/
  | eqModerationExpire (f : Fin 9) (t : W64)
  /-- NVME_COMPLETION (R393): An NVMe command from the flash SSD completes. -/
  | nvmeCompletion (n : Nat) (error : Bool) (warn : BitVec 8)
  /-- FLASH_COMMAND_TIMEOUT (R393): An NVMe command exceeds 1 s; the SSD is marked lost. -/
  | flashCommandTimeout
  /-- SMB_SET_POINTER (R395): SMBus 0x10 sets the BAR0 pointer. -/
  | smbSetPointer (v : W32) (pec : Bool)
  /-- SMB_READ_WORD (R395): SMBus 0x11 reads the word at the pointer and advances it. -/
  | smbReadWord (pec : Bool)
  /-- SMB_WRITE_WORD (R395): SMBus 0x12 writes the word at the pointer if permitted. -/
  | smbWriteWord (v : W32) (pec : Bool)
  /-- SMB_WAKE (R395): SMBus 0x13 requests exit from Sleep or Deep sleep. -/
  | smbWake (latch : Bool) (pec : Bool)
  /-- SMB_STATUS (R395): SMBus 0x14 returns awake and progress status. -/
  | smbStatus (pec : Bool)
  /-- SMB_ALERT_RESPONSE (R397): Alert Response Address returns the target's address. -/
  | smbAlertResponse
  /-- SMB_ALERT_READ (R397): Read returns and removes the oldest alert entry. -/
  | smbAlertRead (f : Fin 9)
  /-- SMB_ALERT_DROP_READ (R397): Read returns and clears the dropped alert count. -/
  | smbAlertDropRead (f : Fin 9)
  /-- SMB_ADDRESS_MATCH (R396): Address match in Deep sleep wakes the part through the clockless comparator. -/
  | smbAddressMatch
  /-- SMB_BUS_TIMEOUT (R540): SCL held low over 35 ms; the target releases the bus. -/
  | smbBusTimeout
  /-- CTX_CREATE (R401): Creates a context with its seed. -/
  | ctxCreate (f : Fin 9) (q : Fin 64)
  /-- CTX_START (R402): Reads the context descriptor and makes the context READY. -/
  | ctxStart (f : Fin 9) (q : Fin 64)
  /-- CTX_SUSPEND (R400): Stops, saves and suspends a context. -/
  | ctxSuspend (f : Fin 9) (q : Fin 64)
  /-- CTX_RESUME (R400): Makes a SUSPENDED context READY. -/
  | ctxResume (f : Fin 9) (q : Fin 64)
  /-- CTX_RESET (R443): Removes a context's work and returns it to CREATED. -/
  | ctxReset (f : Fin 9) (q : Fin 64)
  /-- CTX_DESTROY (R400): Resets a context and frees it. -/
  | ctxDestroy (f : Fin 9) (q : Fin 64)
  /-- CTX_ENERGY (R401): Writes a context's energy and run time to host memory. -/
  | ctxEnergy (f : Fin 9) (q : Fin 64) (hostErr : Bool)
  /-- HEAT_END (R405): A context's heat end is reached; stop requested or heat renewed. -/
  | heatEnd (p : Fin 8) (t : W64)
  /-- YIELD_WAIT_EXPIRE (R405): Every sequencer has waited YIELD_WAIT_US with another context READY. -/
  | yieldWaitExpire (p : Fin 8) (t : W64)
  /-- STOP_LIMIT_EXPIRE (R407): A stop is incomplete STOP_LIMIT_US after heat end. -/
  | stopLimitExpire (p : Fin 8) (t : W64)
  /-- ENERGY_SAMPLE (R413): Every 10 us core and stack energy is measured and charged. -/
  | energySample (t : W64) (core : List Nat) (stack : List Nat) (rest : Nat)
  /-- SPL_TAKE (R422): Requests a split capture of a context. -/
  | splTake (f : Fin 9) (q : Fin 64)
  /-- SPL_STORE (R428): Copies part of a sealed HBM slot into host memory. -/
  | splStore (f : Fin 9) (q : Fin 64) (hostErr : Bool)
  /-- SPL_RESTORE (R431): Restores a context from a split tier. -/
  | splRestore (f : Fin 9) (q : Fin 64) (hostErr : Bool)
  /-- SPLIT_CAPTURE_STOP (R423): Gate passed and no provisional generation; the capture stops the context. -/
  | splitCaptureStop (x : Fin 64)
  /-- SPLIT_COPY_START (R423): Save complete and no relay command; checks and copy to the buddy begin. -/
  | splitCopyStart (x : Fin 64)
  /-- SPLIT_TAKE_TIMEOUT (R423): LIMIT_MS passes in gate or provisional wait. -/
  | splitTakeTimeout (x : Fin 64) (t : W64)
  /-- SPLIT_DATA (R424): A split DATA segment arrives at the buddy and is written. -/
  | splitData (n : Nat)
  /-- SPLIT_ACK (R424): A split ACK arrives; after the last, SEAL is sent. -/
  | splitAck (n : Nat)
  /-- SEAL (R423): The buddy writes the sealed header and marks the slot newest. -/
  | seal (n : Nat)
  /-- SEAL_ACK (R423): SEAL_ACK arrives; the take completes and the context resumes. -/
  | sealAck (n : Nat)
  /-- READ_REQ (R430): The buddy serves a read of a sealed split slot. -/
  | readReq (n : Nat)
  /-- READ_RSP (R431): Split data arrives for a restore and is checked and written. -/
  | readRsp (n : Nat)
  /-- SPLIT_REFUSE (R424): A split REFUSE arrives; the sender aborts with TOO_LARGE. -/
  | splitRefuse (n : Nat)
  /-- FLASH_DRAIN_COMPLETE (R427): A drain to a flash slot is sealed. -/
  | flashDrainComplete (p : Fin 8)
  /-- SPLIT_DUE (R429): The PTB passes the last seal plus tau. -/
  | splitDue (x : Fin 64) (t : W64)
  /-- WATCHDOG_FIRE (R437): A watchdog reaches its limit; hang handling begins. -/
  | watchdogFire (k : Fin 9) (n : Nat) (q : SeqId) (t : W64)
  /-- ENGINE_RESET_COMPLETE (R438): An engine instance reaches its reset state. -/
  | engineResetComplete (k : Fin 9) (n : Nat)
  /-- ENGINE_RESET_TIMEOUT (R438): An engine fails to reset within 100 us; package warm reset. -/
  | engineResetTimeout (k : Fin 9) (n : Nat)
  /-- REPLAY_CHECKPOINT (R439): After CKPT_MS of run time without a save, a checkpoint stop is requested. -/
  | replayCheckpoint (x : Fin 64) (t : W64)
  /-- REPLAY_TIMEOUT (R441): REPLAY_MS elapses without a firing; the suspect is cleared. -/
  | replayTimeout (p : Fin 8) (t : W64)
  /-- PHOTO_UNIT_TIMEOUT (R449): A photo unit does not answer within UNIT_US. -/
  | photoUnitTimeout (n : Nat) (started : Bool) (t : W64)
  /-- PHOTO_COMPLETE (R450): A photo finishes and is copied to flash. -/
  | photoComplete (recs : List (W64 × List Byte)) (t : W64)
  /-- HNG_PHOTO_TAKE (R450): Host requests a photo with cause HOST. -/
  | hngPhotoTake
  /-- HNG_RESET_WARM (R445): Keyed write requests a package warm reset. -/
  | hngResetWarm (v : W32)
  /-- CONTROL_PERIOD (R456): Every 100 us the PSC reads sensors and chooses each partition's frequency. -/
  | controlPeriod (temps : List (BitVec 16)) (mean : Nat) (amps : List Nat) (canaries rings : List (BitVec 16)) (t : W64)
  /-- INPUT_SAMPLE (R454): Every 10 us input voltage and current are measured. -/
  | inputSample (vin : BitVec 16)
  /-- INPUT_DEGRADE_TIMEOUT (R454): Input below 44.0 V for 10 ms; the degraded cap applies. -/
  | inputDegradeTimeout
  /-- INPUT_SHUTDOWN (R454): Input below 38.0 V for 100 us; the part enters Off. -/
  | inputShutdown
  /-- PSC_INPUT_WRITE (R454): Board write of REDUN_LOST enters or leaves the degraded condition. -/
  | pscInputWrite (v : W32)
  /-- FREQUENCY_STEP (R457): Voltage ready; the core's ACLK moves one 25 MHz step. -/
  | frequencyStep (c : Fin 8)
  /-- DROOP_TRIP (R462): A droop detector trips and ACLK periods lengthen. -/
  | droopTrip (c : Fin 8)
  /-- DROOP_RECOVER (R462): 64 cycles after the last trip the normal period is restored in steps. -/
  | droopRecover (c : Fin 8)
  /-- BRIM_REPLAN (R460): A core's brim offset is re-planned at idle after 24 h or in service at 25 h. -/
  | brimReplan (c : Fin 8) (t : W64)
  /-- THERMAL_TRIP (R466): A sensor reaches 115 C; THERMTRIP_N asserted and power removed. -/
  | thermalTrip
  /-- CORE_IDLE_ENTRY (R474): A core's array idles IDLE_ENTRY_US and ACLK stops. -/
  | coreIdleEntry (c : Fin 8) (t : W64)
  /-- IDLE_EXIT (R29): ACLK restarts after a command enters crossing 1 of an Idle core. -/
  | idleExit (c : Fin 8)
  /-- POWER_STATE_ATTEMPT (R477): After DWELL_MS in Idle the PSC checks refusers and begins entry. -/
  | powerStateAttempt (t : W64)
  /-- POWER_STATE_ENTERED (R477): Entry sequence completes and the state is latched in AON. -/
  | powerStateEntered
  /-- WAKE_N_LOW (R481): WAKE_N low level or falling edge wakes the part or starts from Off. -/
  | wakeNLow (latch : Bool) (held : Bool)
  /-- WAKE_TIMER (R481): The PTB reaches PSC_WAKE_AT. -/
  | wakeTimer (latch : Bool)
  /-- POWER_STATE_EXIT_COMPLETE (R473): Exit from Sleep or Deep sleep completes; contexts may run. -/
  | powerStateExitComplete (ticks : Nat)
  /-- PSC_CTL_OFF (R480): Keyed write requests Off. -/
  | pscCtlOff (v : W32)
  /-- POWER_GOOD_STAGE (R495): Stage 1: rails ramped and checked after PWRGD. -/
  | powerGoodStage (vin : BitVec 16) (rails : Bool)
  /-- CROWN_STAGE (R487): Stage 2: crown claims and start counter BEGIN record. -/
  | crownStage (mwDeg : Bool) (meDeg : Bool)
  /-- CROWN_CLAIM_TIMEOUT (R487): No claim received within 100 us; the other die is degraded. -/
  | crownClaimTimeout (me : Bool)
  /-- IMAGE_STAGE (R494): Stage 3: stage copy, image check, firmware load and set commits. -/
  | imageStage (w : ImageWorld)
  /-- GAUNTLET_STAGE (R521): Stage 4: gauntlet run and marking of unusable units. -/
  | gauntletStage (us : List GntUnit)
  /-- HBM_STAGE (R272): Stage 5: HBM training, map-out, repair, initialisation and window checks. -/
  | hbmStage (w : HbmWorld)
  /-- LINK_STAGE (R333): Stage 6: every mapped port trains until UP, MISMATCH or TRAIN_MS. -/
  | linkStage (t : W64)
  /-- CORE_RELEASE_STAGE (R495): Stage 7: sequencers released and cores taken to Run. -/
  | coreReleaseStage (idle : BitVec 8)
  /-- RECORD_STAGE (R495): Stage 8: start record published and GOOD record written. -/
  | recordStage
  /-- FALSE_START_RETRY (R497): 1 s after a false start with CONSEC below 3, a warm reset. -/
  | falseStartRetry
  /-- CROWN_HEARTBEAT (R488): Every 2 us each management die sends a heartbeat. -/
  | crownHeartbeat (me : Bool)
  /-- CROWN_HEARTBEAT_RECEIVED (R488): A heartbeat arrives; a double crown is detected and re-arbitrated. -/
  | crownHeartbeatReceived (mwDeg : Bool) (meDeg : Bool) (t : W64)
  /-- CROWN_TAKEOVER (R488): No heartbeat for 10 us; the die takes the crown and warm-resets. -/
  | crownTakeover (me : Bool)
  /-- CRN_WARMUP (R498): Keyed write enters warm-up mode via a WARM_UP record and warm reset. -/
  | crnWarmup (v : W32)
  /-- CRN_RESTART (R498): Keyed write in warm-up mode writes RETRY and warm-resets. -/
  | crnRestart (v : W32)
  /-- CRN_LOCK_WRITE (R503): Setting the owner lock refuses staging and aborts an open session. -/
  | crnLockWrite (v : W32)
  /-- CRN_STG_BEGIN (R503): Opens a staging session and erases the stage bank. -/
  | crnStgBegin
  /-- CRN_STG_DATA_WRITE (R503): Writes 4 image bytes into the staging buffer. -/
  | crnStgDataWrite (v : W32)
  /-- CRN_STG_END (R503): Closes the session and starts the bank check. -/
  | crnStgEnd
  /-- CRN_STG_ABORT (R503): Ends a staging session with cause HOST. -/
  | crnStgAbort
  /-- STAGE_CHECK_COMPLETE (R503): The staged image is checked and the bank becomes VALID or REJECTED. -/
  | stageCheckComplete (sig : Bool) (own : Bool)
  /-- CRN_ACT_ARM (R504): Keyed write arms an activation at CRN_ACT_TIME. -/
  | crnActArm (v : W32)
  /-- CRN_ACT_DISARM (R504): Cancels an armed activation. -/
  | crnActDisarm (v : W32)
  /-- CRN_ACT_COPY_NOW (R508): In warm-up mode writes a RETRY record with ACT_PENDING. -/
  | crnActCopyNow (v : W32)
  /-- ACTIVATION_TIME (R504): The PTB reaches the activation time; ACTIVATE record and captures. -/
  | activationTime (t : W64)
  /-- ACTIVATION_RESET (R504): Captures and drains finish or SPLIT_MS passes; warm reset. -/
  | activationReset (t : W64)
  /-- CRN_LIFE_DEPLOY (R501): Keyed write with TARGET 3 moves Provisioned to Deployed. -/
  | crnLifeDeploy (v : W32)
  /-- CRN_LIFE_SCRAP (R501): Keyed write with TARGET 5 moves the part to Scrapped. -/
  | crnLifeScrap (v : W32)
  /-- JTAG_FUSING (R501): Vendor fusing through JTAG moves Blank or Manufacturing forward. -/
  | jtagFusing
  /-- GNT_START (R522): PF starts an in-service gauntlet run of one unit. -/
  | gntStart (v : W32)
  /-- GAUNTLET_RUN_COMPLETE (R522): An in-service gauntlet run ends with its result and repairs. -/
  | gauntletRunComplete (g : GntUnit)
  /-- VAUX33_APPLY (R529): Auxiliary supply comes up; crystal starts and straps are sampled. -/
  | vaux33Apply (straps : Fin 4)
  /-- PWRGD_RISE (R529): PWRGD rising begins a cold start. -/
  | pwrgdRise
  /-- PWRGD_FALL (R535): PWRGD falling sends NOTICE and removes power. -/
  | pwrgdFall
  /-- PERST_N_ASSERT (R536): PERST_N assertion resets the host port and acts as PF FLR. -/
  | perstNAssert
  /-- PERST_N_DEASSERT (R536): PERST_N deassertion lets the host port train. -/
  | perstNDeassert (speed : BitVec 4) (width : BitVec 5) (flit : Bool)
  /-- REGISTER_READ (R48): A BAR0 read that has behaviour of its own: it wakes a block whose clock is stopped, is filtered and raises HIF_BAD_ACCESS for a VF, or returns 0xFFFF_FFFF during warm reset or warm-up mode. -/
  | registerRead (f : Fin 9) (off : Nat) (wide : Bool)
  /-- PCIE_L1_EXIT (R481): The host takes the PCIe link out of L1, which is a wake level for Sleep and Deep sleep. -/
  | pcieL1Exit
  /-- VF_ENABLE_CLEAR (R375): Clearing VF Enable in the PF's SR-IOV capability resets every VF as an FLR would. -/
  | vfEnableClear (n : Fin 9)
  /-- FLASH_LINK_DOWN (R393): The flash port's link goes down, or the SSD reports controller fatal status, and the SSD is marked lost with HIF_FLASH_DOWN. -/
  | flashLinkDown
  /-- VAUX33_REMOVE (R530): Removing the 3.3 V auxiliary supply clears PSC_STATUS.TRIPPED and the AON domain. -/
  | vaux33Remove
  /-- STAGING_BUFFER_PROGRAMMED (R503): Staged image words held in the staging buffer are programmed into the stage bank, and CRN_STG_STATUS.SPACE grows again. -/
  | stagingBufferProgrammed (n : Nat)
  deriving DecidableEq, Repr

end Sys2Proof
end

