-- ==== Sys2Proof/Decode.lean ====
section
/-! DEFINITION. The words of the sequencers' instructions (R168, R169, R171), and the words of the opcode table. -/

namespace Sys2Proof

/-- The command that a word of the opcode table spells: the table gives no row any bits, so there is none
(notes/assumptions/1). -/
def decodeTableWord (_nbits _w : Nat) : Option Instr := none

/-! ## Formats (R168, R169): the opcode, PN and PR, and then the fields from bit 51 downward -/

/-- Format SR as a word. -/
def SR.word (w : SR) (op : BitVec 8) : W64 :=
  op ++ (BitVec.ofBool w.pn) ++ w.pr ++ w.d ++ w.a ++ w.b ++ w.cc ++ w.zero ++ w.fn
def SR.ofWord (v : W64) : SR :=
  ⟨v.getLsbD 55, v.extractLsb' 52 3, v.extractLsb' 47 5, v.extractLsb' 42 5, v.extractLsb' 37 5, v.extractLsb' 32 5, v.extractLsb' 4 28, v.extractLsb' 0 4⟩

/-- Format SI as a word. -/
def SI.word (w : SI) (op : BitVec 8) : W64 :=
  op ++ (BitVec.ofBool w.pn) ++ w.pr ++ w.d ++ w.a ++ w.fn ++ w.zero ++ w.imm
def SI.ofWord (v : W64) : SI :=
  ⟨v.getLsbD 55, v.extractLsb' 52 3, v.extractLsb' 47 5, v.extractLsb' 42 5, v.extractLsb' 38 4, v.extractLsb' 32 6, v.extractLsb' 0 32⟩

/-- Format CT as a word. -/
def CT.word (w : CT) (op : BitVec 8) : W64 :=
  op ++ (BitVec.ofBool w.pn) ++ w.pr ++ w.d ++ w.a ++ (BitVec.ofBool w.win) ++ w.zero ++ w.imm
def CT.ofWord (v : W64) : CT :=
  ⟨v.getLsbD 55, v.extractLsb' 52 3, v.extractLsb' 47 5, v.extractLsb' 42 5, v.getLsbD 41, v.extractLsb' 32 9, v.extractLsb' 0 32⟩

/-- Format H as a word. -/
def HF.word (w : HF) (op : BitVec 8) : W64 :=
  op ++ (BitVec.ofBool w.pn) ++ w.pr ++ w.sa ++ w.sb ++ (BitVec.ofBool w.remote) ++ w.hid ++ (BitVec.ofBool w.df) ++ w.zero
def HF.ofWord (v : W64) : HF :=
  ⟨v.getLsbD 55, v.extractLsb' 52 3, v.extractLsb' 47 5, v.extractLsb' 42 5, v.getLsbD 41, v.extractLsb' 29 12, v.getLsbD 28, v.extractLsb' 0 28⟩

/-- Format E as a word. -/
def EF.word (w : EF) (op : BitVec 8) : W64 :=
  op ++ (BitVec.ofBool w.pn) ++ w.pr ++ w.sd ++ w.sb ++ (BitVec.ofBool w.hv) ++ w.hid ++ w.xf ++ w.doff
def EF.ofWord (v : W64) : EF :=
  ⟨v.getLsbD 55, v.extractLsb' 52 3, v.extractLsb' 47 5, v.extractLsb' 42 5, v.getLsbD 41, v.extractLsb' 29 12, v.extractLsb' 24 5, v.extractLsb' 0 24⟩

/-- Format EA as a word. -/
def EA.word (w : EA) (op : BitVec 8) : W64 :=
  op ++ (BitVec.ofBool w.pn) ++ w.pr ++ w.sd ++ w.sb ++ (BitVec.ofBool w.hv) ++ w.hid ++ w.xf ++ w.ar ++ w.doff
def EA.ofWord (v : W64) : EA :=
  ⟨v.getLsbD 55, v.extractLsb' 52 3, v.extractLsb' 47 5, v.extractLsb' 42 5, v.getLsbD 41, v.extractLsb' 29 12, v.extractLsb' 24 5, v.extractLsb' 20 4, v.extractLsb' 0 20⟩

/-! ## Opcodes (R171) -/

/-- The opcode of a word. -/
def opcodeOf (v : W64) : BitVec 8 := v.extractLsb' 56 8

/-- The instruction of a word, on a core and a sequencer; none for a reserved opcode. USIGN and UPUB are told apart by the KIND of their
descriptors (R298, R309). -/
def decodeWord (c : CoreId) (q : SeqId) (kind : Nat) (v : W64) : Option Instr :=
  match (opcodeOf v).toNat with
  | 0x01 => some (.sadd c q (.ofWord v))
  | 0x02 => some (.ssub c q (.ofWord v))
  | 0x03 => some (.sand c q (.ofWord v))
  | 0x04 => some (.sor c q (.ofWord v))
  | 0x05 => some (.sxor c q (.ofWord v))
  | 0x06 => some (.sshl c q (.ofWord v))
  | 0x07 => some (.sshr c q (.ofWord v))
  | 0x08 => some (.ssra c q (.ofWord v))
  | 0x09 => some (.smul c q (.ofWord v))
  | 0x0A => some (.sdiv c q (.ofWord v))
  | 0x0B => some (.sdivu c q (.ofWord v))
  | 0x0C => some (.srem c q (.ofWord v))
  | 0x0D => some (.sremu c q (.ofWord v))
  | 0x11 => some (.saddi c q (.ofWord v))
  | 0x12 => some (.ssubi c q (.ofWord v))
  | 0x13 => some (.sandi c q (.ofWord v))
  | 0x14 => some (.sori c q (.ofWord v))
  | 0x15 => some (.sxori c q (.ofWord v))
  | 0x16 => some (.sshli c q (.ofWord v))
  | 0x17 => some (.sshri c q (.ofWord v))
  | 0x18 => some (.ssrai c q (.ofWord v))
  | 0x19 => some (.smuli c q (.ofWord v))
  | 0x1A => some (.sdivi c q (.ofWord v))
  | 0x1B => some (.sdivui c q (.ofWord v))
  | 0x1C => some (.sremi c q (.ofWord v))
  | 0x1D => some (.sremui c q (.ofWord v))
  | 0x20 => some (.smovi c q (.ofWord v))
  | 0x21 => some (.smovhi c q (.ofWord v))
  | 0x22 => some (.smova c q (.ofWord v))
  | 0x23 => some (.amov c q (.ofWord v))
  | 0x24 => some (.aadd c q (.ofWord v))
  | 0x25 => some (.aaddi c q (.ofWord v))
  | 0x28 => some (.scmp c q (.ofWord v))
  | 0x29 => some (.scmpi c q (.ofWord v))
  | 0x2A => some (.spred c q (.ofWord v))
  | 0x30 => some (.fadd c q (.ofWord v))
  | 0x31 => some (.fmul c q (.ofWord v))
  | 0x32 => some (.ffma c q (.ofWord v))
  | 0x33 => some (.fcvti c q (.ofWord v))
  | 0x34 => some (.icvtf c q (.ofWord v))
  | 0x38 => some (.sld c q (.ofWord v))
  | 0x39 => some (.sst c q (.ofWord v))
  | 0x3A => some (.ssys c q (.ofWord v))
  | 0x40 => some (.mshape c q (.ofWord v))
  | 0x41 => some (.mpre c q (.ofWord v))
  | 0x42 => some (.mpass c q (.ofWord v))
  | 0x43 => some (.mdrain c q (.ofWord v))
  | 0x50 => some (.tstream c q (.ofWord v))
  | 0x51 => some (.trearm c q (.ofWord v))
  | 0x52 => some (.tcancel c q (.ofWord v))
  | 0x53 => some (.tstat c q (.ofWord v))
  | 0x54 => some (.tgather c q (.ofWord v))
  | 0x60 => some (.harm c q (.ofWord v))
  | 0x61 => some (.harrive c q (.ofWord v))
  | 0x62 => some (.hwait c q (.ofWord v))
  | 0x63 => some (.hread c q (.ofWord v))
  | 0x70 => some (.wnorm c q (.ofWord v))
  | 0x71 => some (.wnormb c q (.ofWord v))
  | 0x72 => some (.wsmax c q (.ofWord v))
  | 0x73 => some (.wsmaxb c q (.ofWord v))
  | 0x74 => some (.wact c q (.ofWord v))
  | 0x75 => some (.wactb c q (.ofWord v))
  | 0x76 => some (.wew c q (.ofWord v))
  | 0x77 => some (.wloss c q (.ofWord v))
  | 0x80 => some (.xspec c q (.ofWord v))
  | 0x81 => some (.xcommit c q (.ofWord v))
  | 0x82 => some (.xdiscard c q (.ofWord v))
  | 0x84 => some (.xstash c q (.ofWord v))
  | 0x85 => some (.xrecall c q (.ofWord v))
  | 0x86 => some (.xfree c q (.ofWord v))
  | 0x88 => some (.xrcheck c q (.ofWord v))
  | 0x90 => some (.ugrad c q (.ofWord v))
  | 0x92 => some (.uapply c q (.ofWord v))
  | 0xA0 => some (.nop c q (.ofWord v))
  | 0xA1 => some (.br c q (.ofWord v))
  | 0xA2 => some (.call c q (.ofWord v))
  | 0xA3 => some (.jr c q (.ofWord v))
  | 0xA4 => some (.cheap c q (.ofWord v))
  | 0xA5 => some (.endIssue c q (.ofWord v))
  | 0x91 => some (if kind = 1 then .usignStep c q (.ofWord v) else .usignPlane c q (.ofWord v))
  | 0x93 => some (if kind = 1 then .upubPublish c q (.ofWord v) else if kind = 2 then .upubVerdict c q (.ofWord v) else .upubInit c q (.ofWord v))
  | _ => none

/-- An instruction with what its word needs beside it: core, sequencer, KIND of its descriptor, and the word; none for the commands that
are no instructions of a sequencer. -/
def encodeWord : Instr → Option (CoreId × SeqId × Nat × W64)
  | .sadd c q w => some (c, q, 0, w.word 0x01)
  | .ssub c q w => some (c, q, 0, w.word 0x02)
  | .sand c q w => some (c, q, 0, w.word 0x03)
  | .sor c q w => some (c, q, 0, w.word 0x04)
  | .sxor c q w => some (c, q, 0, w.word 0x05)
  | .sshl c q w => some (c, q, 0, w.word 0x06)
  | .sshr c q w => some (c, q, 0, w.word 0x07)
  | .ssra c q w => some (c, q, 0, w.word 0x08)
  | .smul c q w => some (c, q, 0, w.word 0x09)
  | .sdiv c q w => some (c, q, 0, w.word 0x0A)
  | .sdivu c q w => some (c, q, 0, w.word 0x0B)
  | .srem c q w => some (c, q, 0, w.word 0x0C)
  | .sremu c q w => some (c, q, 0, w.word 0x0D)
  | .saddi c q w => some (c, q, 0, w.word 0x11)
  | .ssubi c q w => some (c, q, 0, w.word 0x12)
  | .sandi c q w => some (c, q, 0, w.word 0x13)
  | .sori c q w => some (c, q, 0, w.word 0x14)
  | .sxori c q w => some (c, q, 0, w.word 0x15)
  | .sshli c q w => some (c, q, 0, w.word 0x16)
  | .sshri c q w => some (c, q, 0, w.word 0x17)
  | .ssrai c q w => some (c, q, 0, w.word 0x18)
  | .smuli c q w => some (c, q, 0, w.word 0x19)
  | .sdivi c q w => some (c, q, 0, w.word 0x1A)
  | .sdivui c q w => some (c, q, 0, w.word 0x1B)
  | .sremi c q w => some (c, q, 0, w.word 0x1C)
  | .sremui c q w => some (c, q, 0, w.word 0x1D)
  | .smovi c q w => some (c, q, 0, w.word 0x20)
  | .smovhi c q w => some (c, q, 0, w.word 0x21)
  | .smova c q w => some (c, q, 0, w.word 0x22)
  | .amov c q w => some (c, q, 0, w.word 0x23)
  | .aadd c q w => some (c, q, 0, w.word 0x24)
  | .aaddi c q w => some (c, q, 0, w.word 0x25)
  | .scmp c q w => some (c, q, 0, w.word 0x28)
  | .scmpi c q w => some (c, q, 0, w.word 0x29)
  | .spred c q w => some (c, q, 0, w.word 0x2A)
  | .fadd c q w => some (c, q, 0, w.word 0x30)
  | .fmul c q w => some (c, q, 0, w.word 0x31)
  | .ffma c q w => some (c, q, 0, w.word 0x32)
  | .fcvti c q w => some (c, q, 0, w.word 0x33)
  | .icvtf c q w => some (c, q, 0, w.word 0x34)
  | .sld c q w => some (c, q, 0, w.word 0x38)
  | .sst c q w => some (c, q, 0, w.word 0x39)
  | .ssys c q w => some (c, q, 0, w.word 0x3A)
  | .nop c q w => some (c, q, 0, w.word 0xA0)
  | .br c q w => some (c, q, 0, w.word 0xA1)
  | .call c q w => some (c, q, 0, w.word 0xA2)
  | .jr c q w => some (c, q, 0, w.word 0xA3)
  | .cheap c q w => some (c, q, 0, w.word 0xA4)
  | .endIssue c q w => some (c, q, 0, w.word 0xA5)
  | .mshape c q w => some (c, q, 0, w.word 0x40)
  | .mpre c q w => some (c, q, 0, w.word 0x41)
  | .mpass c q w => some (c, q, 0, w.word 0x42)
  | .mdrain c q w => some (c, q, 0, w.word 0x43)
  | .tstream c q w => some (c, q, 0, w.word 0x50)
  | .trearm c q w => some (c, q, 0, w.word 0x51)
  | .tcancel c q w => some (c, q, 0, w.word 0x52)
  | .tstat c q w => some (c, q, 0, w.word 0x53)
  | .tgather c q w => some (c, q, 0, w.word 0x54)
  | .harm c q w => some (c, q, 0, w.word 0x60)
  | .harrive c q w => some (c, q, 0, w.word 0x61)
  | .hwait c q w => some (c, q, 0, w.word 0x62)
  | .hread c q w => some (c, q, 0, w.word 0x63)
  | .wnorm c q w => some (c, q, 0, w.word 0x70)
  | .wnormb c q w => some (c, q, 0, w.word 0x71)
  | .wsmax c q w => some (c, q, 0, w.word 0x72)
  | .wsmaxb c q w => some (c, q, 0, w.word 0x73)
  | .wact c q w => some (c, q, 0, w.word 0x74)
  | .wactb c q w => some (c, q, 0, w.word 0x75)
  | .wew c q w => some (c, q, 0, w.word 0x76)
  | .wloss c q w => some (c, q, 0, w.word 0x77)
  | .xspec c q w => some (c, q, 0, w.word 0x80)
  | .xcommit c q w => some (c, q, 0, w.word 0x81)
  | .xdiscard c q w => some (c, q, 0, w.word 0x82)
  | .xstash c q w => some (c, q, 0, w.word 0x84)
  | .xrecall c q w => some (c, q, 0, w.word 0x85)
  | .xfree c q w => some (c, q, 0, w.word 0x86)
  | .xrcheck c q w => some (c, q, 0, w.word 0x88)
  | .ugrad c q w => some (c, q, 0, w.word 0x90)
  | .uapply c q w => some (c, q, 0, w.word 0x92)
  | .usignPlane c q w => some (c, q, 0, w.word 0x91)
  | .usignStep c q w => some (c, q, 1, w.word 0x91)
  | .upubInit c q w => some (c, q, 0, w.word 0x93)
  | .upubPublish c q w => some (c, q, 1, w.word 0x93)
  | .upubVerdict c q w => some (c, q, 2, w.word 0x93)
  | _ => none

end Sys2Proof
end

