-- ==== Sys2Proof/Machine/EventNames.lean ====
section
/-! DEFINITION. The names of the events and faults (R12), with BLOCK and INDEX of R387, in the order of the events
tables of chapters 03 to 18. -/

namespace Sys2Proof.Machine

/-- Every event and fault name of the events tables. -/
inductive EvName where
  /-- ARR_BANK_STATE, fault: A command is invalid against its bank's projected state (R75), or MPRE names the reserved mode -/
  | arrBankState
  /-- ARR_SHAPE_MISMATCH, fault: MPASS names a bank whose shape tag differs from the current shape (R81) -/
  | arrShapeMismatch
  /-- ARR_SHAPE_FORMAT, fault: A tagged pairing in a mitten shape, or a B block size of 16 in mitten-64 or mitten-16 (R66) -/
  | arrShapeFormat
  /-- ARR_FORMAT, fault: A reserved pairing or output format -/
  | arrFormat
  /-- ARR_POISON, event: The first poisoned element of a pass, when enabled -/
  | arrPoison
  /-- ARR_WINDOW_TRUNC, event: The first truncated product of a pass, when enabled -/
  | arrWindowTrunc
  /-- X_ILLEGAL, fault: A reserved opcode or field value, or a class issued by a sequencer that may not issue it -/
  | xIllegal
  /-- X_CODE, fault: Fetch outside a CODE region with execute permission (R126) -/
  | xCode
  /-- X_REGION, fault: A core-store access not permitted (R140, R152) -/
  | xRegion
  /-- X_ALIGN, fault: A misaligned offset (R140) -/
  | xAlign
  /-- X_QUOTA, fault: A slot or index-stream instruction with a quota of zero (R136) -/
  | xQuota
  /-- X_DESCRIPTOR, fault: A live-range descriptor with more than 16 ranges -/
  | xDescriptor
  /-- X_HURDLE_STATE, fault: HARM on a hurdle that is neither IDLE nor ARMED with COUNT zero -/
  | xHurdleState
  /-- X_HURDLE_OWNER, fault: A hurdle instruction on a hurdle of another context -/
  | xHurdleOwner
  /-- X_HURDLE_OVERRUN, event: A hurdle poisoned by overrun (R145) -/
  | xHurdleOverrun
  /-- X_HURDLE_STRAY, event: The first stray arrival at a hurdle (R146) -/
  | xHurdleStray
  /-- X_SPEC_STATE, fault: XSPEC without a shadow, or XCOMMIT or XDISCARD on a closed window -/
  | xSpecState
  /-- X_SPEC_WRITE, fault: A speculative write outside its window's pairs (R160) -/
  | xSpecWrite
  /-- X_SPEC_HELD, event: The first held instruction of a window (R161) -/
  | xSpecHeld
  /-- X_HOLD, event: A context entered HOLD (R158) -/
  | xHold
  /-- X_STASH_FULL, event: Defined in One training step: passes, stash, generations and the update exchange -/
  | xStashFull
  /-- X_STASH_EXHAUSTED, fault: As above -/
  | xStashExhausted
  /-- X_REPLAY_DIVERGED, event: As above -/
  | xReplayDiverged
  /-- ROW_FORMAT, fault: A reserved FN, format or class value, an L above 65,536 in WNORM or WNORMB, or a Z_SCALE of NONE with a BSF Z_FMT (R198) -/
  | rowFormat
  /-- ROW_STAT_MISSING, fault: WNORMB or WSMAXB finds no statistics entry for a row -/
  | rowStatMissing
  /-- STR_PROGRAM, fault: The stride program fails a check of R221 -/
  | strProgram
  /-- STR_REARM_REJECT, fault: TREARM with a re-arm already pending (R239) -/
  | strRearmReject
  /-- STR_PAGE_FAULT, event: A slot halts on an absent page (R244) -/
  | strPageFault
  /-- STR_PAGE_INVALID, fault: A page request fails, or STR_ABORT (R245) -/
  | strPageInvalid
  /-- STR_PERM, fault: A memory-side permission refusal or remote refusal of a stream line (R246); an absent page, refused permission or missing window met by a U-class instruction or by the stash (R216, R283) -/
  | strPerm
  /-- STR_STALE_PREFETCH, event: A write to a watched line in check mode (R243) -/
  | strStalePrefetch
  /-- GTH_INDEX_RANGE, fault: An out-of-range index under OOR FAULT (R248) -/
  | gthIndexRange
  /-- GTH_PAGE_FAULT, event: As STR_PAGE_FAULT, for an index stream -/
  | gthPageFault
  /-- GTH_PAGE_INVALID, fault: As STR_PAGE_INVALID, through GTH_ABORT -/
  | gthPageInvalid
  /-- GTH_PERM, fault: As STR_PERM, for an index stream -/
  | gthPerm
  /-- MEM_UNCORRECTABLE, fault: A poisoned line is read (R269) -/
  | memUncorrectable
  /-- MEM_PTE_INVALID, event: A malformed page-table entry (R261) -/
  | memPteInvalid
  /-- MEM_ROW_REPAIRED, event: A soft repair (R270) -/
  | memRowRepaired
  /-- MEM_FRAME_RETIRED, event: A frame is retired (R271) -/
  | memFrameRetired
  /-- MEM_CHANNEL_OUT, event: A channel is mapped out at start (R272), with the stack and the channel number -/
  | memChannelOut
  /-- MEM_SPEED_FALLBACK, event: A stack trained at 6.4 Gb/s (R255) -/
  | memSpeedFallback
  /-- MEM_SPEC_MIXED, event: One opening of a speculation window is committed on some cores of a partition and discarded on others, whether or not a SHADOW window is bound to it (R264) -/
  | memSpecMixed
  /-- MEM_INBOUND_REFUSED, event: A remote access is refused (R274) while MEM_INBOUND_CNT reads zero: the first refusal after cold reset, and the first after each read of MEM_INBOUND_CNT at its own offset -/
  | memInboundRefused
  /-- MEM_LOG_FULL, event: The repair log is full -/
  | memLogFull
  /-- MEM_WINDOW_DROPPED, event: An INBOUND window beyond MEM_LIMIT is turned OFF at start (R273) -/
  | memWindowDropped
  /-- U_STEP_SCALE, fault: A reserved STEP_E or rounding mode (R121, R122) -/
  | uStepScale
  /-- U_CODE_RESERVED, fault: A code of 0b10 in any gathered plane -/
  | uCodeReserved
  /-- U_CODE_HEADER, fault: A header or record that disagrees with its descriptor or with the others (R307, R309) -/
  | uCodeHeader
  /-- U_GEN_STATE, fault: UAPPLY, UPUB INIT or UPUB PUBLISH invalid in the entry's state or with no entry, or a full table (R292) -/
  | uGenState
  /-- U_GEN_STALL, event: UAPPLY waits on a referenced slot (R293) -/
  | uGenStall
  /-- U_VERDICT_SPLIT, event: Verdicts in the group disagree; REJECT is taken -/
  | uVerdictSplit
  /-- LNK_PORT_UP, event: A port completes training (R333) -/
  | lnkPortUp
  /-- LNK_PORT_LOST, event: A port is marked LOST (R338) -/
  | lnkPortLost
  /-- LNK_PORT_SHED, event: A trunk member enters SHED (R330) -/
  | lnkPortShed
  /-- LNK_TRAIN_FAIL, event: A port reaches TRAIN_MS untrained -/
  | lnkTrainFail
  /-- LNK_MISMATCH, event: IDENT checks fail -/
  | lnkMismatch
  /-- LNK_LANE_SPARED, event: A spare lane is taken in service (R320) -/
  | lnkLaneSpared
  /-- LNK_WIDTH_REDUCED, event: A direction loses a wavelength (R321) -/
  | lnkWidthReduced
  /-- LNK_LASER_LOW, event: A laser wavelength is below +14.0 dBm for 1 ms (R316) -/
  | lnkLaserLow
  /-- LNK_NO_ROUTE, event: A message has no UP port on its route (R329), with the dimension and the destination -/
  | lnkNoRoute
  /-- LNK_REFCLK_LOST, event: REFCLK_LINK is lost (R31) -/
  | lnkRefclkLost
  /-- REL_ABORT, event: A command aborts, with its key, queue and status (R358, R359) -/
  | relAbort
  /-- REL_QUEUE, event: A kick finds no new entry after 16 reads (R347) -/
  | relQueue
  /-- REL_WAIT_LONG, event: A partner's READY is awaited beyond READY_MS (R352) -/
  | relWaitLong
  /-- REL_LAGGARD, event: A release shows a laggard (R369) -/
  | relLaggard
  /-- HIF_APERTURE_RANGE, event: R39 -/
  | hifApertureRange
  /-- HIF_BAD_ACCESS, event: R40, R45, R346, R376 -/
  | hifBadAccess
  /-- HIF_COMMIT_REFUSED, event: R50 -/
  | hifCommitRefused
  /-- HIF_REG_TIMEOUT, event: R48 -/
  | hifRegTimeout
  /-- HIF_QUEUE_ERROR, event: A queue enters ERROR (R382) -/
  | hifQueueError
  /-- HIF_DOORBELL_STRAY, event: R382 -/
  | hifDoorbellStray
  /-- HIF_EQ_OVERFLOW, event: R385 -/
  | hifEqOverflow
  /-- HIF_FLR, event: An FLR completes (R375), with the function -/
  | hifFlr
  /-- HIF_FLASH_DOWN, event: The flash SSD is absent, fails initialisation, or is lost in service (R393) -/
  | hifFlashDown
  /-- HIF_FLASH_ERROR, event: An NVMe command completes with an error status, or the SMART critical warning changes -/
  | hifFlashError
  /-- X_STOP_LATE, event: A stop is not complete STOP_LIMIT_US after heat end (R407) -/
  | xStopLate
  /-- X_SAVE_OVERFLOW, fault: A save does not fit in its frame (R410) -/
  | xSaveOverflow
  /-- SPL_DUE, event: τ has passed since the last seal (R429) -/
  | splDue
  /-- SPL_SEALED, event: A capture seals, with the context, STEP and SEQ -/
  | splSealed
  /-- SPL_ABORT, event: A take, restore or drain aborts, with the context and cause (R426) -/
  | splAbort
  /-- SPL_DRAIN_DONE, event: A flash slot is sealed, with the partition and STEP -/
  | splDrainDone
  /-- SPL_DRAIN_ABANDONED, event: A drain is abandoned (R427) -/
  | splDrainAbandoned
  /-- SPL_RNG_SKEW, event: A restored counter differs from its derived value (R432) -/
  | splRngSkew
  /-- SPL_RESTORED, event: A restore completes, with the context and STEP -/
  | splRestored
  /-- SPL_BUDDY_DROPPED, event: The buddy region is dropped at start because it extends beyond MEM_LIMIT (R419) -/
  | splBuddyDropped
  /-- X_WATCHDOG, event: A watchdog fires (R437) -/
  | xWatchdog
  /-- X_GUILTY, event: A replay hangs again (R441) -/
  | xGuilty
  /-- X_HANG_CLEARED, event: A replay ends without a firing (R441) -/
  | xHangCleared
  /-- X_CTX_RESET, event: A context reset completes, with its cause (R444) -/
  | xCtxReset
  /-- X_OOS, event: The package goes out of service (R447) -/
  | xOos
  /-- X_PHOTO, event: A photo is complete, with its cause and NO_ANSWER count -/
  | xPhoto
  /-- PSC_REFCLK_LOST, event: REFCLK_SYS is lost (R31) -/
  | pscRefclkLost
  /-- PSC_CAP_UNATTAINABLE, event: R469, with the measured mean in mW -/
  | pscCapUnattainable
  /-- PSC_THROTTLE, event: A thermal limit starts to fall (R464) -/
  | pscThrottle
  /-- PSC_OVERTEMP, event: A sensor reaches 105 °C (R465) -/
  | pscOvertemp
  /-- PSC_PACER_BROKEN, event: A pacer partition is held below its frequency (R471) -/
  | pscPacerBroken
  /-- PSC_BRIM_LOW, event: A core's headroom falls below 10 mV (R460) -/
  | pscBrimLow
  /-- PSC_BRIM_EXHAUSTED, event: A core's fmax is lowered (R461) -/
  | pscBrimExhausted
  /-- PSC_INPUT_DEGRADED, event: The input enters or leaves the degraded condition (R454) -/
  | pscInputDegraded
  /-- PSC_REFUSED, event: An entry is refused or aborted (R484), with the target and refuser -/
  | pscRefused
  /-- CRN_FLASH_SLOW, event: The configuration flash runs in 1S-1S-1S mode (R394) -/
  | crnFlashSlow
  /-- CRN_DOUBLE_CROWN, event: A double crown is resolved (R488) -/
  | crnDoubleCrown
  /-- CRN_TAKEOVER, event: A die takes the crown after silence (R488) -/
  | crnTakeover
  /-- CRN_FALSE_START, event: A start fails (R497), with the reason and stage -/
  | crnFalseStart
  /-- CRN_COUNTER_RESET, event: The start counter sector held no valid record (R496) -/
  | crnCounterReset
  /-- CRN_STAGED, event: The stage bank becomes VALID (R503) -/
  | crnStaged
  /-- CRN_STAGE_REJECTED, event: A session ends REJECTED, with the cause -/
  | crnStageRejected
  /-- CRN_ACTIVATION, event: An activation reaches its time (R504) -/
  | crnActivation
  /-- CRN_FLOOR_RAISED, event: Floor fuses are blown, with the new floor (R507) -/
  | crnFloorRaised
  /-- CRN_LIFE, event: A life-cycle fuse transition (R501) -/
  | crnLife
  /-- GNT_DONE, event: A run ends, with its kind and, for an in-service run, the unit and result -/
  | gntDone
  /-- GNT_REPAIRED, event: A spare element is applied, with the unit and the element -/
  | gntRepaired
  /-- GNT_UNUSABLE, event: A privileged unit is marked unusable, with the unit and cause (R520) -/
  | gntUnusable
  /-- GNT_PARTITION_DROPPED, event: A partition is invalidated at start (R521) -/
  | gntPartitionDropped
  /-- GNT_FUSE_FULL, event: A repair finds no free fuse entry (R518) -/
  | gntFuseFull
  /-- GNT_SPARE_LOW, event: A core's spares fall below the limits of R519 -/
  | gntSpareLow
  deriving DecidableEq, Repr

/-- BLOCK of an event record (R387). -/
def EvName.block : EvName → BitVec 8
  | .arrBankState => 0x01
  | .arrShapeMismatch => 0x01
  | .arrShapeFormat => 0x01
  | .arrFormat => 0x01
  | .arrPoison => 0x01
  | .arrWindowTrunc => 0x01
  | .xIllegal => 0x05
  | .xCode => 0x05
  | .xRegion => 0x05
  | .xAlign => 0x05
  | .xQuota => 0x05
  | .xDescriptor => 0x05
  | .xHurdleState => 0x05
  | .xHurdleOwner => 0x05
  | .xHurdleOverrun => 0x05
  | .xHurdleStray => 0x05
  | .xSpecState => 0x05
  | .xSpecWrite => 0x05
  | .xSpecHeld => 0x05
  | .xHold => 0x05
  | .xStashFull => 0x05
  | .xStashExhausted => 0x05
  | .xReplayDiverged => 0x05
  | .rowFormat => 0x04
  | .rowStatMissing => 0x04
  | .strProgram => 0x02
  | .strRearmReject => 0x02
  | .strPageFault => 0x02
  | .strPageInvalid => 0x02
  | .strPerm => 0x02
  | .strStalePrefetch => 0x02
  | .gthIndexRange => 0x03
  | .gthPageFault => 0x03
  | .gthPageInvalid => 0x03
  | .gthPerm => 0x03
  | .memUncorrectable => 0x0e
  | .memPteInvalid => 0x0e
  | .memRowRepaired => 0x0e
  | .memFrameRetired => 0x0e
  | .memChannelOut => 0x0e
  | .memSpeedFallback => 0x0e
  | .memSpecMixed => 0x0e
  | .memInboundRefused => 0x0e
  | .memLogFull => 0x0e
  | .memWindowDropped => 0x0e
  | .uStepScale => 0x05
  | .uCodeReserved => 0x05
  | .uCodeHeader => 0x05
  | .uGenState => 0x05
  | .uGenStall => 0x05
  | .uVerdictSplit => 0x05
  | .lnkPortUp => 0x08
  | .lnkPortLost => 0x08
  | .lnkPortShed => 0x08
  | .lnkTrainFail => 0x08
  | .lnkMismatch => 0x08
  | .lnkLaneSpared => 0x08
  | .lnkWidthReduced => 0x08
  | .lnkLaserLow => 0x08
  | .lnkNoRoute => 0x08
  | .lnkRefclkLost => 0x08
  | .relAbort => 0x07
  | .relQueue => 0x07
  | .relWaitLong => 0x07
  | .relLaggard => 0x07
  | .hifApertureRange => 0x0d
  | .hifBadAccess => 0x0d
  | .hifCommitRefused => 0x0d
  | .hifRegTimeout => 0x0d
  | .hifQueueError => 0x0d
  | .hifDoorbellStray => 0x0d
  | .hifEqOverflow => 0x0d
  | .hifFlr => 0x0d
  | .hifFlashDown => 0x0d
  | .hifFlashError => 0x0d
  | .xStopLate => 0x05
  | .xSaveOverflow => 0x05
  | .splDue => 0x09
  | .splSealed => 0x09
  | .splAbort => 0x09
  | .splDrainDone => 0x09
  | .splDrainAbandoned => 0x09
  | .splRngSkew => 0x09
  | .splRestored => 0x09
  | .splBuddyDropped => 0x09
  | .xWatchdog => 0x05
  | .xGuilty => 0x05
  | .xHangCleared => 0x05
  | .xCtxReset => 0x05
  | .xOos => 0x05
  | .xPhoto => 0x05
  | .pscRefclkLost => 0x0a
  | .pscCapUnattainable => 0x0a
  | .pscThrottle => 0x0a
  | .pscOvertemp => 0x0a
  | .pscPacerBroken => 0x0a
  | .pscBrimLow => 0x0a
  | .pscBrimExhausted => 0x0a
  | .pscInputDegraded => 0x0a
  | .pscRefused => 0x0a
  | .crnFlashSlow => 0x0b
  | .crnDoubleCrown => 0x0b
  | .crnTakeover => 0x0b
  | .crnFalseStart => 0x0b
  | .crnCounterReset => 0x0b
  | .crnStaged => 0x0b
  | .crnStageRejected => 0x0b
  | .crnActivation => 0x0b
  | .crnFloorRaised => 0x0b
  | .crnLife => 0x0b
  | .gntDone => 0x0c
  | .gntRepaired => 0x0c
  | .gntUnusable => 0x0c
  | .gntPartitionDropped => 0x0c
  | .gntFuseFull => 0x0c
  | .gntSpareLow => 0x0c

/-- INDEX of an event record (R387). -/
def EvName.index : EvName → BitVec 8
  | .arrBankState => 0x01
  | .arrShapeMismatch => 0x02
  | .arrShapeFormat => 0x03
  | .arrFormat => 0x04
  | .arrPoison => 0x05
  | .arrWindowTrunc => 0x06
  | .xIllegal => 0x01
  | .xCode => 0x02
  | .xRegion => 0x03
  | .xAlign => 0x04
  | .xQuota => 0x05
  | .xDescriptor => 0x06
  | .xHurdleState => 0x07
  | .xHurdleOwner => 0x08
  | .xHurdleOverrun => 0x09
  | .xHurdleStray => 0x0a
  | .xSpecState => 0x0b
  | .xSpecWrite => 0x0c
  | .xSpecHeld => 0x0d
  | .xHold => 0x0e
  | .xStashFull => 0x10
  | .xStashExhausted => 0x11
  | .xReplayDiverged => 0x12
  | .rowFormat => 0x01
  | .rowStatMissing => 0x02
  | .strProgram => 0x01
  | .strRearmReject => 0x02
  | .strPageFault => 0x03
  | .strPageInvalid => 0x04
  | .strPerm => 0x05
  | .strStalePrefetch => 0x06
  | .gthIndexRange => 0x01
  | .gthPageFault => 0x02
  | .gthPageInvalid => 0x03
  | .gthPerm => 0x04
  | .memUncorrectable => 0x01
  | .memPteInvalid => 0x02
  | .memRowRepaired => 0x03
  | .memFrameRetired => 0x04
  | .memChannelOut => 0x05
  | .memSpeedFallback => 0x06
  | .memSpecMixed => 0x07
  | .memInboundRefused => 0x08
  | .memLogFull => 0x09
  | .memWindowDropped => 0x0a
  | .uStepScale => 0x20
  | .uCodeReserved => 0x21
  | .uCodeHeader => 0x22
  | .uGenState => 0x23
  | .uGenStall => 0x24
  | .uVerdictSplit => 0x25
  | .lnkPortUp => 0x01
  | .lnkPortLost => 0x02
  | .lnkPortShed => 0x03
  | .lnkTrainFail => 0x04
  | .lnkMismatch => 0x05
  | .lnkLaneSpared => 0x06
  | .lnkWidthReduced => 0x07
  | .lnkLaserLow => 0x08
  | .lnkNoRoute => 0x09
  | .lnkRefclkLost => 0x0a
  | .relAbort => 0x01
  | .relQueue => 0x02
  | .relWaitLong => 0x03
  | .relLaggard => 0x04
  | .hifApertureRange => 0x01
  | .hifBadAccess => 0x02
  | .hifCommitRefused => 0x03
  | .hifRegTimeout => 0x04
  | .hifQueueError => 0x05
  | .hifDoorbellStray => 0x06
  | .hifEqOverflow => 0x07
  | .hifFlr => 0x08
  | .hifFlashDown => 0x09
  | .hifFlashError => 0x0a
  | .xStopLate => 0x30
  | .xSaveOverflow => 0x31
  | .splDue => 0x01
  | .splSealed => 0x02
  | .splAbort => 0x03
  | .splDrainDone => 0x04
  | .splDrainAbandoned => 0x05
  | .splRngSkew => 0x06
  | .splRestored => 0x07
  | .splBuddyDropped => 0x08
  | .xWatchdog => 0x40
  | .xGuilty => 0x41
  | .xHangCleared => 0x42
  | .xCtxReset => 0x43
  | .xOos => 0x44
  | .xPhoto => 0x45
  | .pscRefclkLost => 0x01
  | .pscCapUnattainable => 0x02
  | .pscThrottle => 0x03
  | .pscOvertemp => 0x04
  | .pscPacerBroken => 0x05
  | .pscBrimLow => 0x06
  | .pscBrimExhausted => 0x07
  | .pscInputDegraded => 0x08
  | .pscRefused => 0x09
  | .crnFlashSlow => 0x01
  | .crnDoubleCrown => 0x02
  | .crnTakeover => 0x03
  | .crnFalseStart => 0x04
  | .crnCounterReset => 0x05
  | .crnStaged => 0x06
  | .crnStageRejected => 0x07
  | .crnActivation => 0x08
  | .crnFloorRaised => 0x09
  | .crnLife => 0x0a
  | .gntDone => 0x01
  | .gntRepaired => 0x02
  | .gntUnusable => 0x03
  | .gntPartitionDropped => 0x04
  | .gntFuseFull => 0x05
  | .gntSpareLow => 0x06

/-- BLOCK and INDEX as SEQ_FAULT_CODE.CODE records them (R167). -/
def EvName.code (e : EvName) : BitVec 16 := e.block ++ e.index

end Sys2Proof.Machine
end

