-- ==== Sys2Proof/Machine/State.lean ====
section
/-! DEFINITION. The state of the part: every register, queue, buffer, counter and mode the spec gives it, as plain data,
and the queue of commands that wait. -/

namespace Sys2Proof.Machine
open Sys2Proof

/-- Why a step stops with a fault. Nothing in this model raises one: a fault of the part (R166) is a next state. -/
inductive Fault where
  /-- Raised by no command; the constructor keeps the type inhabited. Safe. -/
  | none
  deriving DecidableEq, Repr

/-- Why a command has no meaning here. -/
inductive Refusal where
  /-- A command of the table without a meaning yet, raised by its arm of `exec`. Safe. -/
  | notModelled (mnemonic : String)
  deriving DecidableEq, Repr

/-! ## Sequencers (chapter 05) -/

/-- States of a sequencer (R165). -/
inductive SeqState where
  | idle | run | wait | stopping | stopped | held | ended | faulted
  deriving DecidableEq, Repr

/-- What an engine command keeps of the instruction that made it: R129, R166, R174. -/
structure Origin where
  ctx : CtxId
  core : CoreId
  seq : SeqId
  pc : Off
  win : Option (Fin 2)
  hv : Bool
  hid : Hid
  mb : BitVec 16
  gen : BitVec 16
  deriving DecidableEq, Repr

/-- A HARM on its way to its home hurdle unit (R193). -/
structure HarmReq where
  hid : Hid
  cfg : W64
  deriving DecidableEq, Repr

/-- A descriptor copy that a sequencer has read ahead (R173): where it was read, and its words. -/
structure ReadAhead where
  /-- The instruction that it was read for. -/
  pc : Off
  at_ : Nat
  words : List W64
  deriving DecidableEq, Repr

/-- The architectural state of a sequencer (R123), and what issue holds for it. -/
structure Seq where
  state : SeqState
  s : Vector W64 32
  a : Vector VAddr 16
  p : Vector Bool 8
  pc : Off
  /-- The live-range pointer; none is the empty descriptor (R153). -/
  lrp : Option Off
  /-- The wait record (R151). -/
  wait : Option (Hid × W32)
  /-- The waiting HWAIT has DF set (R195). -/
  waitDf : Bool
  /-- When it last came to WAIT or ENDED (R405). -/
  restAt : W64
  /-- The window SEQ-F issues in (R159). -/
  win : Option (Fin 2)
  /-- SSTs issued and not yet written, oldest first (R132). -/
  sst : List (Nat × W64)
  /-- A HARM whose answer issue waits for (R193). -/
  harm : Option HarmReq
  ahead : Option ReadAhead
  /-- The stop in progress is a HOLD (R158). -/
  stopHold : Bool
  /-- When the stop it is to reach was requested (R435). -/
  stopAt : W64
  /-- An instruction that waits at issue has been counted in ARR_BANK_STALL (R76). -/
  bankWait : Bool
  /-- U_GEN_STALL has been raised for the publication that waits at issue (R216). -/
  genStall : Bool
  /-- A UAPPLY, XSTASH or other instruction is stalled at issue (R286, R293). -/
  stalled : Bool
  deriving DecidableEq, Repr

/-- A sequencer after cold reset, and at the start of a context but for its program counter (R165). -/
def Seq.reset : Seq where
  state := .idle
  s := Vector.replicate 32 0
  a := Vector.replicate 16 0
  p := (Vector.replicate 8 false).set 0 true
  pc := 0
  lrp := none
  wait := none
  waitDf := false
  restAt := 0
  win := none
  sst := []
  harm := none
  ahead := none
  stopHold := false
  stopAt := 0
  bankWait := false
  genStall := false
  stalled := false

/-! ## Hurdles (R143 to R149) -/

inductive HurdleState where
  | idle | armed | poisoned
  deriving DecidableEq, Repr

structure Hurdle where
  state : HurdleState
  auto : Bool
  window : BitVec 2
  owner : CtxId
  expect : BitVec 16
  hostOk : Bool
  ports : BitVec 16
  count : BitVec 16
  releases : W32
  roundMin : BitVec 10
  roundPkg : BitVec 16
  roundCore : BitVec 3
  lastMin : BitVec 10
  lastPkg : BitVec 16
  lastCore : BitVec 3
  specBase : W32
  /-- A base is recorded for the bound window (R162, R163). -/
  specRec : Bool
  /-- A stray has been reported since the hurdle left ARMED (R146). -/
  strayRaised : Bool
  deriving DecidableEq, Repr

def Hurdle.reset : Hurdle := ⟨.idle, false, 0, 0, 0, false, 0, 0, 0, 0, 0, 0, 0, 0, 0, 0, false, false⟩

/-- The die that sends an arrival of a context (R13): a feed die, or a fabric die for its relay engine. -/
inductive ArrDie where
  | feed (c : CoreId)
  | fabric (d : CoreId)
  deriving DecidableEq, Repr

/-- Where an arrival comes from (R146). -/
inductive ArrSrc where
  /-- A sequencer or engine of a context, in a speculation window or in none. -/
  | ctx (c : CtxId) (win : Option (Fin 2)) (die : ArrDie)
  | port (p : PortId)
  /-- The host, for entry `idx` of a queue of a function (R383). -/
  | host (f : FnId) (q : Nat) (idx : W32)
  deriving DecidableEq, Repr

/-- Number of the sender of an arrival, for the order of R17: eight feed dies, eight relay engines, sixteen ports and the
host die. -/
def ArrSrc.sender : ArrSrc → Nat
  | .ctx _ _ (.feed c) => c.val
  | .ctx _ _ (.fabric d) => 8 + d.val
  | .port p => 16 + p.val
  | .host .. => 32

/-- An arrival on its way to its home hurdle unit, with its baton word (R148). -/
structure Arrival where
  hid : Hid
  baton : W64
  src : ArrSrc
  deriving DecidableEq, Repr

/-! ## Speculation windows (R159 to R164) -/

inductive WinState where
  | closed | open_ | commitPending | committing
  deriving DecidableEq, Repr

structure Win where
  state : WinState
  /-- Opened while the other window was open (R159). -/
  younger : Bool
  ckS : Vector W64 32
  ckA : Vector VAddr 16
  ckP : Vector Bool 8
  gen : BitVec 16
  target : Off
  heldRaised : Bool
  /-- Arrivals held until the window commits, oldest first (R161). -/
  heldArr : List Arrival
  /-- A discard of the window is in progress: SEQ-F issues nothing (R163). -/
  discarding : Bool
  deriving DecidableEq, Repr

def Win.reset : Win where
  state := .closed
  younger := false
  ckS := Vector.replicate 32 0
  ckA := Vector.replicate 16 0
  ckP := Vector.replicate 8 false
  gen := 0
  target := 0
  heldRaised := false
  heldArr := []
  discarding := false

/-! ## The array (chapter 03) -/

inductive BankState where
  | empty | loading | loaded | active | full | draining
  deriving DecidableEq, Repr

/-- The operation of an M-class command (R181 to R188). -/
inductive ArrOp where
  | shape (sh : Fin 4)
  | pre (mode : BitVec 2)
  | pass (acc : Bool)
  | drain (clear sr : Bool)
  deriving DecidableEq, Repr

/-- An M-class command with its descriptor's words, addresses already redirected (R160). -/
structure ArrCmd where
  op : ArrOp
  bank : Fin 2
  desc : List W64
  org : Origin
  deriving DecidableEq, Repr

/-- One accumulator bank: its state (R73), and its entries by logical element, key 65,536 times the row plus the
column; an entry is an FP32 value and its poison bit (R62). -/
structure Bank where
  state : BankState
  owner : Option SeqId
  tag : Fin 4
  /-- Preloaded by ZERO or zeroed by CLEAR: takes the current shape at T0 (R81). -/
  anyShape : Bool
  /-- The command that preloads or drains the bank. -/
  cmd : Option ArrCmd
  /-- The speculation window whose work the bank holds (R160). -/
  win : Option (Fin 2)
  cells : SMap (W32 × Bool)
  deriving DecidableEq, Repr

def Bank.reset : Bank := ⟨.empty, none, 0, false, none, none, []⟩

structure Arr where
  bank : Vector Bank 2
  shape : Fin 4
  /-- Crossing 1, at most 16 commands (R25). -/
  xing : List ArrCmd
  /-- Commands accepted and checked, in order (R75). -/
  queue : List ArrCmd
  /-- Passes between T0 and t_full, oldest first. -/
  passes : List ArrCmd
  /-- Products formed, in units of 2^18 (ARR_PRODUCTS). -/
  products : W64
  /-- FCLK grant-wait counts of the array arbiter, by sequencer (R135). -/
  waits : Vector Nat 3
  /-- The pass at the head of the queue has been counted in ARR_BANK_STALL (R79). -/
  headStall : Bool
  deriving DecidableEq, Repr

def Arr.reset : Arr where
  bank := Vector.replicate 2 Bank.reset
  shape := 0
  xing := []
  queue := []
  passes := []
  products := 0
  waits := Vector.replicate 3 0
  headStall := false

/-! ## The row engine (R197 to R210) -/

inductive RowOp where
  | norm | normB | smax | smaxB | act | actB | ew | loss
  deriving DecidableEq, Repr

/-- A row-engine command: its descriptor's eight words, addresses redirected, and its draw seed. -/
structure RowCmd where
  op : RowOp
  desc : List W64
  org : Origin
  deriving DecidableEq, Repr

/-- One statistics entry (R207). -/
structure Stat where
  ctx : CtxId
  layer : BitVec 16
  tensor : BitVec 16
  mb : BitVec 16
  gen : BitVec 16
  row : BitVec 24
  v0 : W32
  v1 : W32
  win : Option (Fin 2)
  /-- The 256-byte line of the HBM stash region it is spilled to, and its place in the line (R288). -/
  line : Option (Nat × Fin 32)
  deriving DecidableEq, Repr

/-! ## Stream slots and index streams (chapter 07) -/

/-- Where a line lies once translated: its line of HBM by physical address, of host memory, or of another package. -/
inductive Place where
  | hbm (pa : Nat)
  | host (addr : Nat)
  | remote (pkg : BitVec 16) (pa : Nat)
  deriving DecidableEq, Repr

/-- A PCIe page request of the host die, not yet answered (R245): the partition's PASID, the untranslated page and the slot
that waits. -/
structure PageReq where
  pasid : BitVec 20
  page : Nat
  core : CoreId
  gth : Bool
  slot : Nat
  deriving DecidableEq, Repr

/-- A translation in the ATS cache of the host die (R275). -/
structure Atc where
  pasid : BitVec 20
  page : Nat
  host : BitVec 52
  deriving DecidableEq, Repr

/-- Where bytes of a line meet the core store (R227). A turned piece holds memory elements i0 onward of
memory row k of a tile; element i meets the store at base + i × pitch + k × e, with e in half bytes (R224). Once its
accesses have been checked, it is `placed`: the first byte of each of its elements (R141, R160). -/
inductive PieceAt where
  | lin (store : Nat)
  | turn (base : Nat) (pitch : Int) (k i0 e2 : Nat) (tile : Nat)
  | placed (spots : List Nat) (k e2 : Nat) (tile : Nat)
  deriving DecidableEq, Repr

structure Piece where
  /-- Byte offset in the line, and number of bytes. -/
  moff : Nat
  len : Nat
  dest : PieceAt
  chunk : Nat
  deriving DecidableEq, Repr

/-- An operation of a stride program, two 64-bit words (R219). -/
structure StrideOp where
  w0 : W64
  w1 : W64
  deriving DecidableEq, Repr

/-- One loop record of the stride-program interpreter (R222, R225). -/
structure LoopRec where
  pc : Nat
  count : Nat
  i : Nat
  mo : Int
  so : Int
  md : Int
  sd : Int
  deriving DecidableEq, Repr

/-- A position of a generator (R240): the interpreter's state; or, for an index stream, the next row. A run in progress
is at byte `off` of its memory row `k`. -/
structure GenPos where
  pc : Nat
  /-- Open loops, innermost first. -/
  loops : List LoopRec
  mo : Int
  so : Int
  mw : Nat
  sw : Nat
  k : Nat
  off : Nat
  /-- Index of the next row of an index stream. -/
  row : Nat
  /-- Store-side bytes, or rows, generated. -/
  made : Nat
  tiles : Nat
  fin : Bool
  deriving DecidableEq, Repr

def GenPos.start : GenPos := ⟨0, [], 0, 0, 0, 0, 0, 0, 0, 0, 0, false⟩

/-- Why a line has no effect: poisoned (R269), refused by the other package (R246), or its package lost (R339). -/
inductive LineFail where
  | poisoned (pa : Nat)
  | refused
  | lost
  deriving DecidableEq, Repr

/-- How far a line request has come (R229). -/
inductive ReqState where
  /-- In the issue window without a tag. -/
  | window
  /-- It holds a tag; the access is on its way. -/
  | sent
  /-- Data returned, or the write acknowledged. -/
  | served
  | failed (e : LineFail)
  deriving DecidableEq, Repr

/-- One line request (R227). -/
structure LineReq where
  n : Nat
  va : Nat
  /-- The address translated: that of the shadow where the access is redirected (R264). -/
  tva : Nat
  place : Place
  /-- HINTED_CACHE mode, and the access hint. -/
  cached : Bool
  hint : Nat
  pieces : List Piece
  pos : GenPos
  /-- Bytes returned or to be written, by offset in the line. -/
  data : List (Nat × Byte)
  st : ReqState
  deriving DecidableEq, Repr

inductive SlotState where
  | idle | armed | running | halted | done | cancelled
  deriving DecidableEq, Repr

/-- A descriptor with its memory base and the instruction that brought it. -/
structure Rearm where
  desc : List W64
  mbase : Nat
  org : Origin
  /-- The side of each access is fixed at issue (R160): the other window, if it was open and older then; -/
  older : Option (Fin 2)
  /-- and the descriptors of the region table and of the partition's windows whose bases the exchanges made since then have
  moved (R164, R264), each with the one that holds its base now. -/
  moved : List (Fin 16 × Fin 16)
  movedMem : List (Fin 64 × Fin 64)
  deriving DecidableEq, Repr

/-- A stream slot, or an index stream (R217, R237, R247). -/
structure Slot where
  state : SlotState
  holder : Option SeqId
  cur : Rearm
  /-- A pending re-arm (R239). -/
  pend : Option Rearm
  /-- The stride program as read and checked (R221); empty until then. -/
  prog : List StrideOp
  pos : GenPos
  /-- Requests not complete, in program order. -/
  reqs : List LineReq
  next : Nat
  /-- Chunk arrivals sent. -/
  sent : Nat
  /-- A line has found its page absent, in host memory or in HBM: the slot halts once its issued lines are complete
  (R244). -/
  halting : Option Bool
  /-- A page request is outstanding (R245). -/
  prg : Bool
  faultVa : VAddr
  /-- Number of the line that faulted the stream: later lines are dropped (R246). -/
  bad : Option Nat
  /-- The first chunk with a line that failed: it and later ones are not announced (R232). -/
  failChunk : Option Nat
  /-- A line completed with PEER_LOST: the slot ends CANCELLED (R339). -/
  lost : Bool
  /-- STR_STALE_PREFETCH has been raised in this run (R243). -/
  stale : Bool
  /-- CANCELLED by a context reset or a purge: IDLE once its tags are free (R443). -/
  toIdle : Bool
  deriving DecidableEq, Repr

def Origin.none : Origin := ⟨0, 0, .F, 0, Option.none, false, 0, 0, 0⟩
def Slot.reset : Slot := ⟨.idle, none, ⟨[], 0, Origin.none, none, [], []⟩, none, [], GenPos.start, [], 0, 0, none, false, 0, none, none, false, false, false⟩

/-- A command of the gather engine's queue (R251). -/
inductive GthCmd where
  | gather (j : Fin 8)
  | xrcheck (desc : List W64) (org : Origin)
  deriving DecidableEq, Repr

/-! ## The stash and the generation table (R283 to R293) -/

inductive StashState where
  | store | moving | hbm | dropped
  deriving DecidableEq, Repr

/-- A key of the stash directory (R283, R284). Its pages are core-store pages by number, and pages of the HBM stash
region by number. -/
structure StashKey where
  /-- Tells apart keys placed at different times; the model's own. -/
  uid : Nat
  ctx : CtxId
  layer : BitVec 16
  tensor : BitVec 16
  mb : BitVec 16
  gen : BitVec 16
  state : StashState
  /-- Length in 64 B units. -/
  len : Nat
  pages : List Nat
  hpages : List Nat
  recomp : Bool
  win : Option (Fin 2)
  /-- The instruction that made a MOVING key move. -/
  org : Origin
  deriving DecidableEq, Repr

/-- A copy of the stash not yet written (R283): of an XSTASH, or of an XRECALL. A drop of its key or another XSTASH of it does
not take the copy of a recall away (R213), so it names its pages itself. -/
structure StashOp where
  uid : Nat
  isRecall : Bool
  off : Nat
  len : Nat
  org : Origin
  /-- The length of the key. -/
  keyLen : Nat
  /-- Its core-store pages; or its HBM pages, and their virtual addresses as R264 redirects them at acceptance. -/
  pages : List Nat
  hpages : List Nat
  src : List Nat
  /-- Keys whose spill it waits for (R284, R285). -/
  waits : List Nat
  deriving DecidableEq, Repr

/-- An entry of the generation table (R292). A rejected provisional generation waits for its references. -/
structure GenEntry where
  ix : Nat
  ctx : CtxId
  layer : BitVec 16
  cur : BitVec 16
  prov : Bool
  rejected : Bool
  deriving DecidableEq, Repr

/-! ## The U class (R216, R296 to R309) -/

inductive UKind where
  | ugrad | step | apply | verdict
  deriving DecidableEq, Repr

/-- A U-class instruction that waits for its relay command, or a UAPPLY that has its verdict and waits to write (R293). -/
structure UOp where
  kind : UKind
  desc : List W64
  /-- a[AR]. -/
  base : Nat
  publish : Bool
  org : Origin
  /-- Number of its relay command on the core's relay engine. -/
  relay : Nat
  /-- SEQ of the export (R300). -/
  seq : W32
  /-- A UAPPLY's gathered records have been checked: its verdict, and what step 5 of R307 needs of the headers. -/
  checked : Option (Nat × List (List Byte))
  stallRaised : Bool
  deriving DecidableEq, Repr


/-! ## Cores -/

structure Core where
  /-- The context bound to the core (R124). -/
  ctx : Option CtxId
  seqs : Vector Seq 3
  /-- The core store, one byte an entry (R125). -/
  store : SMap Byte
  wins : Vector Win 2
  arr : Arr
  /-- The row engine's command queue, at most 16 (R133). -/
  rowQ : List RowCmd
  rowWaits : Vector Nat 3
  stats : List Stat
  /-- ACLK in MHz, and the core's own setting, without the follow request (R149, R456). -/
  aclk : Nat
  own : Nat
  str : Vector Slot 32
  gth : Vector Slot 8
  /-- The gather engine's command queue, at most 16 (R251). -/
  gthQ : List GthCmd
  /-- Slot served last by the address generators and by the tag grants (R228, R229). -/
  strRot : Nat
  gthRot : Nat
  strTagRot : Nat
  gthTagRot : Nat
  /-- The stash directory, oldest key first. -/
  stash : List StashKey
  stashUid : Nat
  stashOps : List StashOp
  /-- Tags of the stream engine that lines of the stash's HBM copies hold (R283), with the key of the copy. -/
  stashTags : List (Nat × Place)
  /-- When the stall timer of an XSTASH, or of a row-engine command, last started (R286, R288). -/
  stallAt : Option W64
  rowStallAt : Option W64
  gens : List GenEntry
  /-- Contexts that were bound to the core in the running energy interval, with the time in ns; and since when the present
  one is (R413). -/
  boundNs : List (CtxId × Nat)
  boundAt : W64
  uops : List UOp
  /-- The speculation window committed last (R264). -/
  lastCommit : Fin 2
  deriving DecidableEq, Repr

def Core.reset : Core where
  ctx := none
  seqs := Vector.replicate 3 Seq.reset
  store := []
  wins := Vector.replicate 2 Win.reset
  arr := Arr.reset
  rowQ := []
  rowWaits := Vector.replicate 3 0
  stats := []
  aclk := 600
  own := 600
  str := Vector.replicate 32 Slot.reset
  gth := Vector.replicate 8 Slot.reset
  gthQ := []
  strRot := 31
  gthRot := 7
  strTagRot := 31
  gthTagRot := 7
  stash := []
  stashUid := 0
  stashOps := []
  stashTags := []
  stallAt := none
  rowStallAt := none
  lastCommit := 0
  gens := []
  boundNs := []
  boundAt := 0
  uops := []

/-! ## The host port (chapter 12) -/

/-- A command that runs on a queue: its entry number, its words, and what it waits for. -/
structure RunCmd where
  idx : W32
  words : List W64
  /-- When it started. -/
  since : W64
  /-- Requests of the links it still waits for (a REMOTE window, R380). -/
  owed : Nat
  /-- The status to write, once decided (R380). -/
  status : Option (BitVec 8)
  deriving DecidableEq, Repr

/-- A command queue (R377 to R382). -/
structure Queue where
  base : Nat
  log2 : Nat
  headAddr : Nat
  /-- Entries completed in order, as the 32-bit count and as the head report has it. -/
  head : W32
  reported : W64
  tail : W32
  /-- Next entry to start. -/
  next : W32
  /-- Entries completed beyond `head`, out of order. -/
  done : List W32
  running : List RunCmd
  /-- Entries with IRQ set that completed and wait for a head report that covers them (R381). -/
  irqs : List W32
  error : Bool
  /-- A QDELETE waits for the running commands (R382). -/
  deleting : Bool
  deriving DecidableEq, Repr

/-- One function of the host port (R374 to R390). -/
structure Fn where
  /-- The function exists: the PF always, VF v while NumVFs is at least v (R374). -/
  queues : SMap (Option Queue)
  /-- Last value written to each TAIL doorbell (R376). -/
  bells : SMap W32
  /-- The event queue is enabled: by a commit of EQ_EN, until one clears it or the function is reset (R375). -/
  eqEn : Bool
  eqHead : W32
  /-- Event records written since the queue was enabled (R385). -/
  eqCount : W32
  /-- A moderation interval runs; a record was held back in it (R385). -/
  modBusy : Bool
  modHeld : Bool
  /-- When the moderation interval began. -/
  modAt : W64
  /-- HIF_DOORBELL_STRAY has been raised since the last QCREATE (R382). -/
  strayRaised : Bool
  /-- The MSI-X Table and PBA (R389). -/
  msixTab : SMap Byte
  pba : SMap Bool
  deriving DecidableEq, Repr

def Fn.reset : Fn := ⟨[], [], false, 0, 0, false, false, 0, false, [], []⟩

/-- The parts of the PCIe configuration space that the host sets and that R38 and R373 give: the maximum payload size is 128 times
2 to the `mps` bytes, the maximum read request size 128 times 2 to the `mrrs`, and the sizes of BAR2 of the PF and of every
VF are 2 to their code, in GiB. The two are at their PCIe reset values (notes/assumptions/79). -/
structure Pcie where
  mps : Fin 3
  mrrs : Fin 6
  barPf : Fin 11
  barVf : Fin 7
  deriving DecidableEq, Repr

def Pcie.reset : Pcie := ⟨0, 2, 6, 3⟩

/-! ## Partitions and contexts (chapter 13) -/

/-- States of a context (R400). -/
inductive CtxState where
  | free | created | ready | running | stopping | suspended | held | ended | faulted
  deriving DecidableEq, Repr

/-- Why a context is stopping: what its saved state is for. -/
inductive StopFor where
  | none | switch_ | suspend | hold | cleared | checkpoint | capture
  deriving DecidableEq, Repr

/-- A core's part of a save frame (R156, R409): what the live ranges name. Only this part of the frame's content is
read back; the header's bit layout is not given (notes/assumptions/13). -/
structure SavedCore where
  seqs : Vector Seq 3
  sMask : Vector W32 3
  aMask : Vector (BitVec 16) 3
  pMask : Vector (BitVec 8) 3
  sentinel : W32
  banks : List (Fin 2 × Bank)
  /-- Core-store ranges named live: offset and length in bytes. With SAVE_STORE set their bytes lie in the frame in HBM. -/
  ranges : List (Nat × Nat)
  /-- Slots and index streams saved with their positions (R240). -/
  str : List (Fin 32 × Slot)
  gth : List (Fin 8 × Slot)
  valid : Bool
  deriving DecidableEq, Repr

def SavedCore.reset : SavedCore where
  seqs := Vector.replicate 3 Seq.reset
  sMask := Vector.replicate 3 0
  aMask := Vector.replicate 3 0
  pMask := Vector.replicate 3 0
  sentinel := 0
  banks := []
  ranges := []
  str := []
  gth := []
  valid := false

/-- The items of a split whose layout the spec does not give (R420, R429; notes/assumptions/22): generation entries, hurdles,
norm partials, the counter snapshot, the save frames with the bytes they hold of the core stores, where they lie, the
statistics entries, the last captures' durations, and POS_VA. -/
structure SplitItems where
  gens : List (CoreId × GenEntry)
  hurdles : List (Hid × Hurdle)
  norms : List W64
  counters : List W32
  frames : List SavedCore
  stores : List (List Byte)
  saveVa : VAddr
  stride : BitVec 16
  saveStore : Bool
  stats : List (CoreId × Stat)
  costs : List Nat
  posVa : Nat
  deriving DecidableEq, Repr

/-- The operands of a take: its list and its position record (R422). -/
structure TakeOps where
  list : Nat
  pos : Nat
  deriving DecidableEq, Repr

/-- How far a capture has come (R423): at its gate, stopping its context, saved, copying to the buddy, sealing. -/
inductive TakePhase where
  | gate | stop | saved | copy | seal
  deriving DecidableEq, Repr

/-- What a capture has still to send (R420): bytes at an offset of the slot; what is left of an extent, with its number,
address, offset and length; and the header with the extent table, last. -/
inductive SplitPart where
  | bytes (off : Nat) (bs : List Byte)
  | ext (i va off len : Nat)
  | head
  deriving DecidableEq, Repr

/-- A capture in progress (R423). One that no command asked for is an activation's (R504). -/
structure Take where
  id : Nat
  who : Option (FnId × Nat × W32)
  ops : TakeOps
  gate : Hid
  target : W32
  limit : Nat
  since : W64
  phase : TakePhase
  stopAt : W64
  /-- The context was SUSPENDED and stays so (R504). -/
  still : Bool
  slot : Fin 2
  seq : W32
  /-- The position record as it stood at the stop. -/
  pos : List W64
  parts : List SplitPart
  unacked : List Nat
  /-- Extents: address, length, offset in the slot; and the CRC-32C of what has been sent of each. -/
  exts : List (Nat × Nat × Nat)
  crcs : List W32
  used : Nat
  deriving DecidableEq, Repr

inductive RestorePhase where
  | head | ctl | ext
  deriving DecidableEq, Repr

/-- A restore in progress (R430, R431). -/
structure Restore where
  id : Nat
  who : FnId × Nat × W32
  tier : Nat
  step : W32
  host : Nat
  /-- Slots whose headers are still to be read, the first being read; 2 and 3 are flash slots. -/
  slots : List (Fin 4)
  phase : RestorePhase
  head : List W64
  /-- Offset of the next read, and the bytes read since the header, up to the extents. -/
  at_ : Nat
  buf : List Byte
  /-- Extents to write: address, length, offset, CRC-32C; and the running CRC-32C of the first. -/
  exts : List (Nat × Nat × Nat × W32)
  crc : W32
  deriving DecidableEq, Repr

/-- What the part keeps of a context's splits (R429). -/
structure SplitHist where
  /-- SEQ of the last seal. -/
  seq : W32
  /-- Durations of the last four captures, in ns, newest first. -/
  costs : List Nat
  /-- T_RUN in ns up to an instant, and that instant; none before the first seal. -/
  run : Nat
  runFrom : Option W64
  restores : W32
  lastSeal : Option W64
  deriving DecidableEq, Repr

def SplitHist.reset : SplitHist := ⟨0, [], 0, none, 0, none⟩

/-- Causes of X_HOLD (R158). -/
inductive HoldCause where
  | poisoned | partnerLost | hang | oos
  deriving DecidableEq, Repr

structure Ctx where
  state : CtxState
  part : CoreId
  saveStore : Bool
  /-- Credit in ns (R404, R406). -/
  credit : Int
  overrun : W32
  switches : W32
  run : W64
  energy : W64
  /-- Sub-microjoule remainder, in nJ (R413). -/
  energyRem : Nat
  saveVa : VAddr
  stride : BitVec 16
  /-- Entry points by position of the core in the partition: PC_F, PC_B, PC_U (R402). -/
  entry : Vector (Off × Off × Off) 8
  seed : W64
  /-- The context starts at its entry points: it has no save frame to restore. -/
  fresh : Bool
  frames : Vector SavedCore 8
  stopFor : StopFor
  /-- The stop has quiesced and its save is being written (R155, R409). -/
  saving : Bool
  /-- When the run time without a save began (R439). -/
  savedAt : W64
  holdRaised : Bool
  /-- A HOLD asked for while the context was READY: it takes effect in its next turn (R158, R340). -/
  holdDue : Option HoldCause
  /-- CTX_SUSPEND commands that wait for the save: function, queue, entry. -/
  suspendCmds : List (FnId × Nat × W32)
  /-- The follow frequency in force, in MHz, and when it was last requested (R370, R371). -/
  follow : Option Nat
  followAt : W64
  /-- When REL_LAGGARD was last raised, by laggard package (R369). -/
  lagAt : List (BitVec 16 × W64)
  /-- The step sentinel (R301) and the count of exports (R300) of this package. -/
  stepSent : Bool
  exports : W32
  /-- Splits: what is kept of them, the capture or restore in progress, and the operands of the last completed take. -/
  hist : SplitHist
  take : Option Take
  restore : Option Restore
  lastTake : Option TakeOps
  /-- Number of the next capture or restore; the model's own. -/
  splitNo : Nat
  /-- A replay of the context runs, or has been ordered (R441). -/
  replay : Bool
  deriving DecidableEq, Repr

def Ctx.reset : Ctx where
  state := .free
  part := 0
  saveStore := false
  credit := 0
  overrun := 0
  switches := 0
  run := 0
  energy := 0
  energyRem := 0
  saveVa := 0
  stride := 0
  entry := Vector.replicate 8 (0, 0, 0)
  seed := 0
  fresh := true
  frames := Vector.replicate 8 SavedCore.reset
  stopFor := .none
  saving := false
  savedAt := 0
  holdRaised := false
  holdDue := none
  suspendCmds := []
  follow := none
  followAt := 0
  lagAt := []
  stepSent := false
  exports := 0
  hist := SplitHist.reset
  take := none
  restore := none
  lastTake := none
  splitNo := 0
  replay := false

/-- What the scheduler holds of a partition (R403 to R407). -/
structure Part where
  /-- The context that holds the partition's cores. -/
  running : Option CtxId
  /-- A turn is in progress. -/
  turn : Bool
  turnStart : W64
  heatEnd : W64
  last : Option CtxId
  stopLate : Bool
  /-- A save or a restore is in progress (SCH_PSTATUS.SWITCHING). -/
  switching : Bool
  /-- The context whose save the switch in progress began with (R435). -/
  prev : Option CtxId
  /-- A heat has started while a commit of set 2 that affects the partition is pending: its cores hold there (R50, R399). -/
  heatHeld : Bool
  deriving DecidableEq, Repr

def Part.reset : Part := ⟨none, false, 0, 0, none, false, false, none, false⟩

/-! ## The memory system (chapters 07 and 08) -/

/-- An entry of the buffer in front of a pseudo-channel (R265 to R267): its line, its valid bytes by offset, whether any
byte is not in DRAM, and whether keep allocated it. -/
structure BufEntry where
  line : Nat
  bytes : List (Nat × Byte)
  dirty : Bool
  keep : Bool
  deriving DecidableEq, Repr

/-- A completed translation held by a translation cache (R261). -/
structure Tlb where
  part : CoreId
  va : Nat
  /-- Page size in bits: 30, 21 or 16. -/
  bits : Nat
  pa : Nat
  w : Bool
  r : Bool
  deriving DecidableEq, Repr

inductive RowState where
  | good | soft | hard | retired
  deriving DecidableEq, Repr

/-- One DRAM row (R270): its state, the corrected errors of the scrub period, and a soft repair in progress. -/
structure DramRow where
  st : RowState
  ce : Nat
  copying : Bool
  deriving DecidableEq, Repr

/-- A record of the repair log: a row by its key, or a retired frame (chapter 08). -/
inductive RepairRec where
  | row (key : Nat) (spare : Nat)
  | retired (key : Nat)
  | frame (chan : Nat) (pa : Nat)
  deriving DecidableEq, Repr

/-- An entry of a watch table (R243). -/
structure Watch where
  core : CoreId
  gth : Bool
  slot : Nat
  ctx : CtxId
  va : Nat
  line : Nat
  /-- The instant the watch time ends, once the run's completion has been sent. -/
  due : Option W64
  deriving DecidableEq, Repr

/-- How the cores of a partition have resolved one opening of a window (R264). -/
structure SpecRes where
  committed : List CoreId
  discarded : List CoreId
  mixed : Bool
  deriving DecidableEq, Repr

/-- An invalidation (R262): its partition, address and size code, and the host-queue command that asked for it. -/
structure InvalReq where
  part : CoreId
  va : Nat
  size : Nat
  who : Option (FnId × Nat × W32)
  deriving DecidableEq, Repr

/-! ## Links (chapter 10) -/

/-- A sequenced flit kept until it is acknowledged (R327): its messages are those whose last byte it carries; the payload of a DATA
flit is its 480 bytes of the channel's stream of messages (R325). -/
structure TxFlit where
  seq : BitVec 12
  vc : Fin 4
  tseq : BitVec 16
  msgs : List Msg
  payload : List Byte
  ctrl : Option Ctrl
  /-- Sent since it was queued or since the last NAK. -/
  sent : Bool
  replays : Nat
  deriving DecidableEq, Repr

/-- A flit that leaves (R323): what follows the header. -/
inductive TxKind where
  | idle (down : Bool)
  | data (vc : Fin 4) (tseq : BitVec 16) (msgs : List Msg) (payload : List Byte)
  | ctrl (c : Ctrl)
  | tsync (t : Tsync)
  | notice (cause : Nat) (ptb : W64)
  | ident (i : Ident)
  deriving DecidableEq, Repr

/-- The link layer of a port (R322 to R327, R333, R337); its state and widths stand in LNK_STATUS. -/
structure Port where
  /-- CTRL commands to send. -/
  ctrl : List Ctrl
  /-- Unsequenced flits to send, oldest first. -/
  unseq : List TxKind
  retry : List TxFlit
  seq : BitVec 12
  /-- Credits held, by VC. -/
  credit : Vector Nat 4
  /-- SEQ of the last flit received in order. -/
  rx : BitVec 12
  /-- A discard to answer with a NAK (R327). -/
  nakDue : Bool
  /-- Credits to return, by VC. -/
  owed : Vector Nat 4
  /-- Flit slots since HCTL took one, at most 8 (R326). -/
  hctlAgo : Nat
  /-- What COLL, DISP and SPLIT may still take of the round (R326). -/
  rr : Vector Nat 3
  openSent : Bool
  openRecv : Bool
  /-- Consecutive IDLE flits received with DOWN set, at most 256 (R337). -/
  down : Nat
  /-- Cause of a loss condition whose marking is due (R337). -/
  loss : Option Nat
  /-- The link layer was stopped by a warm reset: IDLE flits carry DOWN until the port trains again (R337). -/
  halted : Bool
  /-- LNK_TRAIN_FAIL has been raised in this training (R334). -/
  trainFail : Bool
  /-- When this training began (R334). -/
  trainAt : W64
  /-- The identity checks have passed in this training; and the peer was in its start sequence (R333). -/
  identOk : Bool
  peerStarting : Bool
  /-- Consecutive samples below +14.0 dBm, by wavelength, at most 100 (R316). -/
  laserLow : Vector Nat 8
  /-- Wavelengths that a direction has dropped since it trained (R321). -/
  txOut : BitVec 8
  rxOut : BitVec 8
  /-- The flit that left in the last flit slot, with its header. -/
  lastTx : Option (FlitHead × TxKind)
  deriving DecidableEq, Repr

def Port.reset : Port where
  ctrl := []
  unseq := []
  retry := []
  seq := 0
  credit := Vector.replicate 4 0
  rx := 0xFFF
  nakDue := false
  owed := Vector.replicate 4 0
  hctlAgo := 8
  rr := Vector.replicate 3 0
  openSent := false
  openRecv := false
  down := 0
  loss := none
  halted := false
  trainFail := false
  trainAt := 0
  identOk := false
  peerStarting := false
  laserLow := Vector.replicate 8 0
  txOut := 0
  rxOut := 0
  lastTx := none

/-- The traffic of a dimension by VC (R326, R330): messages not yet sent, bytes of the first one already sent, the trunk
member that took the last flit, the next TSEQ each way, and flits received ahead of their TSEQ. -/
structure Dim where
  out : Vector (List Msg) 4
  off : Vector Nat 4
  turn : Vector (Option PortId) 4
  txT : Vector (BitVec 16) 4
  rxT : Vector (BitVec 16) 4
  hold : List (Fin 4 × BitVec 16 × PortId × List Msg)
  deriving DecidableEq, Repr

def Dim.reset : Dim :=
  ⟨Vector.replicate 4 [], Vector.replicate 4 0, Vector.replicate 4 none, Vector.replicate 4 0, Vector.replicate 4 0, []⟩

/-- Who sent a request of the links (R339). -/
inductive Requester where
  | line (c : CoreId) (gth : Bool) (slot : Nat) (n : Nat)
  | relay (die : CoreId) (id : Nat) (j : Nat) (seg : W64)
  /-- The capture or restore of a context with a number, and an offset of the slot. -/
  | split (x : CtxId) (id : Nat) (off : W64)
  /-- A read, or a write, of a host-queue command through a REMOTE window: its function, queue and entry, and for a read
  where the bytes from `off` go (R380). -/
  | copy (f : FnId) (q : Nat) (idx : W32) (dst : Option (Fin 4 × Nat × Nat × Nat))
  /-- A BAR2 read or write through a REMOTE window. -/
  | bar2 (f : FnId) (at_ off len : Nat)
  /-- An access of a unit of a core that does not wait for the reply (notes/assumptions/16). -/
  | dev
  deriving DecidableEq, Repr

/-- A request that left this package and has had no reply, by its tag, with the dimension it left through. -/
structure OutReq where
  tag : BitVec 16
  dst : BitVec 16
  dim : Nat
  who : Requester
  ctx : Option CtxId
  deriving DecidableEq, Repr

/-- A request of another package in transit through this one (R339). -/
structure Transit where
  org : BitVec 16
  dst : BitVec 16
  tag : BitVec 16
  dim : Nat
  deriving DecidableEq, Repr

/-- A message that has reached its destination and waits for its unit; none where it never left the package. -/
structure InMsg where
  port : Option PortId
  vc : Fin 4
  msg : Msg
  deriving DecidableEq, Repr

/-! ## Relay engines (chapter 11) -/

/-- Where a relay command came from (R346): a relay queue, with the offset of its entry, or a U-class instruction. -/
inductive RelSrc where
  | posted (q : Fin 3) (entry : Nat)
  | internal (o : Origin)
  deriving DecidableEq, Repr

/-- An open pack (R365). -/
structure Pack where
  cmd : Nat
  dst : BitVec 16
  rows : List RowItem
  /-- When a row last joined it (R365). -/
  joined : W64
  deriving DecidableEq, Repr

/-- A relay command (R346 to R352). Segment g of a collective is segment g mod n of shard or record g / n, for n segments a
shard or record. -/
structure RelCmd where
  /-- Order of acceptance on its relay engine. -/
  id : Nat
  op : Nat
  src : RelSrc
  ctx : CtxId
  started : Bool
  since : W64
  /-- 2 MiB units of the work region. -/
  scratch : List Nat
  dims : BitVec 16
  /-- COUNT, RECORD or TOKENS; of COMBINE, EXPERTS. -/
  len : Nat
  tag : W32
  step : W32
  srcVa : Nat
  dstVa : Nat
  /-- The source when it is not in HBM: a core-store offset (UGRAD), or bytes in hand (CODES). -/
  srcStore : Option Nat
  srcBytes : List Byte
  norm : Bool
  /-- The arrival at completion, and the baton register of the command. -/
  hv : Bool
  hid : Hid
  baton : W32
  /-- The eight words of a DISPATCH or COMBINE entry. -/
  words : List W64
  /-- Steps whose partner's READY has come; steps whose own READY was refused for want of room (R351). -/
  ready : List Nat
  again : List Nat
  waitRaised : Bool
  /-- Segments sent by step, and those not acknowledged, by step and segment. -/
  sent : SMap Nat
  unacked : List (Nat × Nat)
  /-- Reduction: the partial sums of segments that the scratch has no place for (notes/assumptions/83), the steps added, and the segments whose source has been read. -/
  vals : SMap (List Byte)
  lev : SMap Nat
  read : SMap Bool
  /-- Segments written at the destination, and the sums of squares of those of the own shard (R360). -/
  stored : SMap Bool
  squares : SMap W64
  /-- Data that came before its step: step, segment, the tag of its message, bytes. -/
  held : List (Nat × Nat × BitVec 16 × List Byte)
  /-- UGRAD has sent its completion arrival. -/
  srcDone : Bool
  /-- NORM and VOTE: the value and its bits, the step reached, whether its VALUE has been sent; none before step 1 of
  R361. -/
  value : Option (W64 × BitVec 2)
  at_ : Nat
  valueSent : Bool
  /-- DISPATCH and COMBINE: the next routing word or position, ROWS messages not acknowledged, the packages written, and the
  addresses and lengths on this package that its rows go to. -/
  pos : Nat
  sub : Nat
  rowsOut : Nat
  dests : List (BitVec 16)
  places : List (Nat × Nat)
  deriving DecidableEq, Repr

/-- A READY that came before its command (R351). -/
structure ReadyRec where
  org : BitVec 16
  key : RelayKey
  j : Nat
  dims : BitVec 16
  count : W64
  deriving DecidableEq, Repr

/-- A VALUE that came before its step (R361). -/
structure ValueRec where
  key : RelayKey
  j : Nat
  v : W64
  bits : BitVec 2
  deriving DecidableEq, Repr

/-- A relay engine (R343). -/
structure Rel where
  next : Nat
  cmds : List RelCmd
  readies : List ReadyRec
  values : List ValueRec
  /-- Queues read again after a kick that found no entry, with the number of reads (R347). -/
  polls : List (CtxId × Fin 3 × Nat)
  /-- The queue that started a command last: three times the context plus the sequencer; 192 for internal commands. -/
  rot : Nat
  /-- RET_VA, CHOICES and ROW_BYTES of a context's last DISPATCH (notes/assumptions/21). -/
  ret : List (CtxId × Nat × Nat × Nat)
  /-- Open packs, least recently used first, one per destination package (R365). -/
  packs : List Pack
  deriving DecidableEq, Repr

def Rel.reset : Rel := ⟨0, [], [], [], [], 192, [], []⟩

/-! ## Splits held for the buddy, and the flash SSD (chapter 14, R392, R393) -/

/-- A sealed slot of an area in HBM (R416, R421). -/
structure SplSlot where
  seq : W32
  ctx : CtxId
  used : Nat
  deriving DecidableEq, Repr

/-- A flash slot as the split index has it (R490). -/
structure FlashSlot where
  sealed : Bool
  step : W32
  seq : W32
  used : Nat
  deriving DecidableEq, Repr

/-- A drain in progress (R427): from an HBM slot to a flash slot, so many bytes of `used` written; `act` of a seal that
carried ACT. -/
structure Drain where
  src : Fin 2
  dst : Fin 2
  off : Nat
  used : Nat
  act : Bool
  /-- The seal word has been written. -/
  finished : Bool
  deriving DecidableEq, Repr

structure SplArea where
  slots : Vector SplSlot 2
  fslots : Vector FlashSlot 2
  /-- The newer flash slot. -/
  fnew : Fin 2
  /-- Seals counted for FLASH_EVERY. -/
  seals : Nat
  drain : Option Drain
  /-- A drain to start once the one in progress has ended: its HBM slot, and whether its seal carried ACT. -/
  again : Option (Fin 2 × Bool)
  deriving DecidableEq, Repr

def SplArea.reset : SplArea := ⟨Vector.replicate 2 ⟨0, 0, 0⟩, Vector.replicate 2 ⟨false, 0, 0, 0⟩, 0, 0, none, none⟩

/-- An NVMe command outstanding at the SSD (R393): a Write of a drain, its Flush, its seal written with FUA; or the Read of
a restore's segment, whose reply goes to a package under a tag. -/
inductive NvmeCmd where
  | write (p : CoreId) (off len : Nat)
  | flush (p : CoreId)
  | seal (p : CoreId)
  | read (h : SplitHead) (dst : BitVec 16) (tag : BitVec 16)
  deriving DecidableEq, Repr

/-! ## Hangs and the photo (chapter 15) -/

inductive HangPhase where
  | photo | reset | replay | guilty
  deriving DecidableEq, Repr

/-- A hang being handled (R437, R440): the engine by kind, core or die, and sequencer; its partition, none for an engine of
no core; its suspects not yet replayed; and the suspect being replayed since an instant. -/
structure Hang where
  kind : Fin 9
  inst : Nat
  seq : SeqId
  part : Option CoreId
  suspects : List CtxId
  cur : Option CtxId
  since : W64
  phase : HangPhase
  deriving DecidableEq, Repr

/-- A photo being taken (R449): its cause, the unit that caused it, the PTB at the cause, and the units that have timed out
so far, by place in the visit, with their status and the PTB of the timeout. -/
structure Photo where
  cause : Nat
  unit : Option Nat
  ptb : W64
  outs : List (Nat × Nat × W64)
  deriving DecidableEq, Repr

/-! ## Power (chapter 16) -/

inductive PState where
  | run | sleep | deep | off
  deriving DecidableEq, Repr

/-- The smallest reading of a core's canaries in a control period (R459): when, the point the core used, the reading in ps, and the
offset then, in mV. -/
structure Canary where
  core : CoreId
  at_ : W64
  point : Nat
  ps : BitVec 16
  mv : Int
  deriving DecidableEq, Repr

/-- What the PSC keeps beside its registers. -/
structure Psc where
  state : PState
  /-- An entry in progress, and an exit in progress (R477, R481). -/
  entry : Option PState
  exiting : Bool
  /-- Wake levels that stay until served: the timer, and an SMBus address match (R481). -/
  wakeTimer : Bool
  wakeMatch : Bool
  /-- The PTB recorded at an entry to Deep sleep (R36). -/
  sleepPtb : W64
  /-- When PSC_REFUSED was last raised (R484). -/
  refusedAt : Option W64
  /-- Since when DWELL_MS runs: the package came to Idle, or an attempt at an entry ended (R475). -/
  dwellAt : W64
  capFreq : Nat
  elecFreq : Nat
  /-- Thermal limit of each core in MHz, and whether it is falling (R464). -/
  thermal : Vector Nat 8
  falling : Vector Bool 8
  /-- Memory base dies that admit half of their requests. -/
  memHalf : BitVec 16
  /-- Frequency chosen for each core in MHz (R456). -/
  target : Vector Nat 8
  /-- Droop trips of the running control period, cores whose periods are stretched, and cores to be treated as 5 mV short
  (R462). -/
  trips : Vector Nat 8
  stretched : BitVec 8
  short : BitVec 8
  /-- PTB of each core's last re-plan, the offset it moves to, and cores whose headroom has been reported low (R460). -/
  planAt : Vector W64 8
  planTo : Vector Int 8
  low : BitVec 8
  /-- Means of the last control periods in mW, newest first, as many as CAP_WINDOW_MS holds, each with whether it was measured
  at D = 48 (R467, R469). -/
  means : List (Nat × Bool)
  /-- The input voltage is below 44.0 V; it has been for 10 ms (R454). -/
  lowV : Bool
  degV : Bool
  /-- Register writes that wait for the exit from Sleep or Deep sleep, oldest first (R483). -/
  heldWr : List (FnId × Nat × W32)
  /-- The PTB restored at an exit from Deep sleep has not been synchronised again (R36); and it was ahead of its partner, and is held
  until the partner reaches it. -/
  resync : Bool
  ahead : Bool
  /-- The PSC holds at the boundary between two control periods for a pending commit of set 1 (R50, R472). -/
  boundary : Bool
  /-- Canary readings of the last hour that may be the smallest at their point, and the ring oscillators as last read (R459, R460). -/
  canary : List Canary
  rings : List (BitVec 16)
  deriving DecidableEq, Repr

def Psc.reset : Psc where
  state := .run
  entry := none
  exiting := false
  wakeTimer := false
  wakeMatch := false
  sleepPtb := 0
  refusedAt := none
  dwellAt := 0
  capFreq := 1550
  elecFreq := 1550
  thermal := Vector.replicate 8 1550
  falling := Vector.replicate 8 false
  memHalf := 0
  target := Vector.replicate 8 600
  trips := Vector.replicate 8 0
  stretched := 0
  short := 0
  planAt := Vector.replicate 8 0
  planTo := Vector.replicate 8 0
  low := 0
  means := []
  lowV := false
  degV := false
  heldWr := []
  resync := false
  ahead := false
  boundary := false
  canary := []
  rings := []

/-! ## Start, crown, images and life cycle (chapter 17) -/

/-- A record of the start counter (R496). -/
structure StartRec where
  no : W32
  kind : BitVec 8
  consec : BitVec 8
  reason : BitVec 8
  stage : BitVec 4
  copyIntent : Bool
  actPending : Bool
  deriving DecidableEq, Repr

/-- What the current start keeps (R495): whether it is a cold one, the last stage completed, whether its BEGIN record asks
for the copy of the stage bank, the gauntlet it runs, and whether a false start of it waits for its retry. -/
structure Start where
  cold : Bool
  done : Nat
  copy : Bool
  full : Bool
  failed : Bool
  /-- The newest record is of kind RETRY, so the start runs in full (R497). -/
  retry : Bool
  deriving DecidableEq, Repr

/-- The fuses (R500, R501, R507). -/
structure Fuses where
  life : Fin 6
  /-- Floor fuses blown since final test. -/
  blown : Nat
  /-- Revocation bits of vendor key slots 0 to 3. -/
  revoked : BitVec 4
  /-- The owner key digest, once enrolled, and its revocation. -/
  owner : Option (BitVec 256)
  ownerRevoked : Bool
  deriving DecidableEq, Repr

/-- An activation (R504). -/
structure Activation where
  armed : Bool
  /-- The armed time. -/
  time : W64
  split : Bool
  /-- Its time has come; since when. -/
  begun : Option W64
  deriving DecidableEq, Repr

/-- A package-level action that waits for the other management die's acknowledgement (R486, R488). -/
inductive CrownAct where
  | warm
  | photo (cause : Nat) (unit : Option Nat)
  deriving DecidableEq, Repr

/-- The crown bits of MW and ME, and the conflict that persists (R488, R489). -/
structure Crown where
  mw : Bool
  me : Bool
  /-- End of the last re-arbitration, and the conflicts that have followed one another within 1 ms. -/
  arbAt : Option W64
  run : Nat
  /-- No claim of MW, or of ME, has come (R487). -/
  silentMw : Bool
  silentMe : Bool
  /-- Heartbeats on crossing 11, oldest first: whether ME sent it, and its crown bit (R488). -/
  beats : List (Bool × Bool)
  /-- A conflict has persisted: the start ends in warm-up mode (R489). -/
  conflict : Bool
  /-- Actions that wait while both dies claim the crown, oldest first (R488). -/
  waits : List CrownAct
  deriving DecidableEq, Repr

/-! ## The gauntlet (chapter 18) -/

/-- Spare elements of a core in use beside those fused at final test (R517, R518): applied soft, the groups of columns, the rows
by bank and the statistics rows; blown into fuses since, the groups and the rows by bank; and whether GNT_FUSE_FULL has been
raised. -/
structure Spares where
  cols : List Nat
  rows : SMap Nat
  stat : Nat
  fcols : List Nat
  frows : SMap Nat
  full : Bool
  deriving DecidableEq, Repr

def Spares.reset : Spares := ⟨[], [], 0, [], [], false⟩

/-! ## Pins (chapter 19) -/

/-- The sideband inputs, and what the part drives open-drain (R526, R532). ALERT_N and STATUS follow from the rest of the
state. -/
structure Pins where
  vaux : Bool
  /-- PWRGD is asserted; PERST_N is asserted. -/
  pwrgd : Bool
  perst : Bool
  /-- WAKE_N is low. -/
  wakeLow : Bool
  /-- SMB_ADDR as sampled (R529, R540). -/
  straps : Fin 4
  /-- THERMTRIP_N is asserted (R466). -/
  thermtrip : Bool
  /-- FLP_PERST_N is asserted (R534). -/
  flpPerst : Bool
  /-- REFCLK_LINK is present and within tolerance (R31). -/
  linkRef : Bool
  deriving DecidableEq, Repr


/-! ## The state -/

structure State where
  /-- The commands that wait, first in first out. -/
  pending : List Instr
  /-- Active copies of the registers of BAR0 by their offset (R44); an unlisted register has its reset value. -/
  regs : SMap W32
  /-- Shadow copies of the registers with RWS fields (R44, R49). -/
  shadow : SMap W32
  /-- The package time base, in ns (R33). -/
  ptb : W64
  /-- Index of the next free value (notes/assumptions/3); the model's own. -/
  free : Nat
  cores : Vector Core 8
  /-- The 4,096 hurdles by ID (R143). -/
  hurdles : SMap Hurdle
  /-- Arrivals sent and not yet registered, oldest first (R20). -/
  arrivals : List Arrival
  /-- Host memory, as the host die reads and writes it. -/
  host : SMap Byte
  fns : Vector Fn 9
  /-- MSI-X messages sent, oldest first: function and vector (R390). -/
  msix : List (FnId × Nat)
  /-- SMBus alert entries, oldest first: BLOCK and INDEX (R397). -/
  alerts : List (BitVec 8 × BitVec 8)
  ctxs : Vector Ctx 64
  parts : Vector Part 8
  /-- HBM as DRAM holds it, by physical address (R256). -/
  dram : SMap Byte
  /-- Entries of the buffers of every pseudo-channel, least recently used first (R265). -/
  buf : List BufEntry
  /-- Lines marked poisoned (R269). -/
  poisoned : SMap Bool
  rows : SMap DramRow
  /-- Spare rows used, by bank. -/
  spares : SMap Nat
  /-- The repair log in the configuration flash, oldest first. -/
  repairLog : List RepairRec
  retired : List Nat
  /-- Channels that failed training at a start (R272). -/
  chanOut : List Nat
  /-- Slots mapped out, ascending (R258); MEM_LIMIT stands in its registers. -/
  dead : List Nat
  tlbCore : Vector (List Tlb) 8
  tlbDie : Vector (List Tlb) 8
  tlbHost : List Tlb
  /-- Invalidations that wait while one is in progress, the first one in progress (R262). -/
  inval : List InvalReq
  flushing : Bool
  /-- Pages of host memory by partition that ATS finds absent (R275). -/
  hostAbsent : List (CoreId × Nat)
  /-- Translations that the host die has cached (R275); and the pages whose translation the host has changed, each time it
  did: the model's own. -/
  atc : List Atc
  atsChanged : List (BitVec 20 × Nat)
  /-- Page requests that the host has not answered (R245). -/
  pageReqs : List PageReq
  watch : Vector (List Watch) 8
  /-- Resolutions by partition and window (R264). -/
  spec : Vector (Vector SpecRes 2) 8
  ports : Vector Port 16
  /-- Traffic by dimension. -/
  dims : Vector Dim 16
  outReq : List OutReq
  transit : List Transit
  inbox : List InMsg
  /-- Pairs of dimension and context, or no context, that LNK_NO_ROUTE has named (R329). -/
  noRoutes : List (Nat × Option CtxId)
  /-- Releases of kick hurdles that relay engines have not yet served, oldest first (R347). -/
  kicks : List (CoreId × CtxId × Fin 3)
  /-- Line requests to HBM by stack and context in the running energy interval, key 64 times the stack plus the context; and
  the sub-microjoule remainder of SCH_ENERGY_OVH, in nJ (R413). -/
  lineReqs : SMap Nat
  ovhRem : Nat
  /-- What the last read completed with, by function (the PF for SMBus). -/
  reply : Vector W64 9
  /-- Consecutive offsets to the synchronising partner within 2 ns, at most 8 (R336). -/
  syncGood : Nat
  /-- Relay engines of the fabric dies. -/
  rels : Vector Rel 8
  /-- The areas of the buddy region by partition, and the slot of this package's last seal at its buddy, by partition. -/
  areas : Vector SplArea 8
  lastSlot : Vector (Fin 2) 8
  /-- Namespace 1 of the flash SSD, by byte, and the NVMe commands outstanding, oldest first. -/
  flash : SMap Byte
  nvme : List NvmeCmd
  /-- Register writes that wait for the commit of their set, and writes to the same block behind them, oldest first: the
  function, the offset and the value (R47, R51). -/
  posted : List (FnId × Nat × W32)
  /-- Register reads not yet answered, oldest first: the function, the offset, and whether the read is 64 bits wide (R47,
  R48). -/
  heldReads : List (FnId × Nat × Bool)
  /-- The sets with a pending commit, in the order of their commit writes (R51). -/
  csetOrder : List Nat
  /-- What the host has configured of the PCIe functions (R38, R373). -/
  pcie : Pcie
  /-- REFCLK_SYS is lost: the generators hold their last frequency, and the package resets once its contexts have stopped
  (R31). -/
  refLost : Bool
  hangs : List Hang
  /-- The PTB from which the watchdog of an engine counts: of its last progress, or of the work it was given when it held none; by its
  key (R435). -/
  progress : SMap W64
  /-- PTB of the escalation events, newest first (R446). -/
  esc : List W64
  photoRun : Option Photo
  /-- A warm reset waits for its photo (R445). -/
  resetDue : Bool
  /-- The photo buffer, and the photo sector of the configuration flash, by 32-bit word (R450). -/
  photo : List W32
  photoSector : List W32
  psc : Psc
  /-- The start counter's sectors A and B, the two words of each record, oldest record first, and whether B is the current one
  (R496). -/
  recA : List (W64 × W64)
  recB : List (W64 × W64)
  curB : Bool
  start : Start
  fuses : Fuses
  activation : Activation
  crown : Crown
  /-- The active image and the stage bank of the configuration flash (R490), the words of the staging buffer not yet
  programmed, and the bytes programmed in this session (R503). -/
  activeImage : SMap Byte
  stageBank : SMap Byte
  stgBuf : List W32
  stgAt : Nat
  gnt : Vector Spares 8
  /-- LNK_CTL.RETRAIN has been written for the port under test (R523). -/
  retrainDue : Bool
  pins : Pins
  /-- The SMBus pointer, whether the last command was refused, and the GLB copy of a Deep sleep (R395, R396). -/
  smbPtr : W32
  smbRefused : Bool
  glbCopy : SMap W32
  deriving DecidableEq, Repr

/-- The part right after package cold reset (R11, R53). -/
def State.reset : State where
  pending := []
  -- GLB_STATUS.LIFE is fused: Provisioned, as a part leaves the factory (R3; notes/assumptions/25)
  regs := [(0x1C, 0x40000000)]
  shadow := []
  ptb := 0
  free := 0
  cores := Vector.replicate 8 Core.reset
  hurdles := []
  arrivals := []
  host := []
  fns := Vector.replicate 9 Fn.reset
  msix := []
  alerts := []
  ctxs := Vector.replicate 64 Ctx.reset
  parts := Vector.replicate 8 Part.reset
  dram := []
  buf := []
  poisoned := []
  rows := []
  spares := []
  repairLog := []
  retired := []
  chanOut := []
  dead := []
  tlbCore := Vector.replicate 8 []
  tlbDie := Vector.replicate 8 []
  tlbHost := []
  inval := []
  flushing := false
  hostAbsent := []
  atc := []
  atsChanged := []
  pageReqs := []
  watch := Vector.replicate 8 []
  spec := Vector.replicate 8 (Vector.replicate 2 ⟨[], [], false⟩)
  ports := Vector.replicate 16 Port.reset
  dims := Vector.replicate 16 Dim.reset
  outReq := []
  transit := []
  inbox := []
  noRoutes := []
  kicks := []
  lineReqs := []
  ovhRem := 0
  reply := Vector.replicate 9 0
  syncGood := 0
  rels := Vector.replicate 8 Rel.reset
  areas := Vector.replicate 8 SplArea.reset
  lastSlot := Vector.replicate 8 1
  flash := []
  nvme := []
  posted := []
  heldReads := []
  csetOrder := []
  pcie := Pcie.reset
  refLost := false
  hangs := []
  progress := []
  esc := []
  photoRun := none
  resetDue := false
  photo := []
  photoSector := []
  psc := Psc.reset
  recA := []
  recB := []
  curB := false
  start := ⟨true, 0, false, false, false, false⟩
  fuses := ⟨2, 0, 1, none, false⟩
  activation := ⟨false, 0, false, none⟩
  crown := ⟨false, false, none, 0, false, false, [], false, []⟩
  activeImage := []
  stageBank := []
  stgBuf := []
  stgAt := 0
  gnt := Vector.replicate 8 Spares.reset
  retrainDue := false
  pins := ⟨true, true, true, false, 0, false, true, true⟩
  smbPtr := 0
  smbRefused := false
  glbCopy := []

end Sys2Proof.Machine
end

