-- ==== Sys2Proof/Config.lean ====
section
/-! DEFINITION. What the spec leaves open: constants without a body, so that no proof can see a value of them.
Each is named in the assumption log. -/

namespace Sys2Proof.Config
open Sys2Proof

/-- A fresh word for each index: the free value behind every 'undefined' of the spec after which the part goes on
(notes/assumptions/3). The step reads `State.free` and advances it. -/
opaque freeWord : Nat → W64

/-- The row-engine primitives of R209 on inputs that it does not fix: the value each takes where its bound allows that
value (notes/assumptions/4). -/
opaque primExp : W32 → W32
opaque primLog : W32 → W32
opaque primTanh : W32 → W32
opaque primSigmoid : W32 → W32
opaque primErf : W32 → W32
opaque primRecip : W32 → W32
opaque primRsqrt : W32 → W32

/-- The fused serial number of the part, four characters a word (R2, GLB_SERIAL; notes/assumptions/5). -/
opaque serial : Fin 3 → W32

/-- The fused voltage and frequency table of a core (R457, PSC_VF_DATA): voltage in mV of a point
(notes/assumptions/5). -/
opaque vfMillivolt : CoreId → Fin 64 → BitVec 12

/-- The fused age of a core's brim (PSC_BRIM_n.AGE_MV; notes/assumptions/5). -/
opaque ageMillivolt : CoreId → BitVec 8

/-- Whether a canary of a core that read so many ps at a point, with an offset in mV, would meet the fused target of 25 ps with
another offset (R460; notes/assumptions/86). -/
opaque canaryMeets : CoreId → Nat → BitVec 16 → Int → Int → Bool

/-- Whether a point of a core's table is permitted as a boost point (R455; notes/assumptions/5). -/
opaque vfBoost : CoreId → Fin 64 → Bool

/-- The fused maximum of a power die's output current, in mA (R470; notes/assumptions/5). -/
opaque railLimit : CoreId → Nat

/-- Anti-rollback floor bits blown at final test (R3, GLB_FLOOR; notes/assumptions/5). -/
opaque floorAtTest : Fin 65

/-- Repairs fused at final test (R518; notes/assumptions/5): the groups of a core's array columns, and the rows of a bank of its
core store. -/
opaque testCols : CoreId → List (Fin 8)
opaque testRows : CoreId → Nat → Fin 9

/-- The spare rows a bank of the HBM stacks reports, by the bank's key (chapter 08; notes/assumptions/5). -/
opaque bankSpares : Nat → Fin 65

/-- The host page that the host gives for a page of a PASID's space, after it has changed its translation so often (R275;
notes/assumptions/77). -/
opaque atsPage : Nat → BitVec 20 → Nat → BitVec 52

/-- The items of a split whose layout the spec does not give, as bytes: their number, which the state they record bounds, and each
byte; and what such bytes stand for, none where they stand for nothing (R420; notes/assumptions/22). -/
opaque splitSize : Machine.SplitItems → BitVec 40
opaque splitByte : Machine.SplitItems → Nat → Byte
opaque splitItems : List Byte → Option Machine.SplitItems

/-- The payloads of CTRL, TSYNC and IDENT flits, the row header of a ROWS message, and the places of a VALUE's bits and of a
REFUSE's reason: layouts that the spec does not give (R323, R353, R365; notes/assumptions/81). -/
opaque ctrlPayload : Ctrl → List Byte
opaque tsyncPayload : Tsync → List Byte
opaque identPayload : Ident → List Byte
opaque rowHead : RowItem → Nat → Byte
opaque valueBits : BitVec 2 → W64
opaque refuseBits : Bool → W64

end Sys2Proof.Config
end

