-- ==== Sys2Proof/Machine/RegTable.lean ====
section
/-! DEFINITION. The register table of BAR0: every register the register tables of the spec give, with its fields, their
access codes (R10), reset values (R11) and commit set (R49). The tables of chapters 01 to 18 are transcribed row by row;
reserved fields are left out, since they read zero and ignore writes (R46). -/

namespace Sys2Proof.Machine

/-- Access codes of R10. -/
inductive Acc where
  | rw | ro | wo | w1c | w1s | rc | rws
  deriving DecidableEq, Repr

/-- One field of a register: bits hi to lo, access and reset value. -/
structure FieldRow where
  name : String
  hi : Nat
  lo : Nat
  acc : Acc
  reset : Nat
  deriving DecidableEq, Repr

/-- The commit set of a register's RWS fields: none, a fixed set, or CORE n, set 3 + n (R49). -/
inductive SetOf where
  | none
  | fixed (n : Nat)
  | core
  deriving DecidableEq, Repr

/-- One register, or an array of them: its offset in its page, and for each index its count and stride. -/
structure RegRow where
  name : String
  off : Nat
  dims : List (Nat × Nat)
  fields : List FieldRow
  set : SetOf
  deriving DecidableEq, Repr

/-- Registers of the GLB page (R41, R55). The serial number stands in GLB_SERIAL alone: R3 has it in the start record too, and R55 gives
that no field for it (DESIGN CHOICE, notes/assumptions/80). -/
def rows_glb_0 : List RegRow :=
  [⟨"GLB_ID", 0x0, [], [⟨"PART", 31, 16, .ro, 0x9100⟩, ⟨"FAMILY", 15, 8, .ro, 0x7⟩, ⟨"STEP_MAJOR", 7, 4, .ro, 0x2⟩, ⟨"STEP_MINOR", 3, 0, .ro, 0x1⟩], .none⟩,
   ⟨"GLB_SERIAL0", 0x4, [], [⟨"CHARS", 31, 0, .ro, 0x0⟩], .none⟩,
   ⟨"GLB_SERIAL1", 0x8, [], [⟨"CHARS", 31, 0, .ro, 0x0⟩], .none⟩,
   ⟨"GLB_SERIAL2", 0xc, [], [⟨"CHARS", 31, 0, .ro, 0x0⟩], .none⟩,
   ⟨"GLB_FW", 0x10, [], [⟨"SEC", 31, 24, .ro, 0x0⟩, ⟨"BUILD", 23, 0, .ro, 0x0⟩], .none⟩,
   ⟨"GLB_FLOOR", 0x14, [], [⟨"FLOOR", 6, 0, .ro, 0x0⟩], .none⟩,
   ⟨"GLB_PKG", 0x18, [], [⟨"PKG_ID", 15, 0, .ro, 0x0⟩], .none⟩,
   ⟨"GLB_STATUS", 0x1c, [], [⟨"LIFE", 31, 29, .ro, 0x0⟩, ⟨"CROWN_EAST", 28, 28, .ro, 0x0⟩, ⟨"OOS", 27, 27, .w1c, 0x0⟩, ⟨"WARM_UP", 26, 26, .ro, 0x0⟩, ⟨"SR_VALID", 25, 25, .ro, 0x0⟩, ⟨"STAGE", 3, 0, .ro, 0x0⟩], .none⟩,
   ⟨"GLB_SR_HDR", 0x100, [], [⟨"START_NO", 31, 16, .ro, 0x0⟩, ⟨"REASON", 15, 8, .ro, 0x0⟩, ⟨"KIND", 7, 6, .ro, 0x0⟩, ⟨"GAUNTLET", 5, 4, .ro, 0x0⟩, ⟨"STAGE", 3, 0, .ro, 0x0⟩], .none⟩,
   ⟨"GLB_SR_UNITS0", 0x104, [], [⟨"CORES", 23, 16, .ro, 0x0⟩, ⟨"STACKS", 15, 0, .ro, 0x0⟩], .none⟩,
   ⟨"GLB_SR_UNITS1", 0x108, [], [⟨"PORTS_UP", 31, 16, .ro, 0x0⟩, ⟨"PORTS", 15, 0, .ro, 0x0⟩], .none⟩,
   ⟨"GLB_SR_HBM", 0x10c, [], [⟨"USABLE_MIB", 31, 0, .ro, 0x0⟩], .none⟩]

/-- Registers of the GLB page (R41, R55). -/
def rows_glb_1 : List RegRow :=
  [⟨"GLB_SR_REPAIRS", 0x110, [], [⟨"CHANNELS_OUT", 31, 16, .ro, 0x0⟩, ⟨"SPARES_USED", 15, 0, .ro, 0x0⟩], .none⟩,
   ⟨"GLB_SR_FLAGS", 0x114, [], [⟨"NO_LINKREF", 2, 2, .ro, 0x0⟩, ⟨"STAGED_ACTIVATED", 1, 1, .ro, 0x0⟩, ⟨"CROWN_CONFLICT", 0, 0, .ro, 0x0⟩], .none⟩,
   ⟨"GLB_SR_PTB_LO", 0x118, [], [⟨"NS_LO", 31, 0, .ro, 0x0⟩], .none⟩,
   ⟨"GLB_SR_PTB_HI", 0x11c, [], [⟨"NS_HI", 31, 0, .ro, 0x0⟩], .none⟩]

/-- Registers of the GLB page (R41, R55). -/
def rows_glb : List RegRow :=
  rows_glb_0 ++ rows_glb_1

/-- Registers of the CLK page (R37). -/
def rows_clk : List RegRow :=
  [⟨"PTB_NOW_LO", 0x0, [], [⟨"NS_LO", 31, 0, .ro, 0x0⟩], .none⟩,
   ⟨"PTB_NOW_HI", 0x4, [], [⟨"NS_HI", 31, 0, .ro, 0x0⟩], .none⟩,
   ⟨"PTB_STATUS", 0x8, [], [⟨"SYNC_ERR_NS", 31, 16, .ro, 0x0⟩, ⟨"SOURCE_PORT", 15, 12, .ro, 0x0⟩, ⟨"MASTER_EAST", 2, 2, .ro, 0x0⟩, ⟨"STATE", 1, 0, .ro, 0x0⟩], .none⟩,
   ⟨"CLK_RUN0", 0xc, [], [⟨"LCLK_ON", 31, 16, .ro, 0x0⟩, ⟨"MCLK_ON", 15, 0, .ro, 0x0⟩], .none⟩,
   ⟨"CLK_RUN1", 0x10, [], [⟨"PCLK_ME_ON", 18, 18, .ro, 0x0⟩, ⟨"PCLK_MW_ON", 17, 17, .ro, 0x0⟩, ⟨"HCLK_ON", 16, 16, .ro, 0x0⟩, ⟨"FCLK_FEED_ON", 15, 8, .ro, 0x0⟩, ⟨"ACLK_ON", 7, 0, .ro, 0x0⟩], .none⟩]

/-- Registers of the CSET page (R53). -/
def rows_cset : List RegRow :=
  [⟨"CSET_COMMIT", 0x0, [], [⟨"SET", 4, 0, .wo, 0x0⟩], .none⟩,
   ⟨"CSET_DISCARD", 0x4, [], [⟨"SET", 4, 0, .wo, 0x0⟩], .none⟩,
   ⟨"CSET_PENDING", 0x8, [], [⟨"PENDING", 15, 0, .ro, 0x0⟩], .none⟩,
   ⟨"CSET_DIRTY", 0xc, [], [⟨"DIRTY", 15, 0, .ro, 0x0⟩], .none⟩,
   ⟨"CSET_ERR", 0x10, [], [⟨"ERR", 15, 0, .w1c, 0x0⟩], .none⟩,
   ⟨"CSET_COUNT", 0x14, [], [⟨"REFUSED", 31, 16, .ro, 0x0⟩, ⟨"DONE", 15, 0, .ro, 0x0⟩], .none⟩]

/-- Registers of the HIF page (R376 to R391). -/
def rows_hif_0 : List RegRow :=
  [⟨"HIF_STATUS", 0x0, [], [⟨"SPEED", 31, 28, .ro, 0x0⟩, ⟨"WIDTH", 27, 23, .ro, 0x0⟩, ⟨"FLIT", 22, 22, .ro, 0x0⟩, ⟨"NUMVF", 21, 18, .ro, 0x0⟩], .none⟩,
   ⟨"HIF_FN_APER", 0x100, [(9, 0x40)], [⟨"APER", 26, 0, .rws, 0x0⟩], .fixed 11⟩,
   ⟨"HIF_FN_AQ_CFG", 0x104, [(9, 0x40)], [⟨"AQ_EN", 31, 31, .rws, 0x0⟩, ⟨"LOG2", 24, 20, .rws, 0x0⟩, ⟨"PASID", 19, 0, .rws, 0x0⟩], .fixed 14⟩,
   ⟨"HIF_FN_AQ_BASE_LO", 0x108, [(9, 0x40)], [⟨"ADDR", 31, 0, .rws, 0x0⟩], .fixed 14⟩,
   ⟨"HIF_FN_AQ_BASE_HI", 0x10c, [(9, 0x40)], [⟨"ADDR", 31, 0, .rws, 0x0⟩], .fixed 14⟩,
   ⟨"HIF_FN_AQ_HEAD_LO", 0x110, [(9, 0x40)], [⟨"ADDR", 31, 0, .rws, 0x0⟩], .fixed 14⟩,
   ⟨"HIF_FN_AQ_HEAD_HI", 0x114, [(9, 0x40)], [⟨"ADDR", 31, 0, .rws, 0x0⟩], .fixed 14⟩,
   ⟨"HIF_FN_EQ_BASE_LO", 0x118, [(9, 0x40)], [⟨"ADDR", 31, 0, .rws, 0x0⟩], .fixed 14⟩,
   ⟨"HIF_FN_EQ_BASE_HI", 0x11c, [(9, 0x40)], [⟨"ADDR", 31, 0, .rws, 0x0⟩], .fixed 14⟩,
   ⟨"HIF_FN_EQ_CFG", 0x120, [(9, 0x40)], [⟨"EQ_EN", 31, 31, .rws, 0x0⟩, ⟨"LOG2", 24, 20, .rws, 0x0⟩, ⟨"MOD_US", 15, 0, .rws, 0x0⟩], .fixed 14⟩,
   ⟨"HIF_FN_EQ_DROP", 0x124, [(9, 0x40)], [⟨"COUNT", 31, 0, .rc, 0x0⟩], .none⟩,
   ⟨"HIF_FN_QSTATE", 0x128, [(9, 0x40)], [⟨"MAXQ", 6, 0, .rws, 0x40⟩], .fixed 14⟩]

/-- Registers of the HIF page (R376 to R391). -/
def rows_hif_1 : List RegRow :=
  [⟨"HIF_FN_QEXIST_LO", 0x130, [(9, 0x40)], [⟨"EXIST", 31, 0, .ro, 0x0⟩], .none⟩,
   ⟨"HIF_FN_QEXIST_HI", 0x134, [(9, 0x40)], [⟨"EXIST", 31, 0, .ro, 0x0⟩], .none⟩,
   ⟨"HIF_FN_QERR_LO", 0x138, [(9, 0x40)], [⟨"ERROR", 31, 0, .ro, 0x0⟩], .none⟩,
   ⟨"HIF_FN_QERR_HI", 0x13c, [(9, 0x40)], [⟨"ERROR", 31, 0, .ro, 0x0⟩], .none⟩,
   ⟨"HIF_PF_QVEC", 0x400, [(64, 0x4)], [⟨"VEC", 5, 0, .rws, 0x1⟩], .fixed 14⟩,
   ⟨"HIF_PF_EQ_MASK", 0x500, [], [⟨"MASK", 31, 0, .rw, 0x0⟩], .none⟩]

/-- Registers of the HIF page (R376 to R391). -/
def rows_hif : List RegRow :=
  rows_hif_0 ++ rows_hif_1

/-- Registers of the FLP page (R393). -/
def rows_flp : List RegRow :=
  [⟨"FLP_STATUS", 0x0, [], [⟨"READY", 31, 31, .ro, 0x0⟩, ⟨"LOST", 30, 30, .ro, 0x0⟩, ⟨"SPEED", 29, 26, .ro, 0x0⟩, ⟨"WIDTH", 25, 22, .ro, 0x0⟩, ⟨"LBA4K", 21, 21, .ro, 0x0⟩, ⟨"CRIT_WARN", 7, 0, .ro, 0x0⟩], .none⟩,
   ⟨"FLP_LBAS_LO", 0x4, [], [⟨"LO", 31, 0, .ro, 0x0⟩], .none⟩,
   ⟨"FLP_LBAS_HI", 0x8, [], [⟨"HI", 31, 0, .ro, 0x0⟩], .none⟩]

/-- Registers of the PSC page (R485). -/
def rows_psc_0 : List RegRow :=
  [⟨"PSC_STATUS", 0x0, [], [⟨"STATE", 31, 29, .ro, 0x0⟩, ⟨"TRIPPED", 28, 28, .w1c, 0x0⟩, ⟨"INPUT_DEGRADED", 27, 27, .ro, 0x0⟩, ⟨"CAP_LIMITED", 26, 26, .ro, 0x0⟩, ⟨"UNATTAINABLE", 25, 25, .ro, 0x0⟩, ⟨"OVERTEMP", 24, 24, .ro, 0x0⟩, ⟨"PACER_BROKEN", 23, 23, .ro, 0x0⟩, ⟨"DUTY", 21, 16, .ro, 0x0⟩, ⟨"CORE_IDLE", 7, 0, .ro, 0x0⟩], .none⟩,
   ⟨"PSC_CAP", 0x4, [], [⟨"CAP_MW", 31, 0, .rws, 0x6ddd00⟩], .fixed 1⟩,
   ⟨"PSC_PACER", 0x8, [], [⟨"ENABLE", 31, 31, .rws, 0x0⟩, ⟨"FREQ_MHZ", 10, 0, .rws, 0x514⟩], .fixed 1⟩,
   ⟨"PSC_POLICY", 0xc, [], [⟨"PACE_FOLLOW", 31, 31, .rws, 0x1⟩, ⟨"BOOST", 30, 30, .rws, 0x1⟩, ⟨"SLEEP_EN", 29, 29, .rws, 0x1⟩, ⟨"DEEP_EN", 28, 28, .rws, 0x0⟩, ⟨"CAP_WINDOW_MS", 23, 16, .rws, 0x1⟩, ⟨"IDLE_ENTRY_US", 15, 8, .rws, 0x2⟩, ⟨"DWELL_MS", 7, 0, .rws, 0xa⟩], .fixed 1⟩,
   ⟨"PSC_LAT", 0x10, [(8, 0x4)], [⟨"LAT_US", 31, 0, .rws, 0xffffffff⟩], .fixed 1⟩,
   ⟨"PSC_LAT_PKG", 0x30, [], [⟨"LAT_US", 31, 0, .rws, 0xffffffff⟩], .fixed 1⟩,
   ⟨"PSC_CTL", 0x34, [], [⟨"KEY", 31, 16, .wo, 0x0⟩, ⟨"OFF", 0, 0, .wo, 0x0⟩], .none⟩,
   ⟨"PSC_POWER", 0x38, [], [⟨"MW", 31, 0, .ro, 0x0⟩], .none⟩,
   ⟨"PSC_INPUT", 0x3c, [], [⟨"REDUN_LOST", 31, 31, .rw, 0x0⟩, ⟨"VIN", 15, 0, .ro, 0x0⟩], .none⟩,
   ⟨"PSC_WAKE_CFG", 0x40, [], [⟨"LEVEL", 0, 0, .rw, 0x1⟩], .none⟩,
   ⟨"PSC_WAKE_AT_LO", 0x44, [], [⟨"NS_LO", 31, 0, .rw, 0x0⟩], .none⟩,
   ⟨"PSC_WAKE_AT_HI", 0x48, [], [⟨"NS_HI", 31, 0, .rw, 0x0⟩], .none⟩]

/-- Registers of the PSC page (R485). -/
def rows_psc_1 : List RegRow :=
  [⟨"PSC_TEMP", 0x50, [], [⟨"SENSOR", 23, 16, .ro, 0x0⟩, ⟨"TEMP", 15, 0, .ro, 0x0⟩], .none⟩,
   ⟨"PSC_CORE", 0x80, [(8, 0x4)], [⟨"FMAX", 31, 26, .ro, 0x26⟩, ⟨"FREQ", 25, 20, .ro, 0x0⟩, ⟨"OFFSET", 15, 8, .ro, 0x0⟩, ⟨"HEADROOM", 7, 0, .ro, 0x0⟩], .none⟩,
   ⟨"PSC_DROOP", 0xa0, [(8, 0x4)], [⟨"TRIPS", 31, 0, .rc, 0x0⟩], .none⟩,
   ⟨"PSC_VF_INDEX", 0xc0, [], [⟨"CORE", 10, 8, .rw, 0x0⟩, ⟨"POINT", 5, 0, .rw, 0x0⟩], .none⟩,
   ⟨"PSC_VF_DATA", 0xc4, [], [⟨"BOOST", 31, 31, .ro, 0x0⟩, ⟨"VOLT_MV", 11, 0, .ro, 0x0⟩], .none⟩,
   ⟨"PSC_BRIM", 0xe0, [(8, 0x4)], [⟨"AGE_MV", 31, 24, .ro, 0x0⟩, ⟨"LAST_PLAN_H", 23, 0, .ro, 0x0⟩], .none⟩,
   ⟨"PSC_REFUSE_LOG", 0x100, [(16, 0x4)], [⟨"VALID", 31, 31, .ro, 0x0⟩, ⟨"ABORT", 30, 30, .ro, 0x0⟩, ⟨"TARGET", 29, 28, .ro, 0x0⟩, ⟨"REFUSER", 27, 24, .ro, 0x0⟩, ⟨"INSTANCE", 23, 16, .ro, 0x0⟩, ⟨"PTB_US", 15, 0, .ro, 0x0⟩], .none⟩,
   ⟨"PSC_REFUSE_HEAD", 0x140, [], [⟨"HEAD", 3, 0, .ro, 0x0⟩], .none⟩,
   ⟨"PSC_REFUSE_CNT", 0x204, [(13, 0x4)], [⟨"COUNT", 31, 0, .rc, 0x0⟩], .none⟩]

/-- Registers of the PSC page (R485). -/
def rows_psc : List RegRow :=
  rows_psc_0 ++ rows_psc_1

/-- Registers of the CRN page (R509). -/
def rows_crn_0 : List RegRow :=
  [⟨"CRN_STATUS", 0x0, [], [⟨"HOLDER_EAST", 31, 31, .ro, 0x0⟩, ⟨"MW_DEGRADED", 30, 30, .ro, 0x0⟩, ⟨"ME_DEGRADED", 29, 29, .ro, 0x0⟩, ⟨"CONSEC", 28, 24, .ro, 0x0⟩, ⟨"ACT", 23, 20, .ro, 0x0⟩, ⟨"CONFLICTS", 15, 8, .ro, 0x0⟩, ⟨"TAKEOVERS", 7, 0, .ro, 0x0⟩], .none⟩,
   ⟨"CRN_START_NO", 0x4, [], [⟨"START_NO", 31, 0, .ro, 0x0⟩], .none⟩,
   ⟨"CRN_LAST_FAIL", 0x8, [], [⟨"REASON", 15, 8, .ro, 0x0⟩, ⟨"STAGE", 7, 4, .ro, 0x0⟩], .none⟩,
   ⟨"CRN_CTL", 0xc, [], [⟨"KEY", 31, 16, .wo, 0x0⟩, ⟨"WARMUP", 1, 1, .wo, 0x0⟩, ⟨"RESTART", 0, 0, .wo, 0x0⟩], .none⟩,
   ⟨"CRN_LOCK", 0x10, [], [⟨"OWNER", 0, 0, .rw, 0x0⟩], .none⟩,
   ⟨"CRN_STG_CTL", 0x20, [], [⟨"ABORT", 2, 2, .w1s, 0x0⟩, ⟨"END", 1, 1, .w1s, 0x0⟩, ⟨"BEGIN", 0, 0, .w1s, 0x0⟩], .none⟩,
   ⟨"CRN_STG_LEN", 0x24, [], [⟨"BYTES", 31, 0, .rw, 0x0⟩], .none⟩,
   ⟨"CRN_STG_DATA", 0x28, [], [⟨"DATA", 31, 0, .wo, 0x0⟩], .none⟩,
   ⟨"CRN_STG_STATUS", 0x2c, [], [⟨"STATE", 31, 29, .ro, 0x0⟩, ⟨"OVERRUN", 28, 28, .ro, 0x0⟩, ⟨"CAUSE", 23, 16, .ro, 0x0⟩, ⟨"SPACE", 15, 0, .ro, 0x2000⟩], .none⟩,
   ⟨"CRN_STG_VER", 0x30, [], [⟨"SEC", 31, 24, .ro, 0x0⟩, ⟨"BUILD", 23, 0, .ro, 0x0⟩], .none⟩,
   ⟨"CRN_ACT_TIME_LO", 0x40, [], [⟨"NS_LO", 31, 0, .rw, 0x0⟩], .none⟩,
   ⟨"CRN_ACT_TIME_HI", 0x44, [], [⟨"NS_HI", 31, 0, .rw, 0x0⟩], .none⟩]

/-- Registers of the CRN page (R509). -/
def rows_crn_1 : List RegRow :=
  [⟨"CRN_ACT_CTL", 0x48, [], [⟨"KEY", 31, 16, .wo, 0x0⟩, ⟨"COPY_NOW", 3, 3, .wo, 0x0⟩, ⟨"SPLIT", 2, 2, .wo, 0x0⟩, ⟨"DISARM", 1, 1, .wo, 0x0⟩, ⟨"ARM", 0, 0, .wo, 0x0⟩], .none⟩,
   ⟨"CRN_ACT_CFG", 0x4c, [], [⟨"SPLIT_MS", 15, 0, .rw, 0x2710⟩], .none⟩,
   ⟨"CRN_LIFE", 0x50, [], [⟨"KEY", 31, 16, .wo, 0x0⟩, ⟨"TARGET", 2, 0, .wo, 0x0⟩], .none⟩,
   ⟨"CRN_OWNER_KEY", 0x60, [(8, 0x4)], [⟨"DIGEST", 31, 0, .rw, 0x0⟩], .none⟩]

/-- Registers of the CRN page (R509). -/
def rows_crn : List RegRow :=
  rows_crn_0 ++ rows_crn_1

/-- Registers of the GNT page (R524). -/
def rows_gnt : List RegRow :=
  [⟨"GNT_STATUS", 0x0, [], [⟨"STATE", 31, 30, .ro, 0x0⟩, ⟨"KIND", 29, 28, .ro, 0x0⟩, ⟨"UNIT", 27, 22, .ro, 0x0⟩], .none⟩,
   ⟨"GNT_CTL", 0x4, [], [⟨"START", 31, 31, .w1s, 0x0⟩, ⟨"FULL", 30, 30, .w1s, 0x0⟩, ⟨"UNIT", 5, 0, .w1s, 0x0⟩], .none⟩,
   ⟨"GNT_CFG", 0x8, [], [⟨"FIELD_FUSE", 0, 0, .rws, 0x1⟩], .fixed 0⟩,
   ⟨"GNT_FORCE0", 0xc, [], [⟨"CORES", 23, 16, .rws, 0x0⟩, ⟨"STACKS", 15, 0, .rws, 0x0⟩], .fixed 0⟩,
   ⟨"GNT_FORCE1", 0x10, [], [⟨"PORTS", 15, 0, .rws, 0x0⟩], .fixed 0⟩,
   ⟨"GNT_RESULT", 0x100, [(60, 0x4)], [⟨"RESULT", 31, 28, .ro, 0x0⟩, ⟨"CAUSE", 27, 24, .ro, 0x0⟩, ⟨"KIND", 23, 22, .ro, 0x0⟩, ⟨"TEST", 21, 16, .ro, 0x0⟩, ⟨"SPARES", 15, 0, .ro, 0x0⟩], .none⟩,
   ⟨"GNT_SPARES", 0x200, [(8, 0x4)], [⟨"COLS_LEFT", 31, 28, .ro, 0x8⟩, ⟨"ROWS_LEFT", 27, 15, .ro, 0x1000⟩, ⟨"FUSES_LEFT", 14, 4, .ro, 0x0⟩, ⟨"STAT_LEFT", 3, 0, .ro, 0x8⟩], .none⟩]

/-- Registers of the SMB page (R397). -/
def rows_smb : List RegRow :=
  [⟨"SMB_ALERT_MASK", 0x0, [], [⟨"MASK", 31, 0, .rw, 0x1c00⟩], .none⟩,
   ⟨"SMB_ALERT", 0x4, [], [⟨"VALID", 31, 31, .rc, 0x0⟩, ⟨"BLOCK", 15, 8, .rc, 0x0⟩, ⟨"INDEX", 7, 0, .rc, 0x0⟩], .none⟩,
   ⟨"SMB_ALERT_DROP", 0x8, [], [⟨"COUNT", 31, 0, .rc, 0x0⟩], .none⟩]

/-- Registers of the HNG page (R452). -/
def rows_hng : List RegRow :=
  [⟨"HNG_CFG", 0x0, [], [⟨"PHOTO_ON_HANG", 31, 31, .rws, 0x1⟩, ⟨"REPLAY", 30, 30, .rws, 0x1⟩, ⟨"REPLAY_SHIFT", 29, 27, .rws, 0x3⟩, ⟨"REPLAY_MS", 25, 16, .rws, 0xc8⟩, ⟨"CKPT_MS", 7, 0, .rws, 0x32⟩], .fixed 0⟩,
   ⟨"HNG_ESC", 0x4, [], [⟨"WINDOW_S", 31, 16, .rws, 0x258⟩, ⟨"COUNT", 7, 0, .rws, 0x8⟩], .fixed 0⟩,
   ⟨"HNG_ESC_STATUS", 0x8, [], [⟨"EVENTS", 7, 0, .ro, 0x0⟩], .none⟩,
   ⟨"HNG_WD", 0x10, [(9, 0x4)], [⟨"EN", 31, 31, .rws, 0x1⟩, ⟨"LIMIT_US", 23, 0, .rws, 0x0⟩], .fixed 0⟩,
   ⟨"HNG_STATE", 0x40, [], [⟨"PHASE", 31, 29, .ro, 0x0⟩, ⟨"KIND", 28, 25, .ro, 0x0⟩, ⟨"CORE", 24, 22, .ro, 0x0⟩, ⟨"CONTEXT", 21, 16, .ro, 0x0⟩], .none⟩,
   ⟨"HNG_RESETS", 0x44, [], [⟨"GUILTY", 31, 16, .ro, 0x0⟩, ⟨"ALL", 15, 0, .ro, 0x0⟩], .none⟩,
   ⟨"HNG_RESET", 0x50, [], [⟨"KEY", 31, 16, .wo, 0x0⟩, ⟨"WARM", 0, 0, .wo, 0x0⟩], .none⟩,
   ⟨"HNG_PHOTO_CTL", 0x60, [], [⟨"TAKE", 31, 31, .w1s, 0x0⟩], .none⟩,
   ⟨"HNG_PHOTO_CFG", 0x64, [], [⟨"UNIT_US", 15, 0, .rws, 0x64⟩], .fixed 0⟩,
   ⟨"HNG_PHOTO_STATUS", 0x68, [], [⟨"MISSED", 31, 24, .rc, 0x0⟩, ⟨"NO_ANSWER", 23, 16, .ro, 0x0⟩, ⟨"PARTIAL", 15, 8, .ro, 0x0⟩, ⟨"UNITS", 7, 0, .ro, 0x0⟩], .none⟩,
   ⟨"HNG_PHOTO_INDEX", 0x6c, [], [⟨"INDEX", 18, 0, .rw, 0x0⟩], .none⟩,
   ⟨"HNG_PHOTO_DATA", 0x70, [], [⟨"DATA", 31, 0, .ro, 0x0⟩], .none⟩]

/-- Registers of the SCH page (R415). -/
def rows_sch_0 : List RegRow :=
  [⟨"SCH_PCFG", 0x0, [(8, 0x10)], [⟨"VALID", 31, 31, .rws, 0x0⟩, ⟨"CORES", 23, 16, .rws, 0x0⟩, ⟨"CTX_BASE", 13, 8, .rws, 0x0⟩, ⟨"CTX_COUNT", 4, 0, .rws, 0x0⟩], .fixed 2⟩,
   ⟨"SCH_HEAT", 0x4, [(8, 0x10)], [⟨"YIELD_WAIT_US", 31, 20, .rws, 0x0⟩, ⟨"HEAT_US", 19, 0, .rws, 0x2710⟩], .fixed 2⟩,
   ⟨"SCH_STOPLIM", 0x8, [(8, 0x10)], [⟨"STOP_LIMIT_US", 19, 0, .rws, 0x3e8⟩], .fixed 2⟩,
   ⟨"SCH_PSTATUS", 0xc, [(8, 0x10)], [⟨"SWITCHING", 7, 7, .ro, 0x0⟩, ⟨"RUN_V", 6, 6, .ro, 0x0⟩, ⟨"RUNNING", 5, 0, .ro, 0x0⟩], .none⟩,
   ⟨"SCH_CTX_STATE", 0x100, [(64, 0x40)], [⟨"STATE", 31, 28, .ro, 0x0⟩, ⟨"PART", 27, 25, .ro, 0x0⟩, ⟨"SAVE_STORE", 24, 24, .ro, 0x0⟩], .none⟩,
   ⟨"SCH_CTX_CREDIT", 0x104, [(64, 0x40)], [⟨"CREDIT", 31, 0, .ro, 0x0⟩], .none⟩,
   ⟨"SCH_CTX_OVERRUN", 0x108, [(64, 0x40)], [⟨"NS", 31, 0, .ro, 0x0⟩], .none⟩,
   ⟨"SCH_CTX_SWITCHES", 0x10c, [(64, 0x40)], [⟨"COUNT", 31, 0, .ro, 0x0⟩], .none⟩,
   ⟨"SCH_CTX_RUN_LO", 0x110, [(64, 0x40)], [⟨"LO", 31, 0, .ro, 0x0⟩], .none⟩,
   ⟨"SCH_CTX_RUN_HI", 0x114, [(64, 0x40)], [⟨"HI", 31, 0, .ro, 0x0⟩], .none⟩,
   ⟨"SCH_CTX_ENERGY_LO", 0x118, [(64, 0x40)], [⟨"LO", 31, 0, .ro, 0x0⟩], .none⟩,
   ⟨"SCH_CTX_ENERGY_HI", 0x11c, [(64, 0x40)], [⟨"HI", 31, 0, .ro, 0x0⟩], .none⟩]

/-- Registers of the SCH page (R415). -/
def rows_sch_1 : List RegRow :=
  [⟨"SCH_CTX_SAVE_LO", 0x120, [(64, 0x40)], [⟨"VA", 31, 21, .ro, 0x0⟩], .none⟩,
   ⟨"SCH_CTX_SAVE_HI", 0x124, [(64, 0x40)], [⟨"VA", 24, 0, .ro, 0x0⟩], .none⟩,
   ⟨"SCH_CTX_STRIDE", 0x128, [(64, 0x40)], [⟨"STRIDE", 15, 0, .ro, 0x0⟩], .none⟩,
   ⟨"SCH_ENERGY_OVH_LO", 0x2000, [], [⟨"LO", 31, 0, .ro, 0x0⟩], .none⟩,
   ⟨"SCH_ENERGY_OVH_HI", 0x2004, [], [⟨"HI", 31, 0, .ro, 0x0⟩], .none⟩,
   ⟨"SCH_ENERGY_ALL_LO", 0x2008, [], [⟨"LO", 31, 0, .ro, 0x0⟩], .none⟩,
   ⟨"SCH_ENERGY_ALL_HI", 0x200c, [], [⟨"HI", 31, 0, .ro, 0x0⟩], .none⟩]

/-- Registers of the SCH page (R415). -/
def rows_sch : List RegRow :=
  rows_sch_0 ++ rows_sch_1

/-- Registers of the SEQ page (R167). -/
def rows_seq : List RegRow :=
  [⟨"SEQ_STATUS", 0x0, [], [⟨"STATE", 31, 28, .ro, 0x0⟩, ⟨"CONTEXT", 27, 22, .ro, 0x0⟩, ⟨"WINDOW", 21, 20, .ro, 0x0⟩, ⟨"WAIT_HURDLE", 11, 0, .ro, 0x0⟩], .none⟩,
   ⟨"SEQ_PC", 0x4, [], [⟨"PC", 29, 0, .ro, 0x0⟩], .none⟩,
   ⟨"SEQ_WAIT_TARGET", 0x8, [], [⟨"TARGET", 31, 0, .ro, 0x0⟩], .none⟩,
   ⟨"SEQ_FAULT", 0xc, [], [⟨"PC", 29, 0, .ro, 0x0⟩], .none⟩,
   ⟨"SEQ_FAULT_CODE", 0x10, [], [⟨"CODE", 15, 0, .w1c, 0x0⟩], .none⟩,
   ⟨"SEQ_ISSUED", 0x14, [], [⟨"COUNT", 31, 0, .rc, 0x0⟩], .none⟩,
   ⟨"SEQ_GRANT_WAIT", 0x18, [], [⟨"CYCLES", 31, 0, .rc, 0x0⟩], .none⟩]

/-- Registers of the SEQF page (R167). -/
def rows_seqF : List RegRow :=
  [⟨"SEQ_ARB", 0x100, [], [⟨"ROW_LIMIT", 31, 16, .rws, 0x2000⟩, ⟨"ARR_LIMIT", 15, 0, .rws, 0x1000⟩], .core⟩,
   ⟨"SEQ_QUOTA", 0x104, [], [⟨"GTH_U", 27, 24, .rws, 0x2⟩, ⟨"GTH_B", 23, 20, .rws, 0x3⟩, ⟨"GTH_F", 19, 16, .rws, 0x3⟩, ⟨"SLOT_U", 14, 10, .rws, 0x8⟩, ⟨"SLOT_B", 9, 5, .rws, 0xc⟩, ⟨"SLOT_F", 4, 0, .rws, 0xc⟩], .core⟩]

/-- Registers of the SEQ-U page beside those of SEQ (R294). -/
def rows_seqU : List RegRow :=
  [⟨"GEN_STALL", 0x200, [], [⟨"CYCLES", 31, 0, .rc, 0x0⟩], .none⟩,
   ⟨"GEN_KEY", 0x1000, [(256, 0x10)], [⟨"VALID", 31, 31, .ro, 0x0⟩, ⟨"CONTEXT", 21, 16, .ro, 0x0⟩, ⟨"LAYER", 15, 0, .ro, 0x0⟩], .none⟩,
   ⟨"GEN_STATE", 0x1004, [(256, 0x10)], [⟨"CUR", 31, 16, .ro, 0x0⟩, ⟨"PROV", 15, 15, .ro, 0x0⟩], .none⟩,
   ⟨"GEN_REF", 0x1008, [(256, 0x10)], [⟨"REF1", 31, 16, .ro, 0x0⟩, ⟨"REF0", 15, 0, .ro, 0x0⟩], .none⟩]

/-- Registers of the ARR page (R94, R112). -/
def rows_arr : List RegRow :=
  [⟨"ARR_STATUS", 0x0, [], [⟨"TAG1", 23, 22, .ro, 0x0⟩, ⟨"TAG0", 21, 20, .ro, 0x0⟩, ⟨"OWNER1", 19, 18, .ro, 0x0⟩, ⟨"OWNER0", 17, 16, .ro, 0x0⟩, ⟨"STATE1", 11, 9, .ro, 0x0⟩, ⟨"STATE0", 8, 6, .ro, 0x0⟩, ⟨"EDGES_BUSY", 2, 2, .ro, 0x0⟩, ⟨"SHAPE", 1, 0, .ro, 0x0⟩], .none⟩,
   ⟨"ARR_CFG", 0x4, [], [⟨"TRUNC_EVENT", 1, 1, .rws, 0x0⟩, ⟨"POISON_EVENT", 0, 0, .rws, 0x1⟩], .core⟩,
   ⟨"ARR_PRODUCTS_LO", 0x8, [], [⟨"COUNT_LO", 31, 0, .ro, 0x0⟩], .none⟩,
   ⟨"ARR_PRODUCTS_HI", 0xc, [], [⟨"COUNT_HI", 31, 0, .ro, 0x0⟩], .none⟩,
   ⟨"ARR_BANK_STALL", 0x10, [], [⟨"EVENTS", 31, 0, .rc, 0x0⟩], .none⟩,
   ⟨"ARR_BANK_STALL_CYC", 0x14, [], [⟨"CYCLES", 31, 0, .rc, 0x0⟩], .none⟩,
   ⟨"ARR_WINDOW_TRUNC", 0x18, [], [⟨"PRODUCTS", 31, 0, .rc, 0x0⟩], .none⟩,
   ⟨"ARR_SAT", 0x100, [(5, 0x10)], [⟨"SAT", 31, 0, .rc, 0x0⟩], .none⟩,
   ⟨"ARR_NONFIN", 0x104, [(5, 0x10)], [⟨"NONFIN", 31, 0, .rc, 0x0⟩], .none⟩,
   ⟨"ARR_UNDER", 0x108, [(5, 0x10)], [⟨"UNDER", 31, 0, .rc, 0x0⟩], .none⟩,
   ⟨"ARR_SENTINEL", 0x180, [], [⟨"SPEC1", 20, 16, .ro, 0x0⟩, ⟨"SPEC0", 12, 8, .ro, 0x0⟩, ⟨"CLASS", 4, 0, .w1c, 0x0⟩], .none⟩]

/-- Registers of the STR page (R252). -/
def rows_str_0 : List RegRow :=
  [⟨"STR_CFG", 0x0, [], [⟨"WATCH_US", 16, 1, .rws, 0x64⟩, ⟨"CHECK", 0, 0, .rws, 0x0⟩], .core⟩,
   ⟨"STR_QUOTA", 0x4, [], [⟨"HOST_TAGS", 28, 16, .rws, 0x200⟩, ⟨"BG_TAGS", 12, 0, .rws, 0x40⟩], .core⟩,
   ⟨"STR_QUOTA2", 0x8, [], [⟨"REMOTE_TAGS", 12, 0, .rws, 0x400⟩], .core⟩,
   ⟨"STR_RESUME", 0xc, [], [⟨"SLOTS", 31, 0, .wo, 0x0⟩], .none⟩,
   ⟨"STR_ABORT", 0x10, [], [⟨"SLOTS", 31, 0, .wo, 0x0⟩], .none⟩,
   ⟨"STR_HALTED", 0x14, [], [⟨"SLOTS", 31, 0, .ro, 0x0⟩], .none⟩,
   ⟨"STR_TAGS", 0x18, [], [⟨"IN_USE", 12, 0, .ro, 0x0⟩], .none⟩,
   ⟨"STR_QUOTA_WAIT", 0x1c, [], [⟨"CYCLES", 31, 0, .rc, 0x0⟩], .none⟩,
   ⟨"STR_STALE", 0x20, [], [⟨"COUNT", 31, 0, .rc, 0x0⟩], .none⟩,
   ⟨"STR_WATCH_EVICT", 0x24, [], [⟨"COUNT", 31, 0, .rc, 0x0⟩], .none⟩,
   ⟨"STR_SLOT", 0x100, [(32, 0x4)], [⟨"TAGS", 31, 16, .ro, 0x0⟩, ⟨"CONTEXT", 15, 10, .ro, 0x0⟩, ⟨"PENDING", 5, 5, .ro, 0x0⟩, ⟨"HOLDER", 4, 3, .ro, 0x0⟩, ⟨"STATE", 2, 0, .ro, 0x0⟩], .none⟩,
   ⟨"STR_FAULT_VA_LO", 0x200, [(32, 0x8)], [⟨"VA_LO", 31, 0, .ro, 0x0⟩], .none⟩]

/-- Registers of the STR page (R252). -/
def rows_str_1 : List RegRow :=
  [⟨"STR_FAULT_VA_HI", 0x204, [(32, 0x8)], [⟨"VA_HI", 24, 0, .ro, 0x0⟩], .none⟩]

/-- Registers of the STR page (R252). -/
def rows_str : List RegRow :=
  rows_str_0 ++ rows_str_1

/-- Registers of the GTH page (R252). -/
def rows_gth : List RegRow :=
  [⟨"GTH_QUOTA", 0x4, [], [⟨"HOST_TAGS", 28, 16, .rws, 0x100⟩, ⟨"BG_TAGS", 12, 0, .rws, 0x40⟩], .core⟩,
   ⟨"GTH_QUOTA2", 0x8, [], [⟨"REMOTE_TAGS", 12, 0, .rws, 0x200⟩], .core⟩,
   ⟨"GTH_RESUME", 0xc, [], [⟨"SLOTS", 7, 0, .wo, 0x0⟩], .none⟩,
   ⟨"GTH_ABORT", 0x10, [], [⟨"SLOTS", 7, 0, .wo, 0x0⟩], .none⟩,
   ⟨"GTH_HALTED", 0x14, [], [⟨"SLOTS", 7, 0, .ro, 0x0⟩], .none⟩,
   ⟨"GTH_TAGS", 0x18, [], [⟨"IN_USE", 11, 0, .ro, 0x0⟩], .none⟩,
   ⟨"GTH_QUOTA_WAIT", 0x1c, [], [⟨"CYCLES", 31, 0, .rc, 0x0⟩], .none⟩,
   ⟨"GTH_STREAM", 0x100, [(8, 0x4)], [⟨"TAGS", 31, 16, .ro, 0x0⟩, ⟨"CONTEXT", 15, 10, .ro, 0x0⟩, ⟨"PENDING", 5, 5, .ro, 0x0⟩, ⟨"HOLDER", 4, 3, .ro, 0x0⟩, ⟨"STATE", 2, 0, .ro, 0x0⟩], .none⟩,
   ⟨"GTH_FAULT_VA_LO", 0x200, [(8, 0x8)], [⟨"VA_LO", 31, 0, .ro, 0x0⟩], .none⟩,
   ⟨"GTH_FAULT_VA_HI", 0x204, [(8, 0x8)], [⟨"VA_HI", 24, 0, .ro, 0x0⟩], .none⟩]

/-- Registers of the STORE page (R142, R289). -/
def rows_store_0 : List RegRow :=
  [⟨"STORE_BASE", 0x0, [(16, 0x10)], [⟨"BASE", 13, 0, .rws, 0x0⟩], .core⟩,
   ⟨"STORE_SIZE", 0x4, [(16, 0x10)], [⟨"SIZE", 14, 0, .rws, 0x0⟩], .core⟩,
   ⟨"STORE_ATTR", 0x8, [(16, 0x10)], [⟨"KIND", 31, 28, .rws, 0x0⟩, ⟨"CONTEXT", 27, 22, .rws, 0x0⟩, ⟨"WINDOW", 21, 21, .rws, 0x0⟩, ⟨"PAIR", 19, 16, .rws, 0x0⟩, ⟨"PERM_U", 8, 6, .rws, 0x0⟩, ⟨"PERM_B", 5, 3, .rws, 0x0⟩, ⟨"PERM_F", 2, 0, .rws, 0x0⟩], .core⟩,
   ⟨"STORE_STASH", 0x100, [], [⟨"EXHAUST_MS", 31, 16, .rws, 0xa⟩, ⟨"QUOTA", 14, 0, .rws, 0x0⟩], .core⟩,
   ⟨"STORE_SWAPS", 0x104, [], [⟨"COUNT", 31, 0, .ro, 0x0⟩], .none⟩,
   ⟨"STORE_HSTASH_LO", 0x108, [], [⟨"VA", 31, 21, .rws, 0x0⟩], .core⟩,
   ⟨"STORE_HSTASH_HI", 0x10c, [], [⟨"VA", 24, 0, .rws, 0x0⟩], .core⟩,
   ⟨"STORE_HSTASH_SIZE", 0x110, [], [⟨"SIZE", 15, 0, .rws, 0x0⟩], .core⟩,
   ⟨"STORE_STASH_USED", 0x114, [], [⟨"PAGES", 18, 0, .ro, 0x0⟩], .none⟩,
   ⟨"STORE_HSTASH_USED", 0x118, [], [⟨"PAGES", 24, 0, .ro, 0x0⟩], .none⟩,
   ⟨"STORE_STASH_SPILLS", 0x11c, [], [⟨"COUNT", 31, 0, .rc, 0x0⟩], .none⟩,
   ⟨"STORE_STASH_DROPS", 0x120, [], [⟨"COUNT", 31, 0, .rc, 0x0⟩], .none⟩]

/-- Registers of the STORE page (R142, R289). -/
def rows_store_1 : List RegRow :=
  [⟨"STORE_STASH_WAIT", 0x124, [], [⟨"CYCLES", 31, 0, .rc, 0x0⟩], .none⟩,
   ⟨"STORE_STASH_KEYS", 0x128, [], [⟨"KEYS", 13, 0, .ro, 0x0⟩], .none⟩]

/-- Registers of the STORE page (R142, R289). -/
def rows_store : List RegRow :=
  rows_store_0 ++ rows_store_1

/-- Registers of the MEM0 page (R276). -/
def rows_mem0 : List RegRow :=
  [⟨"MEM_STATUS", 0x0, [], [⟨"SPEED", 31, 30, .ro, 0x0⟩, ⟨"UNUSABLE", 29, 29, .ro, 0x0⟩, ⟨"TRAINED", 28, 28, .ro, 0x0⟩], .none⟩,
   ⟨"MEM_CHAN_OUT", 0x4, [], [⟨"CHANNELS", 31, 0, .ro, 0x0⟩], .none⟩,
   ⟨"MEM_CE", 0x8, [], [⟨"COUNT", 31, 0, .rc, 0x0⟩], .none⟩,
   ⟨"MEM_UE", 0xc, [], [⟨"COUNT", 31, 0, .rc, 0x0⟩], .none⟩,
   ⟨"MEM_BLOCKED", 0x10, [], [⟨"COUNT", 31, 0, .rc, 0x0⟩], .none⟩]

/-- Registers of the MEM1 page (R276). -/
def rows_mem1 : List RegRow :=
  [⟨"MEM_REPAIR", 0x0, [], [⟨"SPARES_LEFT", 31, 16, .ro, 0x0⟩, ⟨"REPAIRED", 15, 0, .ro, 0x0⟩], .none⟩]

/-- Registers of the MEM2 page (R276). -/
def rows_mem2_0 : List RegRow :=
  [⟨"MEM_LIMIT_LO", 0x0, [], [⟨"LO", 31, 0, .ro, 0x0⟩], .none⟩,
   ⟨"MEM_LIMIT_HI", 0x4, [], [⟨"HI", 15, 0, .ro, 0x0⟩], .none⟩,
   ⟨"MEM_CFG", 0x8, [], [⟨"SCRUB_H", 31, 24, .rws, 0x18⟩, ⟨"ROW_CE_LIMIT", 23, 20, .rws, 0x4⟩, ⟨"WCB_IDLE_US", 9, 0, .rws, 0x1⟩], .fixed 11⟩,
   ⟨"MEM_INVAL_LO", 0x10, [], [⟨"VA", 31, 16, .rw, 0x0⟩], .none⟩,
   ⟨"MEM_INVAL_HI", 0x14, [], [⟨"PART", 31, 29, .wo, 0x0⟩, ⟨"SIZE", 28, 27, .wo, 0x0⟩, ⟨"VA", 24, 0, .wo, 0x0⟩], .none⟩,
   ⟨"MEM_INVAL_STATUS", 0x18, [], [⟨"BUSY", 0, 0, .ro, 0x0⟩], .none⟩,
   ⟨"MEM_FLUSH", 0x1c, [], [⟨"BUSY", 0, 0, .w1s, 0x0⟩], .none⟩,
   ⟨"MEM_INBOUND_CNT", 0x20, [], [⟨"COUNT", 31, 0, .rc, 0x0⟩], .none⟩,
   ⟨"MEM_PT_ROOT_LO", 0x100, [(8, 0x8)], [⟨"ROOT", 31, 12, .rws, 0x0⟩], .fixed 11⟩,
   ⟨"MEM_PT_ROOT_HI", 0x104, [(8, 0x8)], [⟨"ROOT", 15, 0, .rws, 0x0⟩], .fixed 11⟩,
   ⟨"MEM_WIN_BASE_LO", 0x200, [(64, 0x20)], [⟨"BASE", 31, 16, .rws, 0x0⟩], .fixed 11⟩,
   ⟨"MEM_WIN_BASE_HI", 0x204, [(64, 0x20)], [⟨"BASE", 24, 0, .rws, 0x0⟩], .fixed 11⟩]

/-- Registers of the MEM2 page (R276). -/
def rows_mem2_1 : List RegRow :=
  [⟨"MEM_WIN_SIZE", 0x208, [(64, 0x20)], [⟨"SIZE", 31, 0, .rws, 0x0⟩], .fixed 11⟩,
   ⟨"MEM_WIN_ATTR", 0x20c, [(64, 0x20)], [⟨"KIND", 31, 29, .rws, 0x0⟩, ⟨"MODE", 28, 28, .rws, 0x0⟩, ⟨"PART", 27, 25, .rws, 0x0⟩, ⟨"SPECWIN", 24, 24, .rws, 0x0⟩, ⟨"PAIR", 23, 18, .rws, 0x0⟩, ⟨"WR", 17, 17, .rws, 0x0⟩, ⟨"RD", 16, 16, .rws, 0x0⟩, ⟨"PKG", 15, 0, .rws, 0x0⟩], .fixed 11⟩,
   ⟨"MEM_WIN_TARGET_LO", 0x210, [(64, 0x20)], [⟨"TARGET", 31, 16, .rws, 0x0⟩], .fixed 11⟩,
   ⟨"MEM_WIN_TARGET_HI", 0x214, [(64, 0x20)], [⟨"TARGET", 31, 0, .rws, 0x0⟩], .fixed 11⟩,
   ⟨"MEM_WIN_SRC", 0x218, [(64, 0x20)], [⟨"SRC_MASK", 31, 16, .rws, 0x0⟩, ⟨"SRC_BASE", 15, 0, .rws, 0x0⟩], .fixed 11⟩,
   ⟨"MEM_RET_INDEX", 0x1000, [], [⟨"INDEX", 11, 0, .rw, 0x0⟩], .none⟩,
   ⟨"MEM_RET_PA", 0x1004, [], [⟨"FRAME", 31, 0, .ro, 0x0⟩], .none⟩,
   ⟨"MEM_RET_COUNT", 0x1008, [], [⟨"COUNT", 31, 0, .ro, 0x0⟩], .none⟩]

/-- Registers of the MEM2 page (R276). -/
def rows_mem2 : List RegRow :=
  rows_mem2_0 ++ rows_mem2_1

/-- Registers of the LNK0 page (R342). -/
def rows_lnk0 : List RegRow :=
  [⟨"LNK_STATUS", 0x0, [], [⟨"STATE", 31, 28, .ro, 0x0⟩, ⟨"TX_WIDTH", 27, 24, .ro, 0x0⟩, ⟨"RX_WIDTH", 23, 20, .ro, 0x0⟩, ⟨"LOST_CAUSE", 19, 16, .ro, 0x0⟩, ⟨"SPARE_TX", 15, 8, .ro, 0x0⟩, ⟨"SPARE_RX", 7, 0, .ro, 0x0⟩], .none⟩,
   ⟨"LNK_PEER", 0x4, [], [⟨"PEER_PKG", 31, 16, .ro, 0x0⟩, ⟨"PEER_DIM", 15, 12, .ro, 0x0⟩], .none⟩,
   ⟨"LNK_CTL", 0x8, [], [⟨"RETRAIN", 31, 31, .w1s, 0x0⟩, ⟨"OPEN", 30, 30, .w1s, 0x0⟩, ⟨"DISABLE", 29, 29, .rw, 0x0⟩, ⟨"AUTO", 28, 28, .rw, 0x1⟩], .none⟩,
   ⟨"LNK_RTT", 0xc, [], [⟨"NS", 31, 0, .ro, 0x0⟩], .none⟩,
   ⟨"LNK_FEC_CORR", 0x10, [], [⟨"SYMBOLS", 31, 0, .rc, 0x0⟩], .none⟩,
   ⟨"LNK_FEC_UNCORR", 0x14, [], [⟨"CODEWORDS", 31, 0, .rc, 0x0⟩], .none⟩,
   ⟨"LNK_REPLAYS", 0x18, [], [⟨"FLITS", 31, 0, .rc, 0x0⟩], .none⟩,
   ⟨"LNK_PEER_LOST", 0x1c, [], [⟨"COUNT", 31, 0, .rc, 0x0⟩], .none⟩,
   ⟨"LNK_BAD_MSG", 0x20, [], [⟨"COUNT", 31, 0, .rc, 0x0⟩], .none⟩,
   ⟨"LNK_LASER", 0x40, [(8, 0x4)], [⟨"DBM", 15, 0, .ro, 0x8000⟩], .none⟩]

/-- Registers of the LNK1 page (R342). -/
def rows_lnk1 : List RegRow :=
  [⟨"LNK_PKGID", 0x0, [], [⟨"PKG_ID", 15, 0, .rws, 0x0⟩], .fixed 12⟩,
   ⟨"LNK_SYSTEM", 0x4, [], [⟨"SYSTEM_ID", 31, 0, .rws, 0x0⟩], .fixed 12⟩,
   ⟨"LNK_CFG", 0x8, [], [⟨"TRAIN_MS", 31, 20, .rws, 0xc8⟩, ⟨"W_SPLIT", 11, 8, .rws, 0x1⟩, ⟨"W_DISP", 7, 4, .rws, 0x4⟩, ⟨"W_COLL", 3, 0, .rws, 0x4⟩], .fixed 12⟩,
   ⟨"LNK_PORTMAP", 0x100, [(16, 0x4)], [⟨"MAPPED", 4, 4, .rws, 0x1⟩, ⟨"DIM", 3, 0, .rws, 0x0⟩], .fixed 12⟩,
   ⟨"LNK_CTX_PORTS", 0x200, [(64, 0x4)], [⟨"PORTS", 15, 0, .rw, 0x0⟩], .none⟩]

/-- Registers of the HRD page (R151). -/
def rows_hrd : List RegRow :=
  [⟨"HRD_CTL", 0x0, [(512, 0x20)], [⟨"STATE", 31, 30, .rw, 0x0⟩, ⟨"AUTO", 29, 29, .rw, 0x0⟩, ⟨"WINDOW", 28, 27, .rw, 0x0⟩, ⟨"OWNER", 26, 21, .rw, 0x0⟩, ⟨"EXPECT", 15, 0, .rw, 0x0⟩], .none⟩,
   ⟨"HRD_PORTS", 0x4, [(512, 0x20)], [⟨"HOST_OK", 16, 16, .rw, 0x0⟩, ⟨"PORTS", 15, 0, .rw, 0x0⟩], .none⟩,
   ⟨"HRD_COUNT", 0x8, [(512, 0x20)], [⟨"COUNT", 15, 0, .ro, 0x0⟩], .none⟩,
   ⟨"HRD_RELEASES", 0xc, [(512, 0x20)], [⟨"RELEASES", 31, 0, .ro, 0x0⟩], .none⟩,
   ⟨"HRD_PACE", 0x10, [(512, 0x20)], [⟨"ROUND_MIN", 25, 16, .ro, 0x0⟩, ⟨"LAST_MIN", 9, 0, .ro, 0x0⟩], .none⟩,
   ⟨"HRD_LAGSRC", 0x14, [(512, 0x20)], [⟨"LAST_PKG", 31, 16, .ro, 0x0⟩, ⟨"LAST_CORE", 15, 13, .ro, 0x0⟩], .none⟩,
   ⟨"HRD_SPEC_BASE", 0x18, [(512, 0x20)], [⟨"BASE", 31, 0, .ro, 0x0⟩], .none⟩,
   ⟨"HRD_STRAY", 0x4000, [], [⟨"COUNT", 31, 0, .rc, 0x0⟩], .none⟩]

/-- Registers of the REL page (R372). -/
def rows_rel_0 : List RegRow :=
  [⟨"REL_CFG", 0x0, [], [⟨"READY_MS", 31, 22, .rws, 0x64⟩, ⟨"PACK_KIB", 21, 16, .rws, 0x20⟩, ⟨"PACK_NS", 15, 0, .rws, 0x1f4⟩], .fixed 13⟩,
   ⟨"REL_PACE_CFG", 0x4, [], [⟨"MARGIN", 31, 24, .rws, 0x8⟩, ⟨"HEADROOM", 23, 16, .rws, 0x4⟩, ⟨"PROBE_MS", 15, 8, .rws, 0x1⟩, ⟨"LAG_MS", 7, 0, .rws, 0x64⟩], .fixed 13⟩,
   ⟨"REL_ACTIVE", 0x8, [], [⟨"COMMANDS", 4, 0, .ro, 0x0⟩], .none⟩,
   ⟨"REL_CAP_DROP", 0xc, [], [⟨"COUNT", 31, 0, .rc, 0x0⟩], .none⟩,
   ⟨"REL_READY_RETRY", 0x10, [], [⟨"COUNT", 31, 0, .rc, 0x0⟩], .none⟩,
   ⟨"REL_REFUSED", 0x14, [], [⟨"COUNT", 31, 0, .rc, 0x0⟩], .none⟩,
   ⟨"REL_CTX", 0x100, [(64, 0x40)], [⟨"VALID", 31, 31, .rw, 0x0⟩, ⟨"JOB", 15, 0, .rw, 0x0⟩], .none⟩,
   ⟨"REL_WORK_LO", 0x104, [(64, 0x40)], [⟨"VA", 31, 21, .rw, 0x0⟩], .none⟩,
   ⟨"REL_WORK_HI", 0x108, [(64, 0x40)], [⟨"VA", 24, 0, .rw, 0x0⟩], .none⟩,
   ⟨"REL_WORK_SIZE", 0x10c, [(64, 0x40)], [⟨"SIZE", 15, 0, .rw, 0x0⟩], .none⟩,
   ⟨"REL_Q_BASE", 0x110, [(64, 0x40), (3, 0x8)], [⟨"LOG2", 31, 28, .rw, 0x0⟩, ⟨"KICK_HID", 27, 16, .rw, 0x0⟩, ⟨"BASE", 15, 0, .rw, 0x0⟩], .none⟩,
   ⟨"REL_Q_HEAD", 0x114, [(64, 0x40), (3, 0x8)], [⟨"HEAD", 31, 0, .ro, 0x0⟩], .none⟩]

/-- Registers of the REL page (R372). -/
def rows_rel_1 : List RegRow :=
  [⟨"REL_NORM_LO", 0x130, [(64, 0x40)], [⟨"LO", 31, 0, .ro, 0x0⟩], .none⟩,
   ⟨"REL_NORM_HI", 0x134, [(64, 0x40)], [⟨"HI", 31, 0, .ro, 0x0⟩], .none⟩,
   ⟨"REL_FOLLOW", 0x138, [(64, 0x40)], [⟨"FOLLOWING", 31, 31, .ro, 0x0⟩, ⟨"PACE", 25, 16, .ro, 0x0⟩, ⟨"PKG", 15, 0, .ro, 0x0⟩], .none⟩]

/-- Registers of the REL page (R372). -/
def rows_rel : List RegRow :=
  rows_rel_0 ++ rows_rel_1

/-- Registers of the SPL page (R434). -/
def rows_spl_0 : List RegRow :=
  [⟨"SPL_CFG", 0x0, [], [⟨"BUDDY_DIM", 31, 28, .rws, 0x0⟩, ⟨"FLASH_EVERY", 23, 16, .rws, 0x1⟩, ⟨"BUDDY_GIB", 15, 0, .rws, 0x60⟩], .fixed 15⟩,
   ⟨"SPL_BUDDY_BASE", 0x4, [], [⟨"BASE_GIB", 15, 0, .rws, 0x0⟩], .fixed 15⟩,
   ⟨"SPL_TAU", 0x8, [], [⟨"TAU_MAX_S", 31, 16, .rws, 0x5460⟩, ⟨"TAU_MIN_S", 15, 0, .rws, 0x78⟩], .fixed 15⟩,
   ⟨"SPL_AREA", 0x10, [(8, 0x4)], [⟨"GIB", 15, 0, .rws, 0xc⟩], .fixed 15⟩,
   ⟨"SPL_FLEET", 0x40, [(8, 0x4)], [⟨"MTBF_HOST_H", 31, 16, .rws, 0x0⟩, ⟨"PRIOR_H", 15, 0, .rws, 0x18⟩], .fixed 15⟩,
   ⟨"SPL_AREA_STEP0", 0x80, [(8, 0x10)], [⟨"STEP", 31, 0, .ro, 0x0⟩], .none⟩,
   ⟨"SPL_AREA_STEP1", 0x84, [(8, 0x10)], [⟨"STEP", 31, 0, .ro, 0x0⟩], .none⟩,
   ⟨"SPL_AREA_FLAGS", 0x88, [(8, 0x10)], [⟨"DRAINING", 5, 5, .ro, 0x0⟩, ⟨"NEWEST", 4, 4, .ro, 0x0⟩, ⟨"FSEALED", 3, 2, .ro, 0x0⟩, ⟨"SEALED", 1, 0, .ro, 0x0⟩], .none⟩,
   ⟨"SPL_AREA_FSTEP", 0x8c, [(8, 0x10)], [⟨"STEP", 31, 0, .ro, 0x0⟩], .none⟩,
   ⟨"SPL_CTX_STATE", 0x200, [(64, 0x20)], [⟨"STATE", 31, 29, .ro, 0x0⟩, ⟨"DUE", 28, 28, .ro, 0x0⟩, ⟨"LAST_CAUSE", 27, 20, .ro, 0x0⟩], .none⟩,
   ⟨"SPL_CTX_STEP", 0x204, [(64, 0x20)], [⟨"STEP", 31, 0, .ro, 0x0⟩], .none⟩,
   ⟨"SPL_CTX_TAU", 0x208, [(64, 0x20)], [⟨"S", 31, 0, .ro, 0x0⟩], .none⟩]

/-- Registers of the SPL page (R434). -/
def rows_spl_1 : List RegRow :=
  [⟨"SPL_CTX_COST", 0x20c, [(64, 0x20)], [⟨"US", 31, 0, .ro, 0x0⟩], .none⟩,
   ⟨"SPL_CTX_MTBF", 0x210, [(64, 0x20)], [⟨"S", 31, 0, .ro, 0x0⟩], .none⟩,
   ⟨"SPL_CTX_FAIL", 0x214, [(64, 0x20)], [⟨"N_F", 31, 0, .ro, 0x0⟩], .none⟩]

/-- Registers of the SPL page (R434). -/
def rows_spl : List RegRow :=
  rows_spl_0 ++ rows_spl_1

end Sys2Proof.Machine
end

