-- ==== Sys2Proof/Machine/RegNames.lean ====
section
/-! DEFINITION. The BAR0 offset of every register by its name (R41 to R43), with its block instance and indices as
arguments: c a core, m a stack or port, n a fabric die, q a sequencer. -/

namespace Sys2Proof.Machine.Reg
open Sys2Proof

/-- GLB_ID (R41, R55). -/
def GLB_ID : Nat := 0x0
/-- GLB_SERIAL0 (R41, R55). -/
def GLB_SERIAL0 : Nat := 0x4
/-- GLB_SERIAL1 (R41, R55). -/
def GLB_SERIAL1 : Nat := 0x8
/-- GLB_SERIAL2 (R41, R55). -/
def GLB_SERIAL2 : Nat := 0xc
/-- GLB_FW (R41, R55). -/
def GLB_FW : Nat := 0x10
/-- GLB_FLOOR (R41, R55). -/
def GLB_FLOOR : Nat := 0x14
/-- GLB_PKG (R41, R55). -/
def GLB_PKG : Nat := 0x18
/-- GLB_STATUS (R41, R55). -/
def GLB_STATUS : Nat := 0x1c
/-- GLB_SR_HDR (R41, R55). -/
def GLB_SR_HDR : Nat := 0x100
/-- GLB_SR_UNITS0 (R41, R55). -/
def GLB_SR_UNITS0 : Nat := 0x104
/-- GLB_SR_UNITS1 (R41, R55). -/
def GLB_SR_UNITS1 : Nat := 0x108
/-- GLB_SR_HBM (R41, R55). -/
def GLB_SR_HBM : Nat := 0x10c
/-- GLB_SR_REPAIRS (R41, R55). -/
def GLB_SR_REPAIRS : Nat := 0x110
/-- GLB_SR_FLAGS (R41, R55). -/
def GLB_SR_FLAGS : Nat := 0x114
/-- GLB_SR_PTB_LO (R41, R55). -/
def GLB_SR_PTB_LO : Nat := 0x118
/-- GLB_SR_PTB_HI (R41, R55). -/
def GLB_SR_PTB_HI : Nat := 0x11c
/-- PTB_NOW_LO (R37). -/
def PTB_NOW_LO : Nat := 0x10000
/-- PTB_NOW_HI (R37). -/
def PTB_NOW_HI : Nat := 0x10004
/-- PTB_STATUS (R37). -/
def PTB_STATUS : Nat := 0x10008
/-- CLK_RUN0 (R37). -/
def CLK_RUN0 : Nat := 0x1000c
/-- CLK_RUN1 (R37). -/
def CLK_RUN1 : Nat := 0x10010
/-- CSET_COMMIT (R53). -/
def CSET_COMMIT : Nat := 0x20000
/-- CSET_DISCARD (R53). -/
def CSET_DISCARD : Nat := 0x20004
/-- CSET_PENDING (R53). -/
def CSET_PENDING : Nat := 0x20008
/-- CSET_DIRTY (R53). -/
def CSET_DIRTY : Nat := 0x2000c
/-- CSET_ERR (R53). -/
def CSET_ERR : Nat := 0x20010
/-- CSET_COUNT (R53). -/
def CSET_COUNT : Nat := 0x20014
/-- HIF_STATUS (R376 to R391). -/
def HIF_STATUS : Nat := 0x30000
/-- HIF_FN_APER (R376 to R391). -/
def HIF_FN_APER (i : Nat) : Nat := 0x30100 + i * 0x40
/-- HIF_FN_AQ_CFG (R376 to R391). -/
def HIF_FN_AQ_CFG (i : Nat) : Nat := 0x30104 + i * 0x40
/-- HIF_FN_AQ_BASE_LO (R376 to R391). -/
def HIF_FN_AQ_BASE_LO (i : Nat) : Nat := 0x30108 + i * 0x40
/-- HIF_FN_AQ_BASE_HI (R376 to R391). -/
def HIF_FN_AQ_BASE_HI (i : Nat) : Nat := 0x3010c + i * 0x40
/-- HIF_FN_AQ_HEAD_LO (R376 to R391). -/
def HIF_FN_AQ_HEAD_LO (i : Nat) : Nat := 0x30110 + i * 0x40
/-- HIF_FN_AQ_HEAD_HI (R376 to R391). -/
def HIF_FN_AQ_HEAD_HI (i : Nat) : Nat := 0x30114 + i * 0x40
/-- HIF_FN_EQ_BASE_LO (R376 to R391). -/
def HIF_FN_EQ_BASE_LO (i : Nat) : Nat := 0x30118 + i * 0x40
/-- HIF_FN_EQ_BASE_HI (R376 to R391). -/
def HIF_FN_EQ_BASE_HI (i : Nat) : Nat := 0x3011c + i * 0x40
/-- HIF_FN_EQ_CFG (R376 to R391). -/
def HIF_FN_EQ_CFG (i : Nat) : Nat := 0x30120 + i * 0x40
/-- HIF_FN_EQ_DROP (R376 to R391). -/
def HIF_FN_EQ_DROP (i : Nat) : Nat := 0x30124 + i * 0x40
/-- HIF_FN_QSTATE (R376 to R391). -/
def HIF_FN_QSTATE (i : Nat) : Nat := 0x30128 + i * 0x40
/-- HIF_FN_QEXIST_LO (R376 to R391). -/
def HIF_FN_QEXIST_LO (i : Nat) : Nat := 0x30130 + i * 0x40
/-- HIF_FN_QEXIST_HI (R376 to R391). -/
def HIF_FN_QEXIST_HI (i : Nat) : Nat := 0x30134 + i * 0x40
/-- HIF_FN_QERR_LO (R376 to R391). -/
def HIF_FN_QERR_LO (i : Nat) : Nat := 0x30138 + i * 0x40
/-- HIF_FN_QERR_HI (R376 to R391). -/
def HIF_FN_QERR_HI (i : Nat) : Nat := 0x3013c + i * 0x40
/-- HIF_PF_QVEC (R376 to R391). -/
def HIF_PF_QVEC (i : Nat) : Nat := 0x30400 + i * 0x4
/-- HIF_PF_EQ_MASK (R376 to R391). -/
def HIF_PF_EQ_MASK : Nat := 0x30500
/-- FLP_STATUS (R393). -/
def FLP_STATUS : Nat := 0x40000
/-- FLP_LBAS_LO (R393). -/
def FLP_LBAS_LO : Nat := 0x40004
/-- FLP_LBAS_HI (R393). -/
def FLP_LBAS_HI : Nat := 0x40008
/-- PSC_STATUS (R485). -/
def PSC_STATUS : Nat := 0x50000
/-- PSC_CAP (R485). -/
def PSC_CAP : Nat := 0x50004
/-- PSC_PACER (R485). -/
def PSC_PACER : Nat := 0x50008
/-- PSC_POLICY (R485). -/
def PSC_POLICY : Nat := 0x5000c
/-- PSC_LAT (R485). -/
def PSC_LAT (i : Nat) : Nat := 0x50010 + i * 0x4
/-- PSC_LAT_PKG (R485). -/
def PSC_LAT_PKG : Nat := 0x50030
/-- PSC_CTL (R485). -/
def PSC_CTL : Nat := 0x50034
/-- PSC_POWER (R485). -/
def PSC_POWER : Nat := 0x50038
/-- PSC_INPUT (R485). -/
def PSC_INPUT : Nat := 0x5003c
/-- PSC_WAKE_CFG (R485). -/
def PSC_WAKE_CFG : Nat := 0x50040
/-- PSC_WAKE_AT_LO (R485). -/
def PSC_WAKE_AT_LO : Nat := 0x50044
/-- PSC_WAKE_AT_HI (R485). -/
def PSC_WAKE_AT_HI : Nat := 0x50048
/-- PSC_TEMP (R485). -/
def PSC_TEMP : Nat := 0x50050
/-- PSC_CORE (R485). -/
def PSC_CORE (i : Nat) : Nat := 0x50080 + i * 0x4
/-- PSC_DROOP (R485). -/
def PSC_DROOP (i : Nat) : Nat := 0x500a0 + i * 0x4
/-- PSC_VF_INDEX (R485). -/
def PSC_VF_INDEX : Nat := 0x500c0
/-- PSC_VF_DATA (R485). -/
def PSC_VF_DATA : Nat := 0x500c4
/-- PSC_BRIM (R485). -/
def PSC_BRIM (i : Nat) : Nat := 0x500e0 + i * 0x4
/-- PSC_REFUSE_LOG (R485). -/
def PSC_REFUSE_LOG (i : Nat) : Nat := 0x50100 + i * 0x4
/-- PSC_REFUSE_HEAD (R485). -/
def PSC_REFUSE_HEAD : Nat := 0x50140
/-- PSC_REFUSE_CNT (R485). -/
def PSC_REFUSE_CNT (i : Nat) : Nat := 0x50204 + i * 0x4
/-- CRN_STATUS (R509). -/
def CRN_STATUS : Nat := 0x60000
/-- CRN_START_NO (R509). -/
def CRN_START_NO : Nat := 0x60004
/-- CRN_LAST_FAIL (R509). -/
def CRN_LAST_FAIL : Nat := 0x60008
/-- CRN_CTL (R509). -/
def CRN_CTL : Nat := 0x6000c
/-- CRN_LOCK (R509). -/
def CRN_LOCK : Nat := 0x60010
/-- CRN_STG_CTL (R509). -/
def CRN_STG_CTL : Nat := 0x60020
/-- CRN_STG_LEN (R509). -/
def CRN_STG_LEN : Nat := 0x60024
/-- CRN_STG_DATA (R509). -/
def CRN_STG_DATA : Nat := 0x60028
/-- CRN_STG_STATUS (R509). -/
def CRN_STG_STATUS : Nat := 0x6002c
/-- CRN_STG_VER (R509). -/
def CRN_STG_VER : Nat := 0x60030
/-- CRN_ACT_TIME_LO (R509). -/
def CRN_ACT_TIME_LO : Nat := 0x60040
/-- CRN_ACT_TIME_HI (R509). -/
def CRN_ACT_TIME_HI : Nat := 0x60044
/-- CRN_ACT_CTL (R509). -/
def CRN_ACT_CTL : Nat := 0x60048
/-- CRN_ACT_CFG (R509). -/
def CRN_ACT_CFG : Nat := 0x6004c
/-- CRN_LIFE (R509). -/
def CRN_LIFE : Nat := 0x60050
/-- CRN_OWNER_KEY (R509). -/
def CRN_OWNER_KEY (i : Nat) : Nat := 0x60060 + i * 0x4
/-- GNT_STATUS (R524). -/
def GNT_STATUS : Nat := 0x70000
/-- GNT_CTL (R524). -/
def GNT_CTL : Nat := 0x70004
/-- GNT_CFG (R524). -/
def GNT_CFG : Nat := 0x70008
/-- GNT_FORCE0 (R524). -/
def GNT_FORCE0 : Nat := 0x7000c
/-- GNT_FORCE1 (R524). -/
def GNT_FORCE1 : Nat := 0x70010
/-- GNT_RESULT (R524). -/
def GNT_RESULT (i : Nat) : Nat := 0x70100 + i * 0x4
/-- GNT_SPARES (R524). -/
def GNT_SPARES (i : Nat) : Nat := 0x70200 + i * 0x4
/-- SMB_ALERT_MASK (R397). -/
def SMB_ALERT_MASK : Nat := 0x90000
/-- SMB_ALERT (R397). -/
def SMB_ALERT : Nat := 0x90004
/-- SMB_ALERT_DROP (R397). -/
def SMB_ALERT_DROP : Nat := 0x90008
/-- HNG_CFG (R452). -/
def HNG_CFG : Nat := 0xa0000
/-- HNG_ESC (R452). -/
def HNG_ESC : Nat := 0xa0004
/-- HNG_ESC_STATUS (R452). -/
def HNG_ESC_STATUS : Nat := 0xa0008
/-- HNG_WD (R452). -/
def HNG_WD (i : Nat) : Nat := 0xa0010 + i * 0x4
/-- HNG_STATE (R452). -/
def HNG_STATE : Nat := 0xa0040
/-- HNG_RESETS (R452). -/
def HNG_RESETS : Nat := 0xa0044
/-- HNG_RESET (R452). -/
def HNG_RESET : Nat := 0xa0050
/-- HNG_PHOTO_CTL (R452). -/
def HNG_PHOTO_CTL : Nat := 0xa0060
/-- HNG_PHOTO_CFG (R452). -/
def HNG_PHOTO_CFG : Nat := 0xa0064
/-- HNG_PHOTO_STATUS (R452). -/
def HNG_PHOTO_STATUS : Nat := 0xa0068
/-- HNG_PHOTO_INDEX (R452). -/
def HNG_PHOTO_INDEX : Nat := 0xa006c
/-- HNG_PHOTO_DATA (R452). -/
def HNG_PHOTO_DATA : Nat := 0xa0070
/-- SCH_PCFG (R415). -/
def SCH_PCFG (i : Nat) : Nat := 0xb0000 + i * 0x10
/-- SCH_HEAT (R415). -/
def SCH_HEAT (i : Nat) : Nat := 0xb0004 + i * 0x10
/-- SCH_STOPLIM (R415). -/
def SCH_STOPLIM (i : Nat) : Nat := 0xb0008 + i * 0x10
/-- SCH_PSTATUS (R415). -/
def SCH_PSTATUS (i : Nat) : Nat := 0xb000c + i * 0x10
/-- SCH_CTX_STATE (R415). -/
def SCH_CTX_STATE (i : Nat) : Nat := 0xb0100 + i * 0x40
/-- SCH_CTX_CREDIT (R415). -/
def SCH_CTX_CREDIT (i : Nat) : Nat := 0xb0104 + i * 0x40
/-- SCH_CTX_OVERRUN (R415). -/
def SCH_CTX_OVERRUN (i : Nat) : Nat := 0xb0108 + i * 0x40
/-- SCH_CTX_SWITCHES (R415). -/
def SCH_CTX_SWITCHES (i : Nat) : Nat := 0xb010c + i * 0x40
/-- SCH_CTX_RUN_LO (R415). -/
def SCH_CTX_RUN_LO (i : Nat) : Nat := 0xb0110 + i * 0x40
/-- SCH_CTX_RUN_HI (R415). -/
def SCH_CTX_RUN_HI (i : Nat) : Nat := 0xb0114 + i * 0x40
/-- SCH_CTX_ENERGY_LO (R415). -/
def SCH_CTX_ENERGY_LO (i : Nat) : Nat := 0xb0118 + i * 0x40
/-- SCH_CTX_ENERGY_HI (R415). -/
def SCH_CTX_ENERGY_HI (i : Nat) : Nat := 0xb011c + i * 0x40
/-- SCH_CTX_SAVE_LO (R415). -/
def SCH_CTX_SAVE_LO (i : Nat) : Nat := 0xb0120 + i * 0x40
/-- SCH_CTX_SAVE_HI (R415). -/
def SCH_CTX_SAVE_HI (i : Nat) : Nat := 0xb0124 + i * 0x40
/-- SCH_CTX_STRIDE (R415). -/
def SCH_CTX_STRIDE (i : Nat) : Nat := 0xb0128 + i * 0x40
/-- SCH_ENERGY_OVH_LO (R415). -/
def SCH_ENERGY_OVH_LO : Nat := 0xb2000
/-- SCH_ENERGY_OVH_HI (R415). -/
def SCH_ENERGY_OVH_HI : Nat := 0xb2004
/-- SCH_ENERGY_ALL_LO (R415). -/
def SCH_ENERGY_ALL_LO : Nat := 0xb2008
/-- SCH_ENERGY_ALL_HI (R415). -/
def SCH_ENERGY_ALL_HI : Nat := 0xb200c
/-- SEQ_STATUS (R167). -/
def SEQ_STATUS (c : Nat) (q : SeqId) : Nat := 0x1000000 + c * 0x200000 + (match q with | .F => 0 | .B => 0x10000 | .U => 0x20000)
/-- SEQ_PC (R167). -/
def SEQ_PC (c : Nat) (q : SeqId) : Nat := 0x1000004 + c * 0x200000 + (match q with | .F => 0 | .B => 0x10000 | .U => 0x20000)
/-- SEQ_WAIT_TARGET (R167). -/
def SEQ_WAIT_TARGET (c : Nat) (q : SeqId) : Nat := 0x1000008 + c * 0x200000 + (match q with | .F => 0 | .B => 0x10000 | .U => 0x20000)
/-- SEQ_FAULT (R167). -/
def SEQ_FAULT (c : Nat) (q : SeqId) : Nat := 0x100000c + c * 0x200000 + (match q with | .F => 0 | .B => 0x10000 | .U => 0x20000)
/-- SEQ_FAULT_CODE (R167). -/
def SEQ_FAULT_CODE (c : Nat) (q : SeqId) : Nat := 0x1000010 + c * 0x200000 + (match q with | .F => 0 | .B => 0x10000 | .U => 0x20000)
/-- SEQ_ISSUED (R167). -/
def SEQ_ISSUED (c : Nat) (q : SeqId) : Nat := 0x1000014 + c * 0x200000 + (match q with | .F => 0 | .B => 0x10000 | .U => 0x20000)
/-- SEQ_GRANT_WAIT (R167). -/
def SEQ_GRANT_WAIT (c : Nat) (q : SeqId) : Nat := 0x1000018 + c * 0x200000 + (match q with | .F => 0 | .B => 0x10000 | .U => 0x20000)
/-- SEQ_ARB (R167). -/
def SEQ_ARB (c : Nat) : Nat := 0x1000100 + c * 0x200000
/-- SEQ_QUOTA (R167). -/
def SEQ_QUOTA (c : Nat) : Nat := 0x1000104 + c * 0x200000
/-- ARR_STATUS (R94, R112). -/
def ARR_STATUS (c : Nat) : Nat := 0x1030000 + c * 0x200000
/-- ARR_CFG (R94, R112). -/
def ARR_CFG (c : Nat) : Nat := 0x1030004 + c * 0x200000
/-- ARR_PRODUCTS_LO (R94, R112). -/
def ARR_PRODUCTS_LO (c : Nat) : Nat := 0x1030008 + c * 0x200000
/-- ARR_PRODUCTS_HI (R94, R112). -/
def ARR_PRODUCTS_HI (c : Nat) : Nat := 0x103000c + c * 0x200000
/-- ARR_BANK_STALL (R94, R112). -/
def ARR_BANK_STALL (c : Nat) : Nat := 0x1030010 + c * 0x200000
/-- ARR_BANK_STALL_CYC (R94, R112). -/
def ARR_BANK_STALL_CYC (c : Nat) : Nat := 0x1030014 + c * 0x200000
/-- ARR_WINDOW_TRUNC (R94, R112). -/
def ARR_WINDOW_TRUNC (c : Nat) : Nat := 0x1030018 + c * 0x200000
/-- ARR_SAT (R94, R112). -/
def ARR_SAT (c : Nat) (i : Nat) : Nat := 0x1030100 + c * 0x200000 + i * 0x10
/-- ARR_NONFIN (R94, R112). -/
def ARR_NONFIN (c : Nat) (i : Nat) : Nat := 0x1030104 + c * 0x200000 + i * 0x10
/-- ARR_UNDER (R94, R112). -/
def ARR_UNDER (c : Nat) (i : Nat) : Nat := 0x1030108 + c * 0x200000 + i * 0x10
/-- ARR_SENTINEL (R94, R112). -/
def ARR_SENTINEL (c : Nat) : Nat := 0x1030180 + c * 0x200000
/-- STR_CFG (R252). -/
def STR_CFG (c : Nat) : Nat := 0x1040000 + c * 0x200000
/-- STR_QUOTA (R252). -/
def STR_QUOTA (c : Nat) : Nat := 0x1040004 + c * 0x200000
/-- STR_QUOTA2 (R252). -/
def STR_QUOTA2 (c : Nat) : Nat := 0x1040008 + c * 0x200000
/-- STR_RESUME (R252). -/
def STR_RESUME (c : Nat) : Nat := 0x104000c + c * 0x200000
/-- STR_ABORT (R252). -/
def STR_ABORT (c : Nat) : Nat := 0x1040010 + c * 0x200000
/-- STR_HALTED (R252). -/
def STR_HALTED (c : Nat) : Nat := 0x1040014 + c * 0x200000
/-- STR_TAGS (R252). -/
def STR_TAGS (c : Nat) : Nat := 0x1040018 + c * 0x200000
/-- STR_QUOTA_WAIT (R252). -/
def STR_QUOTA_WAIT (c : Nat) : Nat := 0x104001c + c * 0x200000
/-- STR_STALE (R252). -/
def STR_STALE (c : Nat) : Nat := 0x1040020 + c * 0x200000
/-- STR_WATCH_EVICT (R252). -/
def STR_WATCH_EVICT (c : Nat) : Nat := 0x1040024 + c * 0x200000
/-- STR_SLOT (R252). -/
def STR_SLOT (c : Nat) (i : Nat) : Nat := 0x1040100 + c * 0x200000 + i * 0x4
/-- STR_FAULT_VA_LO (R252). -/
def STR_FAULT_VA_LO (c : Nat) (i : Nat) : Nat := 0x1040200 + c * 0x200000 + i * 0x8
/-- STR_FAULT_VA_HI (R252). -/
def STR_FAULT_VA_HI (c : Nat) (i : Nat) : Nat := 0x1040204 + c * 0x200000 + i * 0x8
/-- GTH_QUOTA (R252). -/
def GTH_QUOTA (c : Nat) : Nat := 0x1050004 + c * 0x200000
/-- GTH_QUOTA2 (R252). -/
def GTH_QUOTA2 (c : Nat) : Nat := 0x1050008 + c * 0x200000
/-- GTH_RESUME (R252). -/
def GTH_RESUME (c : Nat) : Nat := 0x105000c + c * 0x200000
/-- GTH_ABORT (R252). -/
def GTH_ABORT (c : Nat) : Nat := 0x1050010 + c * 0x200000
/-- GTH_HALTED (R252). -/
def GTH_HALTED (c : Nat) : Nat := 0x1050014 + c * 0x200000
/-- GTH_TAGS (R252). -/
def GTH_TAGS (c : Nat) : Nat := 0x1050018 + c * 0x200000
/-- GTH_QUOTA_WAIT (R252). -/
def GTH_QUOTA_WAIT (c : Nat) : Nat := 0x105001c + c * 0x200000
/-- GTH_STREAM (R252). -/
def GTH_STREAM (c : Nat) (i : Nat) : Nat := 0x1050100 + c * 0x200000 + i * 0x4
/-- GTH_FAULT_VA_LO (R252). -/
def GTH_FAULT_VA_LO (c : Nat) (i : Nat) : Nat := 0x1050200 + c * 0x200000 + i * 0x8
/-- GTH_FAULT_VA_HI (R252). -/
def GTH_FAULT_VA_HI (c : Nat) (i : Nat) : Nat := 0x1050204 + c * 0x200000 + i * 0x8
/-- STORE_BASE (R142, R289, R294). -/
def STORE_BASE (c : Nat) (i : Nat) : Nat := 0x1070000 + c * 0x200000 + i * 0x10
/-- STORE_SIZE (R142, R289, R294). -/
def STORE_SIZE (c : Nat) (i : Nat) : Nat := 0x1070004 + c * 0x200000 + i * 0x10
/-- STORE_ATTR (R142, R289, R294). -/
def STORE_ATTR (c : Nat) (i : Nat) : Nat := 0x1070008 + c * 0x200000 + i * 0x10
/-- STORE_STASH (R142, R289, R294). -/
def STORE_STASH (c : Nat) : Nat := 0x1070100 + c * 0x200000
/-- STORE_SWAPS (R142, R289, R294). -/
def STORE_SWAPS (c : Nat) : Nat := 0x1070104 + c * 0x200000
/-- STORE_HSTASH_LO (R142, R289, R294). -/
def STORE_HSTASH_LO (c : Nat) : Nat := 0x1070108 + c * 0x200000
/-- STORE_HSTASH_HI (R142, R289, R294). -/
def STORE_HSTASH_HI (c : Nat) : Nat := 0x107010c + c * 0x200000
/-- STORE_HSTASH_SIZE (R142, R289, R294). -/
def STORE_HSTASH_SIZE (c : Nat) : Nat := 0x1070110 + c * 0x200000
/-- STORE_STASH_USED (R142, R289, R294). -/
def STORE_STASH_USED (c : Nat) : Nat := 0x1070114 + c * 0x200000
/-- STORE_HSTASH_USED (R142, R289, R294). -/
def STORE_HSTASH_USED (c : Nat) : Nat := 0x1070118 + c * 0x200000
/-- STORE_STASH_SPILLS (R142, R289, R294). -/
def STORE_STASH_SPILLS (c : Nat) : Nat := 0x107011c + c * 0x200000
/-- STORE_STASH_DROPS (R142, R289, R294). -/
def STORE_STASH_DROPS (c : Nat) : Nat := 0x1070120 + c * 0x200000
/-- STORE_STASH_WAIT (R142, R289, R294). -/
def STORE_STASH_WAIT (c : Nat) : Nat := 0x1070124 + c * 0x200000
/-- STORE_STASH_KEYS (R142, R289, R294). -/
def STORE_STASH_KEYS (c : Nat) : Nat := 0x1070128 + c * 0x200000
/-- GEN_STALL (R142, R289, R294). -/
def GEN_STALL (c : Nat) : Nat := 0x1020200 + c * 0x200000
/-- GEN_KEY (R142, R289, R294). -/
def GEN_KEY (c : Nat) (i : Nat) : Nat := 0x1021000 + c * 0x200000 + i * 0x10
/-- GEN_STATE (R142, R289, R294). -/
def GEN_STATE (c : Nat) (i : Nat) : Nat := 0x1021004 + c * 0x200000 + i * 0x10
/-- GEN_REF (R142, R289, R294). -/
def GEN_REF (c : Nat) (i : Nat) : Nat := 0x1021008 + c * 0x200000 + i * 0x10
/-- MEM_STATUS (R276). -/
def MEM_STATUS (m : Nat) : Nat := 0x2000000 + m * 0x40000
/-- MEM_CHAN_OUT (R276). -/
def MEM_CHAN_OUT (m : Nat) : Nat := 0x2000004 + m * 0x40000
/-- MEM_CE (R276). -/
def MEM_CE (m : Nat) : Nat := 0x2000008 + m * 0x40000
/-- MEM_UE (R276). -/
def MEM_UE (m : Nat) : Nat := 0x200000c + m * 0x40000
/-- MEM_BLOCKED (R276). -/
def MEM_BLOCKED (m : Nat) : Nat := 0x2000010 + m * 0x40000
/-- MEM_REPAIR (R276). -/
def MEM_REPAIR (m : Nat) : Nat := 0x2010000 + m * 0x40000
/-- MEM_LIMIT_LO (R276). -/
def MEM_LIMIT_LO : Nat := 0x2020000
/-- MEM_LIMIT_HI (R276). -/
def MEM_LIMIT_HI : Nat := 0x2020004
/-- MEM_CFG (R276). -/
def MEM_CFG : Nat := 0x2020008
/-- MEM_INVAL_LO (R276). -/
def MEM_INVAL_LO : Nat := 0x2020010
/-- MEM_INVAL_HI (R276). -/
def MEM_INVAL_HI : Nat := 0x2020014
/-- MEM_INVAL_STATUS (R276). -/
def MEM_INVAL_STATUS : Nat := 0x2020018
/-- MEM_FLUSH (R276). -/
def MEM_FLUSH : Nat := 0x202001c
/-- MEM_INBOUND_CNT (R276). -/
def MEM_INBOUND_CNT : Nat := 0x2020020
/-- MEM_PT_ROOT_LO (R276). -/
def MEM_PT_ROOT_LO (i : Nat) : Nat := 0x2020100 + i * 0x8
/-- MEM_PT_ROOT_HI (R276). -/
def MEM_PT_ROOT_HI (i : Nat) : Nat := 0x2020104 + i * 0x8
/-- MEM_WIN_BASE_LO (R276). -/
def MEM_WIN_BASE_LO (i : Nat) : Nat := 0x2020200 + i * 0x20
/-- MEM_WIN_BASE_HI (R276). -/
def MEM_WIN_BASE_HI (i : Nat) : Nat := 0x2020204 + i * 0x20
/-- MEM_WIN_SIZE (R276). -/
def MEM_WIN_SIZE (i : Nat) : Nat := 0x2020208 + i * 0x20
/-- MEM_WIN_ATTR (R276). -/
def MEM_WIN_ATTR (i : Nat) : Nat := 0x202020c + i * 0x20
/-- MEM_WIN_TARGET_LO (R276). -/
def MEM_WIN_TARGET_LO (i : Nat) : Nat := 0x2020210 + i * 0x20
/-- MEM_WIN_TARGET_HI (R276). -/
def MEM_WIN_TARGET_HI (i : Nat) : Nat := 0x2020214 + i * 0x20
/-- MEM_WIN_SRC (R276). -/
def MEM_WIN_SRC (i : Nat) : Nat := 0x2020218 + i * 0x20
/-- MEM_RET_INDEX (R276). -/
def MEM_RET_INDEX : Nat := 0x2021000
/-- MEM_RET_PA (R276). -/
def MEM_RET_PA : Nat := 0x2021004
/-- MEM_RET_COUNT (R276). -/
def MEM_RET_COUNT : Nat := 0x2021008
/-- LNK_STATUS (R342). -/
def LNK_STATUS (m : Nat) : Nat := 0x2400000 + m * 0x40000
/-- LNK_PEER (R342). -/
def LNK_PEER (m : Nat) : Nat := 0x2400004 + m * 0x40000
/-- LNK_CTL (R342). -/
def LNK_CTL (m : Nat) : Nat := 0x2400008 + m * 0x40000
/-- LNK_RTT (R342). -/
def LNK_RTT (m : Nat) : Nat := 0x240000c + m * 0x40000
/-- LNK_FEC_CORR (R342). -/
def LNK_FEC_CORR (m : Nat) : Nat := 0x2400010 + m * 0x40000
/-- LNK_FEC_UNCORR (R342). -/
def LNK_FEC_UNCORR (m : Nat) : Nat := 0x2400014 + m * 0x40000
/-- LNK_REPLAYS (R342). -/
def LNK_REPLAYS (m : Nat) : Nat := 0x2400018 + m * 0x40000
/-- LNK_PEER_LOST (R342). -/
def LNK_PEER_LOST (m : Nat) : Nat := 0x240001c + m * 0x40000
/-- LNK_BAD_MSG (R342). -/
def LNK_BAD_MSG (m : Nat) : Nat := 0x2400020 + m * 0x40000
/-- LNK_LASER (R342). -/
def LNK_LASER (m : Nat) (i : Nat) : Nat := 0x2400040 + m * 0x40000 + i * 0x4
/-- LNK_PKGID (R342). -/
def LNK_PKGID : Nat := 0x2410000
/-- LNK_SYSTEM (R342). -/
def LNK_SYSTEM : Nat := 0x2410004
/-- LNK_CFG (R342). -/
def LNK_CFG : Nat := 0x2410008
/-- LNK_PORTMAP (R342). -/
def LNK_PORTMAP (i : Nat) : Nat := 0x2410100 + i * 0x4
/-- LNK_CTX_PORTS (R342). -/
def LNK_CTX_PORTS (i : Nat) : Nat := 0x2410200 + i * 0x4
/-- HRD_CTL (R151). -/
def HRD_CTL (n : Nat) (i : Nat) : Nat := 0x2800000 + n * 0x80000 + i * 0x20
/-- HRD_PORTS (R151). -/
def HRD_PORTS (n : Nat) (i : Nat) : Nat := 0x2800004 + n * 0x80000 + i * 0x20
/-- HRD_COUNT (R151). -/
def HRD_COUNT (n : Nat) (i : Nat) : Nat := 0x2800008 + n * 0x80000 + i * 0x20
/-- HRD_RELEASES (R151). -/
def HRD_RELEASES (n : Nat) (i : Nat) : Nat := 0x280000c + n * 0x80000 + i * 0x20
/-- HRD_PACE (R151). -/
def HRD_PACE (n : Nat) (i : Nat) : Nat := 0x2800010 + n * 0x80000 + i * 0x20
/-- HRD_LAGSRC (R151). -/
def HRD_LAGSRC (n : Nat) (i : Nat) : Nat := 0x2800014 + n * 0x80000 + i * 0x20
/-- HRD_SPEC_BASE (R151). -/
def HRD_SPEC_BASE (n : Nat) (i : Nat) : Nat := 0x2800018 + n * 0x80000 + i * 0x20
/-- HRD_STRAY (R151). -/
def HRD_STRAY (n : Nat) : Nat := 0x2804000 + n * 0x80000
/-- REL_CFG (R372). -/
def REL_CFG (n : Nat) : Nat := 0x2810000 + n * 0x80000
/-- REL_PACE_CFG (R372). -/
def REL_PACE_CFG (n : Nat) : Nat := 0x2810004 + n * 0x80000
/-- REL_ACTIVE (R372). -/
def REL_ACTIVE (n : Nat) : Nat := 0x2810008 + n * 0x80000
/-- REL_CAP_DROP (R372). -/
def REL_CAP_DROP (n : Nat) : Nat := 0x281000c + n * 0x80000
/-- REL_READY_RETRY (R372). -/
def REL_READY_RETRY (n : Nat) : Nat := 0x2810010 + n * 0x80000
/-- REL_REFUSED (R372). -/
def REL_REFUSED (n : Nat) : Nat := 0x2810014 + n * 0x80000
/-- REL_CTX (R372). -/
def REL_CTX (n : Nat) (i : Nat) : Nat := 0x2810100 + n * 0x80000 + i * 0x40
/-- REL_WORK_LO (R372). -/
def REL_WORK_LO (n : Nat) (i : Nat) : Nat := 0x2810104 + n * 0x80000 + i * 0x40
/-- REL_WORK_HI (R372). -/
def REL_WORK_HI (n : Nat) (i : Nat) : Nat := 0x2810108 + n * 0x80000 + i * 0x40
/-- REL_WORK_SIZE (R372). -/
def REL_WORK_SIZE (n : Nat) (i : Nat) : Nat := 0x281010c + n * 0x80000 + i * 0x40
/-- REL_Q_BASE (R372). -/
def REL_Q_BASE (n : Nat) (i : Nat) (j : Nat) : Nat := 0x2810110 + n * 0x80000 + i * 0x40 + j * 0x8
/-- REL_Q_HEAD (R372). -/
def REL_Q_HEAD (n : Nat) (i : Nat) (j : Nat) : Nat := 0x2810114 + n * 0x80000 + i * 0x40 + j * 0x8
/-- REL_NORM_LO (R372). -/
def REL_NORM_LO (n : Nat) (i : Nat) : Nat := 0x2810130 + n * 0x80000 + i * 0x40
/-- REL_NORM_HI (R372). -/
def REL_NORM_HI (n : Nat) (i : Nat) : Nat := 0x2810134 + n * 0x80000 + i * 0x40
/-- REL_FOLLOW (R372). -/
def REL_FOLLOW (n : Nat) (i : Nat) : Nat := 0x2810138 + n * 0x80000 + i * 0x40
/-- SPL_CFG (R434). -/
def SPL_CFG : Nat := 0x2820000
/-- SPL_BUDDY_BASE (R434). -/
def SPL_BUDDY_BASE : Nat := 0x2820004
/-- SPL_TAU (R434). -/
def SPL_TAU : Nat := 0x2820008
/-- SPL_AREA (R434). -/
def SPL_AREA (i : Nat) : Nat := 0x2820010 + i * 0x4
/-- SPL_FLEET (R434). -/
def SPL_FLEET (i : Nat) : Nat := 0x2820040 + i * 0x4
/-- SPL_AREA_STEP0 (R434). -/
def SPL_AREA_STEP0 (i : Nat) : Nat := 0x2820080 + i * 0x10
/-- SPL_AREA_STEP1 (R434). -/
def SPL_AREA_STEP1 (i : Nat) : Nat := 0x2820084 + i * 0x10
/-- SPL_AREA_FLAGS (R434). -/
def SPL_AREA_FLAGS (i : Nat) : Nat := 0x2820088 + i * 0x10
/-- SPL_AREA_FSTEP (R434). -/
def SPL_AREA_FSTEP (i : Nat) : Nat := 0x282008c + i * 0x10
/-- SPL_CTX_STATE (R434). -/
def SPL_CTX_STATE (i : Nat) : Nat := 0x2820200 + i * 0x20
/-- SPL_CTX_STEP (R434). -/
def SPL_CTX_STEP (i : Nat) : Nat := 0x2820204 + i * 0x20
/-- SPL_CTX_TAU (R434). -/
def SPL_CTX_TAU (i : Nat) : Nat := 0x2820208 + i * 0x20
/-- SPL_CTX_COST (R434). -/
def SPL_CTX_COST (i : Nat) : Nat := 0x282020c + i * 0x20
/-- SPL_CTX_MTBF (R434). -/
def SPL_CTX_MTBF (i : Nat) : Nat := 0x2820210 + i * 0x20
/-- SPL_CTX_FAIL (R434). -/
def SPL_CTX_FAIL (i : Nat) : Nat := 0x2820214 + i * 0x20

end Sys2Proof.Machine.Reg
end

