-- ==== Sys2Proof/Machine/Regs.lean ====
section
/-! DEFINITION. The address map of BAR0 (R41 to R44) as functions: which register an offset names, its reset value and
the bits of each access code. -/

namespace Sys2Proof.Machine
open Sys2Proof

/-- Bits hi to lo of a number. -/
def bitsOf (w : Nat) (hi lo : Nat) : Nat := (w / 2 ^ lo) % 2 ^ (hi + 1 - lo)

/-- The mask of bits hi to lo. -/
def maskOf (hi lo : Nat) : Nat := (2 ^ (hi + 1 - lo) - 1) * 2 ^ lo

/-- Bits hi to lo of a register word, as a number. -/
def fieldOf (w : W32) (hi lo : Nat) : Nat := bitsOf w.toNat hi lo

/-- A register word with bits hi to lo replaced by v. -/
def withField (w : W32) (hi lo v : Nat) : W32 :=
  (w &&& ~~~(BitVec.ofNat 32 (maskOf hi lo))) ||| BitVec.ofNat 32 ((v % 2 ^ (hi + 1 - lo)) * 2 ^ lo)

/-- The kind of a 64 KiB page of BAR0, with its block instance. -/
inductive PageKind where
  | glb | clk | cset | hif | flp | psc | crn | gnt | cfg | smb | hng | sch
  | seq (n : Nat) (q : SeqId)
  | arr (n : Nat) | str (n : Nat) | gth (n : Nat) | row (n : Nat) | store (n : Nat)
  | mem0 (m : Nat) | mem1 (m : Nat) | mem2
  | lnk0 (m : Nat) | lnk1
  | hrd (n : Nat) | rel (n : Nat) | spl | fab (n : Nat)
  deriving DecidableEq, Repr

/-- The page that a BAR0 offset falls in (R41 to R43); none for a reserved range. -/
def pageOf (off : Nat) : Option PageKind :=
  if off < 0xC0000 then
    match off / 0x10000 with
    | 0 => some .glb | 1 => some .clk | 2 => some .cset | 3 => some .hif | 4 => some .flp | 5 => some .psc
    | 6 => some .crn | 7 => some .gnt | 8 => some .cfg | 9 => some .smb | 10 => some .hng | _ => some .sch
  else if off < 0x1000000 then none
  else if off < 0x2000000 then
    let n := (off - 0x1000000) / 0x200000
    match (off - 0x1000000) % 0x200000 / 0x10000 with
    | 0 => some (.seq n .F) | 1 => some (.seq n .B) | 2 => some (.seq n .U) | 3 => some (.arr n)
    | 4 => some (.str n) | 5 => some (.gth n) | 6 => some (.row n) | 7 => some (.store n) | _ => none
  else if off < 0x2400000 then
    let m := (off - 0x2000000) / 0x40000
    match (off - 0x2000000) % 0x40000 / 0x10000 with
    | 0 => some (.mem0 m) | 1 => some (.mem1 m) | 2 => if m = 0 then some .mem2 else none | _ => none
  else if off < 0x2800000 then
    let m := (off - 0x2400000) / 0x40000
    match (off - 0x2400000) % 0x40000 / 0x10000 with
    | 0 => some (.lnk0 m) | 1 => if m = 0 then some .lnk1 else none | _ => none
  else if off < 0x2C00000 then
    let n := (off - 0x2800000) / 0x80000
    match (off - 0x2800000) % 0x80000 / 0x10000 with
    | 0 => some (.hrd n) | 1 => some (.rel n) | 2 => if n = 0 then some .spl else none | 3 => some (.fab n) | _ => none
  else none

/-- The registers of a page. CFG, ROW and FAB pages hold none that the register tables give. -/
def pageRows : PageKind → List RegRow
  | .glb => rows_glb | .clk => rows_clk | .cset => rows_cset | .hif => rows_hif | .flp => rows_flp
  | .psc => rows_psc | .crn => rows_crn | .gnt => rows_gnt | .cfg => [] | .smb => rows_smb | .hng => rows_hng
  | .sch => rows_sch | .seq _ .F => rows_seq ++ rows_seqF | .seq _ .U => rows_seq ++ rows_seqU | .seq _ .B => rows_seq | .arr _ => rows_arr
  | .str _ => rows_str | .gth _ => rows_gth | .row _ => [] | .store _ => rows_store | .mem0 _ => rows_mem0
  | .mem1 _ => rows_mem1 | .mem2 => rows_mem2 | .lnk0 _ => rows_lnk0 | .lnk1 => rows_lnk1 | .hrd _ => rows_hrd
  | .rel _ => rows_rel | .spl => rows_spl | .fab _ => []

/-- The indices of a register array that an offset within the array names. -/
def matchDims : List (Nat × Nat) → Nat → Option (List Nat)
  | [], d => if d = 0 then some [] else none
  | (cnt, st) :: t, d => if d / st < cnt then (matchDims t (d % st)).map (d / st :: ·) else none

/-- The row of a list that covers a page offset, with its indices. -/
def findRow : List RegRow → Nat → Option (RegRow × List Nat)
  | [], _ => none
  | r :: t, o =>
    if r.off ≤ o then
      match matchDims r.dims (o - r.off) with
      | some ix => some (r, ix)
      | none => findRow t o
    else findRow t o

/-- Whether an offset lies in the read-only mirror half of its page (R44). -/
def inMirror (off : Nat) : Bool := off % 0x10000 ≥ 0x8000

/-- The offset of the register itself, for an offset in either half of its page (R44), on its own word. -/
def homeOff (off : Nat) : Nat := (if inMirror off then off - 0x8000 else off) / 4 * 4

/-- The register that a home offset names, with its page and indices. -/
def regAt (off : Nat) : Option (PageKind × RegRow × List Nat) :=
  match pageOf off with
  | none => none
  | some pk => (findRow (pageRows pk) (off % 0x10000)).map (fun r => (pk, r.1, r.2))

/-- The bits of a register that have one of the access codes. -/
def accMask (r : RegRow) (as : List Acc) : W32 :=
  r.fields.foldl (fun w f => if as.contains f.acc then w ||| BitVec.ofNat 32 (maskOf f.hi f.lo) else w) 0

/-- The commit set of a register of a page (R49). -/
def setOfReg (pk : PageKind) (r : RegRow) : Option Nat :=
  match r.set, pk with
  | .none, _ => none
  | .fixed n, _ => some n
  | .core, .seq n _ | .core, .arr n | .core, .str n | .core, .gth n | .core, .store n => some (3 + n)
  | .core, _ => none

/-- Watchdog limits by engine kind (R435, HNG_WD in R452). -/
def watchdogReset : Nat → Nat
  | 0 => 0x186A0 | 1 => 0x3E8 | 2 => 0x2710 | 3 => 0x2710 | 4 => 0x3E8 | 5 => 0x186A0 | 6 => 0x1E8480
  | 7 => 0x186A0 | _ => 0x3E8

/-- The reset value of a register (R11): the fields of its row, with the three that depend on the index. -/
def regReset (off : Nat) : W32 :=
  match regAt off with
  | none => 0
  | some (pk, r, ix) =>
    let base : W32 := r.fields.foldl (fun w f => w ||| BitVec.ofNat 32 (f.reset * 2 ^ f.lo)) 0
    match pk, ix with
    | .lnk1, [m] => if r.off = 0x100 then base ||| BitVec.ofNat 32 m else base
    | .hif, [q] => if r.off = 0x400 then BitVec.ofNat 32 (1 + q % 63) else base
    | .hng, [k] => if r.off = 0x10 then base ||| BitVec.ofNat 32 (watchdogReset k) else base
    | _, _ => base

end Sys2Proof.Machine
end

