-- ==== Sys2Proof/Machine/Ops.lean ====
section
/-! DEFINITION. The operations over sparse tables, register files, memories and the parts of State that every family of
commands shares. -/

namespace Sys2Proof.Machine
open Sys2Proof

/-! ## Sparse tables -/

/-- The value at a key; an unlisted key reads as `d`. -/
def smGet {α : Type} (d : Nat → α) : SMap α → Nat → α
  | [], k => d k
  | (k', v) :: t, k => if k = k' then v else smGet d t k

/-- The table without a key. -/
def smErase {α : Type} (m : SMap α) (k : Nat) : SMap α := m.filter (fun p => p.1 != k)

/-- The table with an entry put before the first greater key. -/
def smInsert {α : Type} (k : Nat) (v : α) : SMap α → SMap α
  | [] => [(k, v)]
  | (k', v') :: t => if k < k' then (k, v) :: (k', v') :: t else (k', v') :: smInsert k v t

/-- A write: the entry goes when the value is what an unlisted key reads as, so equal tables are equal data. -/
def smSet {α : Type} [DecidableEq α] (d : Nat → α) (m : SMap α) (k : Nat) (v : α) : SMap α :=
  match m with
  | [] => if v = d k then [] else [(k, v)]
  | p :: t => if v = d k then smErase (p :: t) k else smInsert k v (smErase (p :: t) k)

/-- The canonical form: keys rising, and no entry equal to what an unlisted key reads as. -/
def smWf {α : Type} [DecidableEq α] (d : Nat → α) (m : SMap α) : Prop :=
  m.Pairwise (fun p q => p.1 < q.1) ∧ ∀ p ∈ m, p.2 ≠ d p.1

/-! ## Bytes (little-endian, R9) -/

abbrev Mem := SMap Byte

/-- What a byte that nothing has written reads as: zero (notes/assumptions/2). -/
def emptyByte : Nat → Byte := fun _ => 0

def Mem.byte (m : Mem) (a : Nat) : Byte := smGet emptyByte m a
def Mem.setByte (m : Mem) (a : Nat) (b : Byte) : Mem := smSet emptyByte m a b

/-- n bytes from an address as a number, the lowest address least significant. -/
def Mem.readN (m : Mem) (a : Nat) : Nat → Nat
  | 0 => 0
  | n + 1 => (m.byte a).toNat + 256 * Mem.readN m (a + 1) n

/-- A number written as n bytes from an address. -/
def Mem.writeN (m : Mem) (a v : Nat) : Nat → Mem
  | 0 => m
  | n + 1 => Mem.writeN (m.setByte a (BitVec.ofNat 8 v)) (a + 1) (v / 256) n

/-- n bytes from an address, in order. -/
def Mem.bytes (m : Mem) (a n : Nat) : List Byte := (List.range n).map (fun i => m.byte (a + i))

/-- A list of bytes written from an address. -/
def Mem.setBytes (m : Mem) (a : Nat) : List Byte → Mem
  | [] => m
  | b :: t => Mem.setBytes (m.setByte a b) (a + 1) t

/-- n 64-bit words from an address (R184). -/
def Mem.words (m : Mem) (a n : Nat) : List W64 := (List.range n).map (fun i => BitVec.ofNat 64 (m.readN (a + 8 * i) 8))

/-- A number as its n bytes, least significant first. -/
def leBytes (v : Nat) : Nat → List Byte
  | 0 => []
  | n + 1 => BitVec.ofNat 8 v :: leBytes (v / 256) n

/-- Bytes as a number, least significant first. -/
def leNat : List Byte → Nat
  | [] => 0
  | b :: t => b.toNat + 256 * leNat t

/-- 64-bit words, little-endian. -/
def wordBytes (ws : List Nat) : List Byte := ws.flatMap (fun w => leBytes w 8)

/-- Word i of a descriptor, and bits of it. -/
def word (ws : List W64) (i : Nat) : W64 := (ws[i]?).getD 0
def wbits (ws : List W64) (i hi lo : Nat) : Nat := bitsOf (word ws i).toNat hi lo

/-- A 64-bit word with bits hi to lo replaced. -/
def withBits (w : W64) (hi lo v : Nat) : W64 :=
  (w &&& ~~~(BitVec.ofNat 64 (maskOf hi lo))) ||| BitVec.ofNat 64 ((v % 2 ^ (hi + 1 - lo)) * 2 ^ lo)

/-- The list with word i changed. -/
def setWord (ws : List W64) (i : Nat) (w : W64) : List W64 := ws.set i w

/-! ## Vectors of parts -/

def vget {α : Type} {n : Nat} (v : Vector α n) (i : Fin n) : α := v[i]
def vset {α : Type} {n : Nat} (v : Vector α n) (i : Fin n) (x : α) : Vector α n := v.set i x
def vmod {α : Type} {n : Nat} (v : Vector α n) (i : Fin n) (f : α → α) : Vector α n := vset v i (f (vget v i))

def seqIx : SeqId → Fin 3 | .F => 0 | .B => 1 | .U => 2
/-- Number of a sequencer: 1, 2, 3 as in OWNER and HOLDER; 0 none. -/
def ownerCode : Option SeqId → Nat | none => 0 | some .F => 1 | some .B => 2 | some .U => 3

def State.core (s : State) (c : CoreId) : Core := vget s.cores c
def State.setCore (s : State) (c : CoreId) (k : Core) : State := { s with cores := vset s.cores c k }
def State.modCore (s : State) (c : CoreId) (f : Core → Core) : State := s.setCore c (f (s.core c))
def State.seq (s : State) (c : CoreId) (q : SeqId) : Seq := vget (s.core c).seqs (seqIx q)
def Core.setSeq (k : Core) (q : SeqId) (x : Seq) : Core := { k with seqs := vset k.seqs (seqIx q) x }
def State.setSeq (s : State) (c : CoreId) (q : SeqId) (x : Seq) : State := s.modCore c (·.setSeq q x)
def State.modSeq (s : State) (c : CoreId) (q : SeqId) (f : Seq → Seq) : State := s.setSeq c q (f (s.seq c q))
def State.win (s : State) (c : CoreId) (w : Fin 2) : Win := vget (s.core c).wins w
def State.modWin (s : State) (c : CoreId) (w : Fin 2) (f : Win → Win) : State :=
  s.modCore c (fun k => { k with wins := vmod k.wins w f })
def State.bank (s : State) (c : CoreId) (b : Fin 2) : Bank := vget (s.core c).arr.bank b
def State.modArr (s : State) (c : CoreId) (f : Arr → Arr) : State := s.modCore c (fun k => { k with arr := f k.arr })
def State.modBank (s : State) (c : CoreId) (b : Fin 2) (f : Bank → Bank) : State :=
  s.modArr c (fun a => { a with bank := vmod a.bank b f })
def State.modStore (s : State) (c : CoreId) (f : Mem → Mem) : State := s.modCore c (fun k => { k with store := f k.store })

/-! ## Hurdles by ID -/

def hurdleAt : Nat → Hurdle := fun _ => Hurdle.reset
def State.hurdle (s : State) (h : Hid) : Hurdle := smGet hurdleAt s.hurdles h.toNat
def State.setHurdle (s : State) (h : Hid) (x : Hurdle) : State :=
  { s with hurdles := smSet hurdleAt s.hurdles h.toNat x }

/-! ## Registers: the copies, their fields and their counters -/

/-- The active copy of a register (R44). -/
def State.act (s : State) (off : Nat) : W32 := smGet regReset s.regs off
def State.setAct (s : State) (off : Nat) (v : W32) : State := { s with regs := smSet regReset s.regs off v }
/-- The shadow copy of a register with RWS fields (R44). -/
def State.shad (s : State) (off : Nat) : W32 := smGet regReset s.shadow off
def State.setShad (s : State) (off : Nat) (v : W32) : State := { s with shadow := smSet regReset s.shadow off v }
/-- A field of the active copy, as a number. -/
def State.fld (s : State) (off hi lo : Nat) : Nat := fieldOf (s.act off) hi lo
def State.setFld (s : State) (off hi lo v : Nat) : State := s.setAct off (withField (s.act off) hi lo v)
/-- A field of the shadow copy. -/
def State.shadFld (s : State) (off hi lo : Nat) : Nat := fieldOf (s.shad off) hi lo
/-- A register whose counter advances by n and saturates at all ones. -/
def State.bump (s : State) (off n : Nat) : State := s.setAct off (BitVec.ofNat 32 (min ((s.act off).toNat + n) 0xFFFFFFFF))
/-- A register whose counter advances by n and wraps. -/
def State.bumpWrap (s : State) (off n : Nat) : State := s.setAct off (s.act off + BitVec.ofNat 32 n)
/-- A field whose counter saturates. -/
def State.bumpFld (s : State) (off hi lo n : Nat) : State :=
  s.setFld off hi lo (min (s.fld off hi lo + n) (2 ^ (hi + 1 - lo) - 1))
/-- A pair of registers, low word first, as one number (R9). -/
def State.pair (s : State) (off : Nat) : Nat := (s.act off).toNat + (s.act (off + 4)).toNat * 2 ^ 32
def State.setPair (s : State) (off v : Nat) : State :=
  (s.setAct off (BitVec.ofNat 32 v)).setAct (off + 4) (BitVec.ofNat 32 (v / 2 ^ 32))

/-- A free value, and the state with the next one due (notes/assumptions/3). -/
def State.fresh (s : State) : W64 × State := (Config.freeWord s.free, { s with free := s.free + 1 })

/-- n free bytes (notes/assumptions/3). -/
def State.freshBytes (s : State) : Nat → State × List Byte
  | 0 => (s, [])
  | n + 1 =>
    let r := s.fresh
    let t := State.freshBytes r.2 n
    (t.1, r.1.setWidth 8 :: t.2)

/-- The package ID of this package, the active value of set 12 (GLB_PKG). -/
def State.pkg (s : State) : BitVec 16 := BitVec.ofNat 16 (s.fld Reg.LNK_PKGID 15 0)

/-- Bit i of a number. -/
def bit (n i : Nat) : Bool := n / 2 ^ i % 2 = 1

def State.ctx (s : State) (x : CtxId) : Ctx := vget s.ctxs x
def State.modCtx (s : State) (x : CtxId) (f : Ctx → Ctx) : State := { s with ctxs := vmod s.ctxs x f }
def State.part (s : State) (p : CoreId) : Part := vget s.parts p
def State.modPart (s : State) (p : CoreId) (f : Part → Part) : State := { s with parts := vmod s.parts p f }
def State.fn (s : State) (f : FnId) : Fn := vget s.fns f
def State.modFn (s : State) (f : FnId) (g : Fn → Fn) : State := { s with fns := vmod s.fns f g }

/-- The PTB is at least at an instant: what an event due then says of the time. A PTB that was restored ahead of its partners is
held (R36). -/
def State.atTime (s : State) (t : W64) : State :=
  { s with ptb := if s.ptb.toNat < t.toNat && !s.psc.ahead then t else s.ptb }

/-- The cores, in ascending order. -/
def allCores : List CoreId := [0, 1, 2, 3, 4, 5, 6, 7]
def allSeqs : List SeqId := [.F, .B, .U]

/-- The cores of a partition, the active CORES field (R398). -/
def State.partCores (s : State) (p : CoreId) : List CoreId :=
  allCores.filter (fun c => bit (s.fld (Reg.SCH_PCFG p) 23 16) c)

/-- The cores a context is bound to (R124). -/
def State.boundCores (s : State) (x : CtxId) : List CoreId := allCores.filter (fun c => (s.core c).ctx = some x)

/-- The partition a core belongs to, if any valid one (R398). -/
def State.partOf (s : State) (c : CoreId) : Option CoreId :=
  allCores.find? (fun p => s.fld (Reg.SCH_PCFG p) 31 31 = 1 && bit (s.fld (Reg.SCH_PCFG p) 23 16) c)


/-- A core is in Idle (R474). -/
def State.coreIdle (s : State) (c : CoreId) : Bool := bit (s.fld Reg.PSC_STATUS 7 0) c

/-! ## Commits that blocks wait for (R50) -/

/-- A commit of a set is pending (CSET_PENDING). -/
def State.setPending (s : State) (n : Nat) : Bool := bit (s.fld Reg.CSET_PENDING 15 0) n

/-- The commit set of the register at an offset, and the bits that are commit-shadowed. -/
def setAt (off : Nat) : Option Nat := (regAt off).bind (fun r => setOfReg r.1 r.2.1)
def rwsMask (off : Nat) : W32 := match regAt off with | some r => accMask r.2.1 [.rws] | none => 0

/-- A field of the shadow copy differs from the active copy. -/
def State.changes (s : State) (off : Nat) : Bool := (s.act off ^^^ s.shad off) &&& rwsMask off != 0

/-- A core's blocks hold, or go on to their apply points, for a pending commit of its set. -/
def State.coreHeld (s : State) (c : CoreId) : Bool := s.setPending (3 + c.val)

/-- A commit of set 2 is pending that changes a partition (R399). -/
def State.partHeld (s : State) (p : CoreId) : Bool :=
  s.setPending 2 && (s.changes (Reg.SCH_PCFG p) || s.changes (Reg.SCH_HEAT p) || s.changes (Reg.SCH_STOPLIM p))

/-- A slot or an index stream that neither runs nor is halted. -/
def Slot.still (z : Slot) : Bool := z.state != .running && z.state != .halted

/-- The apply points of the STR and GTH blocks of a core (R252): between two tag grants, and where STR_CFG changes, with no slot
or index stream RUNNING or HALTED. -/
def State.strReady (s : State) (c : CoreId) : Bool :=
  !s.changes (Reg.STR_CFG c) || ((s.core c).str.toList.all Slot.still && (s.core c).gth.toList.all Slot.still)

/-- The STR and GTH blocks of a core hold at their apply points: no tag is granted and nothing becomes RUNNING. -/
def State.strHeld (s : State) (c : CoreId) : Bool := s.coreHeld c && s.strReady c

/-- Fold over the indices of a range with a condition. -/
def forIdx (n : Nat) (p : Nat → Bool) (f : State → Nat → State) (s : State) : State :=
  (List.range n).foldl (fun s i => if p i then f s i else s) s

/-- The outcome of a command that only moves to a next state. -/
abbrev Out := Host.Outcome State Fault Refusal

/-- Both management dies claim the crown: neither acknowledges a package-level action, so none takes effect (R486, R488). -/
def State.twoCrowns (s : State) : Bool := s.crown.mw && s.crown.me

/-- A write of a register that is a package-level action waits, with later accesses of its block (R47), until one die holds the
crown. -/
def State.crownWrite (s : State) (off : Nat) (v : W32) (act : State → State) : State :=
  if s.twoCrowns then { s with posted := s.posted ++ [(0, off, v)] } else act s

/-- Tags of the stream engine that the HBM copies of the stash hold (R283): those of copies not yet written. -/
def Core.copyTags (k : Core) : List (Nat × Place) :=
  k.stashTags.filter (fun t => k.stashOps.any (fun a => a.uid = t.1) || k.stash.any (fun e => e.uid = t.1 && e.state = .moving))

/-! ## Progress of the engines (R435) -/

/-- Every context. -/
def allCtxs : List CtxId := (List.range 64).map (Fin.ofNat 64)

/-- The key of instance n of engine kind k: a core, a fabric die, or 64 times a function plus a queue; a sequencer has the time of its
stop request in itself. Instance 8 of kind 6 stands for the flash commands. -/
def wdKey (k n : Nat) : Nat := k * 1024 + n

/-- Since when the watchdog of an engine counts. -/
def State.progressAt (s : State) (k n : Nat) : W64 := smGet (fun _ => 0) s.progress (wdKey k n)

/-- An engine makes progress: its watchdog returns to zero. -/
def State.beat (s : State) (k n : Nat) : State := { s with progress := smSet (fun _ => 0) s.progress (wdKey k n) s.ptb }

/-- An engine is given work: its watchdog begins to count if it held none. -/
def State.rouse (s : State) (k n : Nat) (held : Bool) : State := if held then s else s.beat k n

/-- The array holds work: a command at the head of its queue, or a pass in the edges. -/
def Core.arrHolds (e : Core) : Bool := !e.arr.queue.isEmpty || !e.arr.passes.isEmpty

/-- A slot of a stream or gather engine that holds a tag, or has a request in its window while it runs; not one that is HALTED (R436). -/
def slotHolds (z : Slot) : Bool :=
  z.state != .halted && (z.reqs.any (fun r => r.st != .window) || (z.state = .running && !z.reqs.isEmpty))

/-- The stream or the gather engine holds work; an XRCHECK at the head of the gather queue is work too. -/
def Core.lineHolds (e : Core) (gth : Bool) : Bool :=
  if gth then e.gth.toList.any slotHolds || (match e.gthQ.head? with | some (.xrcheck _ _) => true | _ => false)
  else e.str.toList.any slotHolds

/-- The row engine holds work that does not wait under the stash rules (R436). -/
def Core.rowHolds (e : Core) : Bool := !e.rowQ.isEmpty && e.rowStallAt.isNone

/-- A DATA or ROWS message of a relay engine is unacknowledged. -/
def Rel.holds (e : Rel) : Bool := e.cmds.any (fun r => !r.unacked.isEmpty || r.rowsOut != 0)

/-- A context whose capture or restore the split engine of a die runs, its partition's (notes/assumptions/26). -/
def State.splitHolds (s : State) (n : Nat) (x : CtxId) : Bool :=
  (s.ctx x).part.val = n && ((match (s.ctx x).take with | some k => !k.unacked.isEmpty | none => false) || (s.ctx x).restore.isSome)

end Sys2Proof.Machine
end

