-- ==== Sys2Proof/Machine/Events.lean ====
section
/-! DEFINITION. Raising an event or a fault record (R384 to R390): the record, the queues it goes to, its vector, and the
SMBus alert entry (R397). -/

namespace Sys2Proof.Machine
open Sys2Proof

/-- An item a record carries (R388): a whole word, a program counter, or a value of stated width. -/
inductive Item where
  | word (v : Nat)
  | small (width v : Nat)
  deriving DecidableEq, Repr

/-- Put an item into ARG0 and ARG1 (R388): a whole word takes the next fresh word; the others are packed upward from
bit 0 of the first word with room; an item that fits in neither is not carried. -/
def packItem (a : (Nat × Nat) × (Nat × Nat)) : Item → (Nat × Nat) × (Nat × Nat)
  | .word v => if a.1.2 = 0 then ((v % 2 ^ 64, 64), a.2) else if a.2.2 = 0 then (a.1, (v % 2 ^ 64, 64)) else a
  | .small w v =>
    if a.1.2 + w ≤ 64 then ((a.1.1 + v % 2 ^ w * 2 ^ a.1.2, a.1.2 + w), a.2)
    else if a.2.2 + w ≤ 64 then (a.1, (a.2.1 + v % 2 ^ w * 2 ^ a.2.2, a.2.2 + w)) else a

/-- ARG0 and ARG1 of a list of items (R388). -/
def packItems (is : List Item) : Nat × Nat :=
  let r := is.foldl packItem ((0, 0), (0, 0))
  (r.1.1, r.2.1)

/-- The subject of a record: its context, core and sequencer, where it names them (R386). -/
structure Subject where
  ctx : Option CtxId
  core : Option CoreId
  seq : Option SeqId
  deriving DecidableEq, Repr

def noSubject : Subject := ⟨none, none, none⟩

/-- Words 0 to 3 of a record with PHASE zero (R386). -/
def recordWords (e : EvName) (fault : Bool) (sub : Subject) (vf : Nat) (ptb : W64) (is : List Item) : List Nat :=
  let w0 := (if fault then 2 ^ 62 else 0)
    + (match sub.ctx with | some x => 2 ^ 61 + x * 2 ^ 52 | none => 0)
    + (match sub.core with | some c => 2 ^ 51 + c * 2 ^ 48 | none => 0)
    + (match sub.seq with | some .F => 0 | some .B => 2 ^ 46 | some .U => 2 * 2 ^ 46 | none => 3 * 2 ^ 46)
    + e.index.toNat * 2 ^ 32 + e.block.toNat * 2 ^ 24 + vf % 2 ^ 16
  let a := packItems is
  [w0, ptb.toNat, a.1, a.2]

/-- Write 64-bit numbers to host memory from an address. -/
def State.hostWords (s : State) (a : Nat) : List Nat → State
  | [] => s
  | w :: t => State.hostWords { s with host := Mem.writeN s.host a w 8 } (a + 8) t

/-- What an unlisted byte of an MSI-X Table reads as: zero, but for the mask bit of each entry (notes/assumptions/8). -/
def msixByte : Nat → Byte := fun a => if a % 16 = 12 then 1 else 0

/-- Send a vector of a function: the message, unless the Table masks the entry, which sets its PBA bit (R389, R390). -/
def State.sendVector (s : State) (f : FnId) (v : Nat) : State :=
  if (smGet msixByte (s.fn f).msixTab (16 * v + 12)).getLsbD 0
  then s.modFn f (fun x => { x with pba := smSet (fun _ => false) x.pba v true })
  else { s with msix := s.msix ++ [(f, v)] }

/-- Vector 0 of a function after a record, at most once per MOD_US (R385). -/
def State.sendVector0 (s : State) (f : FnId) : State :=
  if s.fld (Reg.HIF_FN_EQ_CFG f) 15 0 = 0 then s.sendVector f 0
  else if (s.fn f).modBusy then s.modFn f (fun x => { x with modHeld := true })
  else (s.sendVector f 0).modFn f (fun x => { x with modBusy := true, modAt := s.ptb })

/-- Event queue of a function: enabled, its slots, and how many are free, judged against EQ_HEAD (R385). -/
def State.eqOn (s : State) (f : FnId) : Bool := (s.fn f).eqEn
def State.eqSize (s : State) (f : FnId) : Nat := 2 ^ s.fld (Reg.HIF_FN_EQ_CFG f) 24 20
def State.eqFree (s : State) (f : FnId) : Nat := s.eqSize f - ((s.fn f).eqCount - (s.fn f).eqHead).toNat

/-- Write a record into the next slot of an event queue, with its PHASE (R385). -/
def State.eqPut (s : State) (f : FnId) (ws : List Nat) : State :=
  let n := (s.fn f).eqCount.toNat
  let phase := if n / s.eqSize f % 2 = 0 then 2 ^ 63 else 0
  let at_ := s.pair (Reg.HIF_FN_EQ_BASE_LO f) + n % s.eqSize f * 32
  ((s.hostWords at_ (match ws with | w :: t => (w + phase) :: t | [] => [])).modFn f
    (fun x => { x with eqCount := x.eqCount + 1 }))

/-- The function that serves a partition (R374). -/
def vfOf (p : CoreId) : FnId := ⟨p.val + 1, by omega⟩

/-- An SMBus alert entry for a record whose block is set in SMB_ALERT_MASK (R397). -/
def State.smbAlert (s : State) (e : EvName) : State :=
  if bit (s.act Reg.SMB_ALERT_MASK).toNat e.block.toNat then
    if s.alerts.length < 16 then { s with alerts := s.alerts ++ [(e.block, e.index)] }
    else s.bump Reg.SMB_ALERT_DROP 1
  else s

/-- HIF_PF_EQ_MASK keeps the records of an event's block out of the PF's queue (R384). -/
def State.pfMasked (s : State) (e : EvName) : Bool := bit (s.act Reg.HIF_PF_EQ_MASK).toNat e.block.toNat

/-- Records of a function's queue have been dropped, and two of its slots are free again (R385). -/
def State.overflowDue (s : State) (f : FnId) : Bool := s.eqOn f && s.act (Reg.HIF_FN_EQ_DROP f) != 0 && 2 ≤ s.eqFree f

/-- The HIF_EQ_OVERFLOW record of a function's queue, and the state with its count reset and its SMBus alert (R385, R397). -/
def State.overflowRec (s : State) (f : FnId) : List Nat × State :=
  (recordWords .hifEqOverflow false noSubject (if f.val = 0 then 0 else 2 ^ f.val) s.ptb [.word (s.act (Reg.HIF_FN_EQ_DROP f)).toNat],
    (s.setAct (Reg.HIF_FN_EQ_DROP f) 0).smbAlert .hifEqOverflow)

/-- A record goes to a queue with two free slots, or is counted as dropped (R384, R385). -/
def State.eqTry (s : State) (f : FnId) (ws : List Nat) : State × Bool :=
  if s.eqOn f && 2 ≤ s.eqFree f then (s.eqPut f ws, true) else (s.bump (Reg.HIF_FN_EQ_DROP f) 1, false)

/-- The overflow record of the PF's own queue comes first, unless it is masked (R384, R385). -/
def State.eqFlushPf (s : State) : State :=
  if !s.overflowDue 0 then s else
  let r := s.overflowRec 0
  if s.pfMasked .hifEqOverflow then r.2 else (r.2.eqPut 0 r.1).sendVector0 0

/-- Every record goes to the PF's queue, unless its block is masked, with its vector (R384, R390). -/
def State.toPf (s : State) (e : EvName) (ws : List Nat) : State :=
  if s.pfMasked e then s else
  let r := s.eqFlushPf.eqTry 0 ws
  if r.2 then r.1.sendVector0 0 else r.1

/-- The HIF_EQ_OVERFLOW record that comes first when two slots are free and records have been dropped (R385): in the queue itself,
and for a VF's queue in the PF's too (R384). -/
def State.eqFlush (s : State) (f : FnId) : State :=
  if f.val = 0 then s.eqFlushPf
  else if !s.overflowDue f then s else
  let r := s.overflowRec f
  ((r.2.eqPut f r.1).sendVector0 f).toPf .hifEqOverflow r.1

/-- Offer a record to a function's event queue: written, or counted as dropped (R384, R385). -/
def State.eqOffer (s : State) (f : FnId) (ws : List Nat) : State × Bool := (s.eqFlush f).eqTry f ws

/-- Raise an event or a fault: to the PF's queue unless HIF_PF_EQ_MASK masks its block, and to the queue of its context's
partition (R384), with the vectors of R390. -/
def State.raiseRec (s : State) (e : EvName) (fault : Bool) (sub : Subject) (vf : Nat) (is : List Item) : State :=
  let ws := recordWords e fault sub vf s.ptb is
  let s := (s.smbAlert e).toPf e ws
  match sub.ctx with
  | none => s
  | some x =>
    let f := vfOf (s.ctx x).part
    let r := s.eqOffer f ws
    if r.2 then
      match fault, sub.core with
      | true, some c => r.1.sendVector f (73 + c)
      | _, _ => r.1.sendVector0 f
    else r.1

/-- An event without a context, core or VF. -/
def State.event (s : State) (e : EvName) (is : List Item) : State := s.raiseRec e false noSubject 0 is
/-- An event that names a context. -/
def State.ctxEvent (s : State) (e : EvName) (x : CtxId) (is : List Item) : State :=
  s.raiseRec e false ⟨some x, none, none⟩ 0 is
/-- An event of a core, with its bound context. -/
def State.coreEvent (s : State) (e : EvName) (c : CoreId) (q : Option SeqId) (is : List Item) : State :=
  s.raiseRec e false ⟨(s.core c).ctx, some c, q⟩ 0 is
/-- An HIF event that concerns functions, bit v for VF v (R386). -/
def State.hifEvent (s : State) (e : EvName) (f : FnId) (is : List Item) : State :=
  s.raiseRec e false noSubject (if f.val = 0 then 0 else 2 ^ f.val) is

/-! ## Command queues (R377 to R381) -/

def allFns : List FnId := [0, 1, 2, 3, 4, 5, 6, 7, 8]
def noQueue : Nat → Option Queue := fun _ => none
def State.queue (s : State) (f : FnId) (q : Nat) : Option Queue := smGet noQueue (s.fn f).queues q
def State.setQueue (s : State) (f : FnId) (q : Nat) (x : Option Queue) : State :=
  s.modFn f (fun n => { n with queues := smSet noQueue n.queues q x })
def State.modQueue (s : State) (f : FnId) (q : Nat) (g : Queue → Queue) : State :=
  match s.queue f q with | some x => s.setQueue f q (some (g x)) | none => s

/-- Statuses of R380. -/
def stOk : BitVec 8 := 0
def stBadOpcode : BitVec 8 := 1
def stBadField : BitVec 8 := 2
def stDenied : BitVec 8 := 3
def stFault : BitVec 8 := 4
def stUncorrectable : BitVec 8 := 5
def stPoisoned : BitVec 8 := 6
def stTimeout : BitVec 8 := 7
def stAborted : BitVec 8 := 8
def stHostError : BitVec 8 := 9
def stPeerLost : BitVec 8 := 10

/-- Decide the status of a running command that has none yet. -/
def State.cmdStatus (s : State) (f : FnId) (q : Nat) (idx : W32) (st : BitVec 8) : State :=
  s.modQueue f q (fun x => { x with running := x.running.map (fun r =>
    if r.idx = idx && r.status.isNone then { r with status := some st } else r) })

/-- Every running command of every queue, with a function over it. -/
def State.mapRunning (s : State) (g : RunCmd → RunCmd) : State :=
  { s with fns := s.fns.map (fun n => { n with queues := n.queues.map (fun kv =>
      (kv.1, kv.2.map (fun x => { x with running := x.running.map g }))) }) }

end Sys2Proof.Machine
end

