-- ==== Sys2Proof/Machine/Discard.lean ====
section
/-! DEFINITION. How a speculation window is resolved: the discard of R163, the record of how the cores of a partition
resolve one opening and the exchange of SHADOW windows (R264), and the discards that a stop makes (R155). -/

namespace Sys2Proof.Machine
open Sys2Proof

/-- Whether a hurdle is bound to a window (HRD_CTL.WINDOW). -/
def boundTo (h : Hurdle) (w : Fin 2) : Bool := h.window.toNat == w.val + 1

def otherWin (w : Fin 2) : Fin 2 := if w = 0 then 1 else 0

/-- A window that a discard acts on (R162). -/
def discardable (z : Win) : Bool := z.state == .open_ || z.state == .commitPending

/-! ## Regions, and MEM windows paired for speculation (R142, R264) -/

/-- The region table's fields, active copies (R142). -/
def State.regBase (s : State) (c : CoreId) (j : Nat) : Nat := s.fld (Reg.STORE_BASE c j) 13 0 * 65536
def State.regSize (s : State) (c : CoreId) (j : Nat) : Nat := s.fld (Reg.STORE_SIZE c j) 14 0 * 65536
def State.regKind (s : State) (c : CoreId) (j : Nat) : Nat := s.fld (Reg.STORE_ATTR c j) 31 28
def State.regCtx (s : State) (c : CoreId) (j : Nat) : Nat := s.fld (Reg.STORE_ATTR c j) 27 22

def State.memWinKind (s : State) (i : Nat) : Nat := s.fld (Reg.MEM_WIN_ATTR i) 31 29
def State.memWinPart (s : State) (i : Nat) : Nat := s.fld (Reg.MEM_WIN_ATTR i) 27 25

/-- Exchange two registers in both copies. -/
def State.swapRegs (s : State) (a b : Nat) : State :=
  let s1 := (s.setAct a (s.act b)).setAct b (s.act a)
  (s1.setShad a (s.shad b)).setShad b (s.shad a)

/-! ## Redirection fixed at issue (R160) -/

/-- The descriptor that holds a descriptor's base as it was at issue. -/
def movedTo {n : Nat} (m : List (Fin n × Fin n)) (k : Fin n) : Fin n :=
  match m.find? (fun e => e.1 = k) with | some e => e.2 | none => k

/-- The list after the bases of two descriptors have been exchanged. -/
def moveBase {n : Nat} (m : List (Fin n × Fin n)) (i j : Fin n) : List (Fin n × Fin n) :=
  (List.finRange n).filterMap (fun k =>
    let d := movedTo m k
    let d := if d = i then j else if d = j then i else d
    if d = k then none else some (k, d))

/-- A change of what every slot and index stream of a core has been given. -/
def Core.mapRearms (k : Core) (f : Rearm → Rearm) : Core :=
  let g (z : Slot) : Slot := { z with cur := f z.cur, pend := z.pend.map f }
  { k with str := k.str.map g, gth := k.gth.map g }

/-- The exchange of every SHADOW window of a partition and speculation window with its pair (R264): the BASE fields,
in both copies of set 11. Streams issued before it go on as issued (R160). -/
def State.exchangeMem (s : State) (p : CoreId) (w : Fin 2) : State :=
  forIdx 64 (fun i => s.memWinKind i == 2 && s.memWinPart i == p && s.fld (Reg.MEM_WIN_ATTR i) 24 24 == w)
    (fun s i =>
      let j := s.fld (Reg.MEM_WIN_ATTR i) 23 18
      let s := (s.swapRegs (Reg.MEM_WIN_BASE_LO i) (Reg.MEM_WIN_BASE_LO j)).swapRegs (Reg.MEM_WIN_BASE_HI i) (Reg.MEM_WIN_BASE_HI j)
      (s.partCores p).foldl (fun s c => s.modCore c (fun k => k.mapRearms (fun r =>
        { r with movedMem := moveBase r.movedMem (Fin.ofNat 64 i) (Fin.ofNat 64 j) }))) s) s

def State.specRes (s : State) (p : CoreId) (w : Fin 2) : SpecRes := vget (vget s.spec p) w
def State.setSpecRes (s : State) (p : CoreId) (w : Fin 2) (r : SpecRes) : State :=
  { s with spec := vmod s.spec p (fun v => vset v w r) }

/-- A core resolves its opening of a window (R264): a mixture raises MEM_SPEC_MIXED once; when the last core of the
partition has resolved it, an opening committed everywhere exchanges the pairs. -/
def State.noteResolved (s : State) (x : CtxId) (c : CoreId) (w : Fin 2) (commit : Bool) : State :=
  let p := (s.ctx x).part
  let r := s.specRes p w
  let r : SpecRes := if commit then { r with committed := r.committed ++ [c] } else { r with discarded := r.discarded ++ [c] }
  let mixed := !r.committed.isEmpty && !r.discarded.isEmpty
  let s := if mixed && !r.mixed then s.ctxEvent .memSpecMixed x [.small 4 w] else s
  let r := { r with mixed := r.mixed || mixed }
  if (s.partCores p).all (fun d => r.committed.contains d || r.discarded.contains d) then
    (if r.discarded.isEmpty then s.exchangeMem p w else s).setSpecRes p w ⟨[], [], false⟩
  else s.setSpecRes p w r

/-! ## Discard (R163) -/

/-- Whether an origin lies in one of the windows. -/
def inWins (ws : List (Fin 2)) (o : Option (Fin 2)) : Bool := match o with | some w => ws.contains w | none => false

/-- A slot of a discarded window: CANCELLED, with no further request and no write anywhere; a re-arm of the window that is
pending is dropped (R163, R237). -/
def dropSlot (ws : List (Fin 2)) (z : Slot) : Slot :=
  let z := match z.pend with | some r => if inWins ws r.org.win then { z with pend := none } else z | none => z
  if inWins ws z.cur.org.win && z.state != .idle && z.state != .done && z.state != .cancelled then
    { z with state := .cancelled, pend := none, halting := none, prg := false,
             reqs := if bitsOf (word z.cur.desc 0).toNat 63 62 = 1 then [] else z.reqs.filter (fun r => r.st = .sent) }
  else z

/-- Clear the shadow sentinel of a window (R111). -/
def State.clearSpecSentinel (s : State) (c : CoreId) (w : Fin 2) : State :=
  if w = 0 then s.setFld (Reg.ARR_SENTINEL c) 12 8 0 else s.setFld (Reg.ARR_SENTINEL c) 20 16 0

/-- A resolution of a window at the hurdles of the context bound to it (R163): a discard restores a hurdle that holds a
recorded base, and either clears the record. -/
def State.resolveHurdles (s : State) (x : CtxId) (w : Fin 2) (commit : Bool) : State :=
  s.hurdles.foldl (fun s kv =>
    let h := kv.2
    if h.owner = x && boundTo h w && h.specRec then
      s.setHurdle (BitVec.ofNat 12 kv.1)
        (if commit then { h with specRec := false }
         else { h with state := .armed, count := 0, releases := h.specBase, specRec := false })
    else s) s

/-- What a discard removes from the engines of a core. -/
def dropWork (ws : List (Fin 2)) (k : Core) : Core :=
  { k with
    arr := { k.arr with
      xing := k.arr.xing.filter (fun a => !inWins ws a.org.win)
      queue := k.arr.queue.filter (fun a => !inWins ws a.org.win)
      passes := k.arr.passes.filter (fun a => !inWins ws a.org.win)
      bank := k.arr.bank.map (fun b => if inWins ws b.win then Bank.reset else b)
      headStall := k.arr.headStall && !(match k.arr.queue with | a :: _ => inWins ws a.org.win | [] => false) }
    rowQ := k.rowQ.filter (fun a => !inWins ws a.org.win)
    stats := k.stats.filter (fun e => !inWins ws e.win)
    str := k.str.map (dropSlot ws)
    gth := k.gth.map (dropSlot ws)
    stash := k.stash.filter (fun e => !inWins ws e.win)
    stashOps := k.stashOps.filter (fun e => !inWins ws e.org.win)
    gthQ := k.gthQ.filter (fun g => match g with
      | .gather j => !inWins ws (vget k.gth j).cur.org.win
      | .xrcheck _ o => !inWins ws o.win) }

/-- The contents of the SHADOW regions of a window are undefined after its discard (R163). -/
def State.freeShadow (s : State) (c : CoreId) (x : CtxId) (w : Fin 2) : State :=
  (List.range 16).foldl (fun s j =>
    if s.regKind c j == 4 && s.fld (Reg.STORE_ATTR c j) 21 21 == w && s.regCtx c j == x then
      let b := s.freshBytes (s.regSize c j)
      b.1.modStore c (fun m => Mem.setBytes m (s.regBase c j) b.2)
    else s) s

/-! ## What a release of stash space starts (R286, R291, R292) -/

/-- Keys that reference a slot of an entry of the generation table (R291): those of its context and layer whose GEN is a
generation of the entry that lives in the slot. -/
def Core.genRefs (k : Core) (e : GenEntry) (slot : Nat) : Nat :=
  let g : BitVec 16 := if e.cur.toNat % 2 = slot then e.cur else if e.prov then e.cur + 1 else e.cur - 1
  (k.stash.filter (fun y => y.ctx = e.ctx && y.layer = e.layer && y.gen = g)).length

/-- A rejected provisional generation is abandoned once nothing references it (R292). -/
def Core.settleGens (k : Core) : Core :=
  { k with gens := k.gens.map (fun e =>
      if e.rejected && k.genRefs e ((e.cur + 1).toNat % 2) = 0 then { e with prov := false, rejected := false } else e) }

/-- A stop of the context of a core is pending (R154). -/
def State.stopPending (s : State) (c : CoreId) : Bool :=
  match (s.core c).ctx with
  | some x => (s.ctx x).state = .stopping || (s.ctx x).stopFor != .none
  | none => false

/-- Stash pages or directory entries have been freed on a core (R286): the stall timers restart, unless a stop of the
context is pending. -/
def State.stashFreed (s : State) (c : CoreId) : State :=
  s.modCore c (fun k =>
    let k := k.settleGens
    if s.stopPending c then k
    else { k with stallAt := k.stallAt.map (fun _ => s.ptb), rowStallAt := k.rowStallAt.map (fun _ => s.ptb) })

/-- An arrival on its way of a window of a core that is discarded. -/
def ofWins (c : CoreId) (ws : List (Fin 2)) (a : Arrival) : Bool :=
  match a.src with | .ctx _ w (.feed d) => d = c && inWins ws w | _ => false

/-- SEQ-F at the beginning of a discard: one that has reached END in the window goes back with it, to the stop that is
pending, if there is one (R155, R163). -/
def State.discardSeq (s : State) (x : CtxId) (z : Seq) : Seq :=
  { z with win := none, stalled := false, bankWait := false, genStall := false, ahead := none
           state := if z.state != .ended then z.state
             else if (s.ctx x).stopFor = .hold then .held
             else if (s.ctx x).state = .stopping then .stopped else .run }

/-- A discard begins (R163): the window and a younger open window lose their work, arrivals that are on their way among it
(DESIGN CHOICE, notes/assumptions/76), and SEQ-F issues nothing until the discard completes. -/
def State.beginDiscard (s : State) (x : CtxId) (c : CoreId) (w : Fin 2) : State :=
  let v := otherWin w
  let ws := w :: (if (s.win c v).younger && discardable (s.win c v) then [v] else [])
  let s := (s.modCore c (dropWork ws)).stashFreed c
  let s := { s with arrivals := s.arrivals.filter (fun a => !ofWins c ws a) }
  let s := ws.foldl (fun s w =>
    (((((s.clearSpecSentinel c w).resolveHurdles x w false).modWin c w (fun z =>
      { z with state := .closed, heldArr := [] }))).noteResolved x c w false).freeShadow c x w) s
  (s.modWin c w (fun z => { z with discarding := true })).modSeq c .F (s.discardSeq x)

/-- The windows of a core that a stop discards, the oldest first: discarding it discards a younger one with it (R155). -/
def State.stopDiscard (s : State) (x : CtxId) (c : CoreId) : State :=
  let one (s : State) (w : Fin 2) : State := if discardable (s.win c w) then s.beginDiscard x c w else s
  if (s.win c 0).younger then one (one s 1) 0 else one (one s 0) 1

/-- All three sequencers of a core are stopped or have executed END, and a stop of its context is requested (R154). -/
def State.coreStopped (s : State) (c : CoreId) : Bool :=
  allSeqs.all (fun q => match (s.seq c q).state with | .stopped | .held | .ended => true | _ => false)
    && (s.stopPending c || allSeqs.any (fun q => match (s.seq c q).state with | .stopped | .held => true | _ => false))

/-- A stop takes effect on each core of a context whose sequencers have all stopped (R154, R155). -/
def State.settleStop (s : State) (x : CtxId) : State :=
  (s.boundCores x).foldl (fun s c => if s.coreStopped c then s.stopDiscard x c else s) s

end Sys2Proof.Machine
end

