-- ==== Sys2Proof/Machine/Faults.lean ====
section
/-! DEFINITION. The end of a turn (R403, R406) and the fault of a sequencer's instruction (R166), which every block's
faults go through; and HOLD (R158). -/

namespace Sys2Proof.Machine
open Sys2Proof

/-- The signed credit of a context kept in 32 bits, in ns (SCH_CTX_CREDIT). -/
def clampCredit (z : Int) : Int := max (-(2 ^ 31)) (min z (2 ^ 31 - 1))

/-- A turn ends: the used time is charged and the overrun recorded (R403, R406). -/
def State.endTurn (s : State) (p : CoreId) : State :=
  let pt := s.part p
  match pt.turn, pt.running with
  | true, some x =>
    let used := (s.ptb - pt.turnStart).toNat
    let late := s.ptb.toNat - pt.heatEnd.toNat
    (s.modCtx x (fun k => { k with
        credit := clampCredit (min (k.credit - used) 0)
        overrun := BitVec.ofNat 32 (min late 0xFFFFFFFF)
        run := k.run + BitVec.ofNat 64 used })).modPart p (fun q => { q with turn := false })
  | _, _ => s

/-- The SSTs of a sequencer that stand issued are written: before its next instruction issues (R127,
R132), and where it issues no more. -/
def State.landSst (s : State) (c : CoreId) (q : SeqId) : State :=
  let z := s.seq c q
  (s.modStore c (fun m => z.sst.foldl (fun m a => Mem.writeN m a.1 a.2.toNat 8) m)).setSeq c q { z with sst := [] }

/-- Stop issue in every sequencer of a context on every core it is bound to (R166); the SSTs issued are written (R132). -/
def State.stopIssue (s : State) (x : CtxId) : State :=
  (s.boundCores x).foldl (fun s c =>
    allSeqs.foldl (fun s q =>
      (s.landSst c q).modSeq c q (fun z => if z.state = .idle then z else { z with state := .faulted })) s) s

/-- CTX_SUSPEND commands of a context that can no longer be saved complete with ABORTED. -/
def State.abortSuspends (s : State) (x : CtxId) : State :=
  ((s.ctx x).suspendCmds.foldl (fun s a => s.cmdStatus a.1 a.2.1 a.2.2 stAborted) s).modCtx x (fun k => { k with suspendCmds := [] })

/-- A fault of the instruction an engine command or an issue came from (R166): issue stops on every core of the
context, the program counter and the code are recorded, the record is posted, and the context is FAULTED (R400). -/
def State.seqFault (s : State) (o : Origin) (e : EvName) (is : List Item) : State :=
  let s := s.stopIssue o.ctx
  let s := s.setAct (Reg.SEQ_FAULT o.core o.seq) (o.pc.setWidth 32)
  let s := s.setAct (Reg.SEQ_FAULT_CODE o.core o.seq) (e.code.setWidth 32)
  let s := s.raiseRec e true ⟨some o.ctx, some o.core, some o.seq⟩ 0 (.word o.pc.toNat :: is)
  match (s.ctx o.ctx).state with
  | .running | .stopping =>
    ((s.endTurn (s.ctx o.ctx).part).modCtx o.ctx (fun k => { k with state := .faulted, stopFor := .none, saving := false })).abortSuspends o.ctx
  | _ => s

/-- The code a hold cause takes in a record (notes/assumptions/14). -/
def HoldCause.code : HoldCause → Nat
  | .poisoned => 1 | .partnerLost => 2 | .hang => 3 | .oos => 4

/-- All three sequencers of every core of a context are held, ended or idle. -/
def State.allHeld (s : State) (x : CtxId) : Bool :=
  (s.boundCores x).all (fun c => allSeqs.all (fun q =>
    match (s.seq c q).state with | .held | .ended | .idle => true | _ => false))

/-- A held context is to be saved (R400): its sequencers stand at cheap points, so the stop is made. -/
def State.saveHeld (s : State) (x : CtxId) : State :=
  ((s.boundCores x).foldl (fun s c => allSeqs.foldl (fun s q =>
    s.modSeq c q (fun z => if z.state = .held then { z with state := .stopped, stopHold := false } else z)) s) s).modCtx x
    (fun k => { k with state := .stopping, stopFor := .suspend })

/-- A context whose sequencers are all held becomes HELD, and its turn ends (R400, R403). -/
def State.settleHold (s : State) (x : CtxId) : State :=
  let k := s.ctx x
  if (k.state = .running || k.state = .stopping) && k.stopFor = .hold && s.allHeld x then
    let s := (s.endTurn k.part).modCtx x (fun k => { k with state := .held, stopFor := .none, saving := false })
    if k.suspendCmds.isEmpty then s else s.saveHeld x
  else s

/-- Request a HOLD of a context: sequencers stop at their next cheap points and nothing is saved (R158). A sequencer
in WAIT is at a cheap point (R153). X_HOLD is raised once for the context. One that is READY is held in its next turn
(notes/assumptions/74); one in another state runs nothing to hold. -/
def State.requestHold (s : State) (x : CtxId) (cause : HoldCause) : State :=
  match (s.ctx x).state with
  | .running | .stopping =>
    let s := if (s.ctx x).holdRaised then s else
      (s.ctxEvent .xHold x [.small 8 cause.code]).modCtx x (fun k => { k with holdRaised := true })
    let s := s.modCtx x (fun k => { k with stopFor := .hold })
    let s := (s.boundCores x).foldl (fun s c =>
      allSeqs.foldl (fun s q =>
        s.modSeq c q (fun z => match z.state with
          | .run => { z with state := .stopping, stopHold := true, stopAt := s.ptb }
          | .stopping => { z with stopHold := true }
          | .wait | .stopped => { z with state := .held, stopHold := true }
          | _ => z)) s) s
    (s.settleStop x).settleHold x
  | .ready => if (s.ctx x).holdDue.isSome then s else s.modCtx x (fun k => { k with holdDue := some cause })
  | _ => s

end Sys2Proof.Machine
end

