-- ==== Sys2Proof/Machine/Operands.lean ====
section
/-! DEFINITION. The core store as instructions see it: regions, permissions, speculative redirection (R139, R140, R160),
and the operands of the word formats (R123, R169). -/

namespace Sys2Proof.Machine
open Sys2Proof

/-! ## Registers of a sequencer (R123) -/

def Seq.rs (z : Seq) (r : BitVec 5) : W64 := vget z.s r.toFin
def Seq.ra (z : Seq) (r : BitVec 4) : VAddr := vget z.a r.toFin
/-- p0 always reads 1. -/
def Seq.rp (z : Seq) (r : BitVec 3) : Bool := if r = 0 then true else vget z.p r.toFin
def Seq.ws (z : Seq) (r : BitVec 5) (v : W64) : Seq := { z with s := vset z.s r.toFin v }
def Seq.wa (z : Seq) (r : BitVec 4) (v : VAddr) : Seq := { z with a := vset z.a r.toFin v }
/-- A write of p0 is ignored. -/
def Seq.wp (z : Seq) (r : BitVec 3) (v : Bool) : Seq := if r = 0 then z else { z with p := vset z.p r.toFin v }

/-- A register field of 5 bits as an a-register, or as a p-register: in range or not (R170). -/
def aReg (r : BitVec 5) : Option (BitVec 4) := if r.toNat < 16 then some (r.setWidth 4) else none
def pReg (r : BitVec 5) : Option (BitVec 3) := if r.toNat < 8 then some (r.setWidth 3) else none

/-- The immediate, sign-extended to 64 bits (R169). -/
def immS (i : BitVec 32) : W64 := i.signExtend 64

/-! ## Regions (R139) -/

inductive AccKind where
  | read | write | exec
  deriving DecidableEq, Repr

/-- The permission bit of an access by a sequencer. -/
def permBit (q : SeqId) (k : AccKind) : Nat :=
  (match q with | .F => 0 | .B => 3 | .U => 6) + (match k with | .read => 0 | .write => 1 | .exec => 2)

/-- The kinds of region that allow an access: CODE is read and executed, DATA and STASH are read and written, and
SHADOW is reached by redirection alone (R139; notes/assumptions/15). -/
def kindAllows (kind : Nat) (k : AccKind) : Bool :=
  match kind, k with
  | 1, .read | 1, .exec | 2, .read | 2, .write | 3, .read | 3, .write => true
  | _, _ => false

/-- The region that wholly holds an extent and is the running context's, if there is one (R139). -/
def State.regionOf (s : State) (c : CoreId) (off len : Nat) : Option Nat :=
  (List.range 16).find? (fun j =>
    s.regKind c j != 0 && s.regBase c j ≤ off && off + len ≤ s.regBase c j + s.regSize c j
      && (match (s.core c).ctx with | some x => s.regCtx c j == x | none => false))

/-- A permitted access, with its region (R139). -/
def State.permitted (s : State) (c : CoreId) (q : SeqId) (k : AccKind) (off len : Nat) : Option Nat :=
  match s.regionOf c off len with
  | some j => if kindAllows (s.regKind c j) k && bit (s.act (Reg.STORE_ATTR c j)).toNat (permBit q k) then some j else none
  | none => none

/-- The SHADOW region of a window that pairs with a region (R139, R141). -/
def State.shadowOf (s : State) (c : CoreId) (w : Fin 2) (j : Nat) : Option Nat :=
  (List.range 16).find? (fun i =>
    s.regKind c i == 4 && s.fld (Reg.STORE_ATTR c i) 21 21 == w && s.fld (Reg.STORE_ATTR c i) 19 16 == j
      && s.regCtx c i == s.regCtx c j)

/-- The other window, when it is open and older (R159, R160). -/
def State.olderWin (s : State) (c : CoreId) (w : Fin 2) : Option (Fin 2) :=
  let v : Fin 2 := if w = 0 then 1 else 0
  if (s.win c v).state != .closed && (s.win c w).younger then some v else none

/-- Where an access goes: itself outside a window; in a window the table of R160. -/
def State.redirect (s : State) (c : CoreId) (win : Option (Fin 2)) (k : AccKind) (j off : Nat) : Except EvName Nat :=
  match win with
  | none => .ok off
  | some w =>
    match s.shadowOf c w j with
    | some i => .ok (off - s.regBase c j + s.regBase c i)
    | none =>
      if k = .write then .error .xSpecWrite else
      match (s.olderWin c w).bind (fun v => s.shadowOf c v j) with
      | some i => .ok (off - s.regBase c j + s.regBase c i)
      | none => .ok off

/-- An access of len bytes at a core-store offset (R140, R160): the offset it goes to, or X_REGION or X_SPEC_WRITE. An
empty extent is not checked (R54). -/
def State.access (s : State) (c : CoreId) (q : SeqId) (win : Option (Fin 2)) (k : AccKind) (off len : Nat) :
    Except EvName Nat :=
  if len = 0 then .ok off else
  match s.permitted c q k off len with
  | none => .error .xRegion
  | some j => s.redirect c win k j off

/-! ## Descriptors (R172, R174) -/

/-- The offset of a descriptor: s[SD][29:0] + DOFF. -/
def descOff (z : Seq) (sd : BitVec 5) (doff : Nat) : Nat := (z.rs sd).toNat % 2 ^ 30 + doff

/-- Read a descriptor of size bytes (R172): aligned, below 2^30, in a DATA or CODE region with read permission; in a
window under R160. -/
def State.readDesc (s : State) (c : CoreId) (q : SeqId) (win : Option (Fin 2)) (off size : Nat) :
    Except EvName (List W64) :=
  if off % size != 0 then .error .xAlign
  else if 2 ^ 30 ≤ off then .error .xRegion
  else match s.permitted c q .read off size with
    | none => .error .xRegion
    | some j =>
      if s.regKind c j = 1 || s.regKind c j = 2 then
        match s.redirect c win .read j off with
        | .ok a => .ok (Mem.words (s.core c).store a (size / 8))
        | .error e => .error e
      else .error .xRegion

/-- The descriptor an engine instruction works from: the copy read ahead for it, or a read now (R172, R173). -/
def State.takeDesc (s : State) (c : CoreId) (q : SeqId) (win : Option (Fin 2)) (off size : Nat) :
    Except EvName (List W64) :=
  match (s.seq c q).ahead with
  | some r => if r.pc = (s.seq c q).pc && r.at_ = off && r.words.length = size / 8 then .ok r.words else s.readDesc c q win off size
  | none => s.readDesc c q win off size

end Sys2Proof.Machine
end

