-- ==== Sys2Proof/Machine/Stride.lean ====
section
/-! DEFINITION. Stride programs (R219 to R226): their checks, their interpreter, and the lines of a run with the chunks they
belong to (R227, R232). -/

namespace Sys2Proof.Machine
open Sys2Proof

/-! ## Fields of a slot's descriptor (R217, R247) -/

def Slot.desc (z : Slot) : List W64 := z.cur.desc
/-- DIR: 1 STORE or SCATTER. -/
def Slot.isStore (z : Slot) : Bool := wbits z.desc 0 63 62 == 1
def Slot.hint (z : Slot) : Nat := wbits z.desc 0 61 60
def Slot.chunkHv (z : Slot) (gth : Bool) : Bool := wbits z.desc (if gth then 6 else 3) 43 43 == 1
def Slot.chunkHid (z : Slot) (gth : Bool) : Hid := BitVec.ofNat 12 (wbits z.desc (if gth then 6 else 3) 55 44)
/-- Chunk length: in 64 B units, or in rows. -/
def Slot.chunkLen (z : Slot) (gth : Bool) : Nat := wbits z.desc (if gth then 6 else 3) 31 0

/-- The chunk that the next store-side byte, or row, belongs to (R232). -/
def Slot.chunkOf (z : Slot) (gth : Bool) (made : Nat) : Nat :=
  let n := if gth then z.chunkLen gth else z.chunkLen gth * 64
  if n = 0 then 0 else made / n

/-! ## Operations of a stride program (R219, R220) -/

def StrideOp.code (o : StrideOp) : Nat := bitsOf o.w0.toNat 63 60
def StrideOp.b (o : StrideOp) : Nat := bitsOf o.w0.toNat 31 0
/-- A cursor of the interpreter: 64-bit signed, modulo 2^64 (R225). -/
def wrap64 (x : Int) : Int := (BitVec.ofInt 64 x).toInt
def signedOf (bits n : Nat) : Int := if 2 ^ (bits - 1) ≤ n then (n : Int) - 2 ^ bits else n
/-- Signed memory stride in bytes, and signed store stride in bytes. -/
def StrideOp.md (o : StrideOp) : Int := signedOf 40 (bitsOf o.w1.toNat 63 24)
def StrideOp.sd (o : StrideOp) : Int := signedOf 24 (bitsOf o.w1.toNat 23 0) * 64
def StrideOp.imm (o : StrideOp) : Int := signedOf 32 o.b
def StrideOp.bits (o : StrideOp) (hi lo : Nat) : Nat := bitsOf o.w0.toNat hi lo

/-- The fields an operation does not use are zero, and its values are not reserved (R221). -/
def StrideOp.wellFormed (o : StrideOp) : Bool :=
  match o.code with
  | 0 | 2 => o.bits 59 0 == 0 && o.w1 == 0
  | 1 => o.bits 59 32 == 0 && o.md % 64 == 0
  | 3 => o.bits 59 32 == 0 && o.w1 == 0 && o.b % 64 == 0
  | 4 => o.bits 59 34 == 0 && o.w1 == 0
  | 5 => o.bits 59 34 == 0 && o.b == 0 && o.bits 33 32 != 3 && o.md % 64 == 0
  | 6 => o.bits 50 36 == 0 && o.w1 == 0 && decide (o.bits 53 51 ≤ 5)
  | _ => false

/-- The open loops of a program from an operation on: a NEXT closes the innermost one; whether every check of R221 on
loops and SKIPs holds. `opens` are the indices of the open loops, innermost first. -/
def progLoops (n : Nat) : List StrideOp → Nat → List Nat → Bool
  | [], _, opens => opens.isEmpty
  | o :: t, i, opens =>
    match o.code with
    | 0 => opens.isEmpty
    | 1 => decide (opens.length < 6) && progLoops n t (i + 1) (i :: opens)
    | 2 => match opens with
      | [] => false
      | _ :: r => progLoops n t (i + 1) r
    | 6 =>
      let d := opens.length
      let covered := (t.take (o.bits 35 32)).map StrideOp.code
      -- Depth of loops opened within the covered operations; a NEXT below zero closes one opened before the SKIP.
      let closes := (covered.foldl (fun (a : Nat × Bool) k =>
        if k = 1 then (a.1 + 1, a.2) else if k = 2 then (a.1 - 1, a.2 || a.1 == 0) else a) (0, false)).2
      decide (o.bits 59 57 < d) && (decide (o.bits 56 54 < d) || o.bits 56 54 == 7) && !closes
        && decide (i + o.bits 35 32 < n) && progLoops n t (i + 1) opens
    | _ => progLoops n t (i + 1) opens

/-- A program up to its first END, or its 16 operations (R221). -/
def cutProg : List StrideOp → List StrideOp
  | [] => []
  | o :: t => if o.code = 0 then [o] else o :: cutProg t

/-- The operations of a program without its END. -/
def bodyLen (p : List StrideOp) : Nat := (p.filter (fun o => o.code != 0)).length

def progOk (p : List StrideOp) : Bool := p.all StrideOp.wellFormed && progLoops (bodyLen p) p 0 []

/-- Index just past the NEXT that matches a loop whose body starts at an operation (R222). -/
def pastNext (p : List StrideOp) : Nat → Nat → Nat → Nat
  | 0, i, _ => i
  | fuel + 1, i, depth =>
    match p[i]? with
    | none => i
    | some o =>
      if o.code = 2 then (if depth = 0 then i + 1 else pastNext p fuel (i + 1) (depth - 1))
      else if o.code = 1 then pastNext p fuel (i + 1) (depth + 1)
      else pastNext p fuel (i + 1) depth

/-- Where a SKIP over n operations from i goes (R225): a skipped LOOP is skipped with its NEXT. -/
def skipTo (p : List StrideOp) (i n : Nat) : Nat :=
  (List.range n).foldl (fun e k =>
    match p[i + k]? with
    | some o => if o.code = 1 then max e (pastNext p 16 (i + k + 1) 0) else e
    | none => e) (i + n)

/-- The index of a loop level (R225): level 7 is 0. -/
def GenPos.idx (g : GenPos) (l : Nat) : Int :=
  if l = 7 then 0 else match g.loops.reverse[l]? with | some r => r.i | none => 0

/-- The test of a SKIP. -/
def skipTest (cmp : Nat) (a b : Int) : Bool :=
  match cmp with
  | 0 => a == b | 1 => a != b | 2 => decide (a < b) | 3 => decide (b ≤ a) | 4 => decide (b < a) | _ => decide (a ≤ b)

/-- One operation that moves nothing (R222, R223, R225, R226); none at an EMIT or a TURN, or at the end. -/
def GenPos.control (p : List StrideOp) (g : GenPos) : Option GenPos :=
  match p[g.pc]? with
  | none => none
  | some o =>
    match o.code with
    | 1 =>
      if o.b = 0 then some { g with pc := pastNext p 16 (g.pc + 1) 0 }
      else some { g with loops := ⟨g.pc, o.b, 0, g.mo, g.so, o.md, o.sd⟩ :: g.loops, pc := g.pc + 1 }
    | 2 =>
      match g.loops with
      | [] => none
      | r :: t =>
        let i := r.i + 1
        if i < r.count then
          some { g with loops := { r with i := i } :: t, mo := wrap64 (r.mo + i * r.md), so := wrap64 (r.so + i * r.sd), pc := r.pc + 1 }
        else some { g with loops := t, mo := r.mo, so := r.so, pc := g.pc + 1 }
    | 3 => if o.b = 0 then some { g with pc := g.pc + 1 } else none
    | 4 =>
      let g := if o.bits 32 32 = 1 then { g with mw := o.b * 64 } else g
      let g := if o.bits 33 33 = 1 then { g with sw := o.b * 64 } else g
      some { g with pc := g.pc + 1 }
    | 6 =>
      let hit := skipTest (o.bits 53 51) (g.idx (o.bits 59 57)) (g.idx (o.bits 56 54) + o.imm)
      some { g with pc := if hit then skipTo p (g.pc + 1) (o.bits 35 32) else g.pc + 1 }
    | _ => none

/-- Run such operations until an EMIT, a TURN or the end; at most so many in one step, the position being kept. -/
def GenPos.settle (p : List StrideOp) (g : GenPos) : Nat → GenPos
  | 0 => g
  | fuel + 1 =>
    if g.k != 0 || g.off != 0 then g else
    match g.control p with
    | some g => g.settle p fuel
    | none => match p[g.pc]? with
      | none => { g with fin := true }
      | some o => if o.code = 0 then { g with fin := true } else g

/-- An offset under a ring (R223). -/
def ring (x : Int) (w : Nat) : Int := if w = 0 then x else x % (w : Int)

/-- The memory address and the store address at the cursors (R223). -/
def GenPos.mem (g : GenPos) (mbase : Nat) : Nat := (((mbase : Int) + ring g.mo g.mw) % 2 ^ 57).toNat
def GenPos.store (g : GenPos) (sbase : Nat) : Int := (sbase : Int) + ring g.so g.sw

/-! ## One line of a run (R227) -/

/-- A line request before translation: the line's address, its pieces, the bytes of the run it takes and the position
after it. -/
structure GenLine where
  va : Nat
  pieces : List Piece
  last : Nat
  pos : GenPos
  deriving DecidableEq, Repr

/-- Split bytes of a line at chunk boundaries: offset in the line, store-side byte number, length, and where a byte
goes by its distance from the first. -/
def chunkPieces (unit : Nat) (moff made n : Nat) (dest : Nat → PieceAt) : List Piece :=
  if unit = 0 then [⟨moff, n, dest 0, 0⟩] else
  (List.range ((made + n - 1) / unit - made / unit + 1)).map (fun i =>
    let k := made / unit + i
    let lo := max made (k * unit)
    let hi := min (made + n) ((k + 1) * unit)
    ⟨moff + (lo - made), hi - lo, dest (lo - made), k⟩)

/-- What the generator meets at a position of a stride program. -/
inductive Gen where
  | end_
  | line (l : GenLine)
  | badStore
  /-- Loops without a line, longer than one step walks (GenPos.settle). -/
  | walking
  deriving DecidableEq, Repr

/-- The next line of a stream at an EMIT or a TURN (R223, R224, R227). -/
def streamLine (z : Slot) (g : GenPos) : Gen :=
  if g.fin then .end_ else
  match z.prog[g.pc]? with
  | none => .end_
  | some o =>
    let sbase := wbits z.desc 2 29 0
    let st := g.store sbase
    let mb := g.mem z.cur.mbase
    let unit := z.chunkLen false * 64
    if o.code != 3 && o.code != 5 then .walking
    else if st < 0 || 2 ^ 30 ≤ st then .badStore else
    let s0 := st.toNat
    if o.code = 5 then
      let e2 := 2 ^ o.bits 33 32
      let rowLen := 64 * e2
      let m := (((mb : Int) + g.k * o.md + g.off) % 2 ^ 57).toNat
      let n := min (256 - m % 256) (rowLen - g.off)
      let dest (d : Nat) : PieceAt := .turn s0 o.sd g.k ((g.off + d) * 2 / e2) e2 g.tiles
      let rowEnd := g.off + n = rowLen
      let g' := { g with made := g.made + n }
      let g' := if !rowEnd then { g' with off := g.off + n }
        else if g.k + 1 < 128 then { g' with k := g.k + 1, off := 0 }
        else { g' with k := 0, off := 0, pc := g.pc + 1, tiles := g.tiles + 1 }
      .line ⟨m / 256 * 256, chunkPieces unit (m % 256) g.made n dest, if unit = 0 then 0 else (g.made + n - 1) / unit, g'⟩
    else
      let m := (mb + g.off) % 2 ^ 57
      let n := min (256 - m % 256) (o.b - g.off)
      let g' := { g with made := g.made + n }
      let g' := if g.off + n = o.b then { g' with off := 0, pc := g.pc + 1 } else { g' with off := g.off + n }
      .line ⟨m / 256 * 256, chunkPieces unit (m % 256) g.made n (fun d => .lin (s0 + g.off + d)),
        if unit = 0 then 0 else (g.made + n - 1) / unit, g'⟩

/-- The last chunk of the next line of a stream, if it has a next line (R232, R233). -/
def Slot.nextChunk (z : Slot) : Option Nat :=
  match streamLine z (z.pos.settle z.prog 4096) with
  | .line l => some l.last
  | _ => none

end Sys2Proof.Machine
end

