-- ==== Sys2Proof/Machine/Hurdles.lean ====
section
/-! DEFINITION. Hurdles: the baton word and pace (R148, R149), sending and counting arrivals (R145, R146), poisoning
(R147) and waiting (R151). -/

namespace Sys2Proof.Machine
open Sys2Proof

/-- SRC_UNIT of a baton word (R148). -/
def seqUnit : SeqId → Nat | .F => 0 | .B => 1 | .U => 2
def unitArr : Nat := 3
def unitStr : Nat := 4
def unitGth : Nat := 5
def unitRow : Nat := 6
def unitOther : Nat := 7

/-- PACE of a core: its own setting under the duty throttle, as a fraction of 1.40 GHz (R149, R458). -/
def State.pace (s : State) (c : CoreId) : Nat :=
  let d := s.fld Reg.PSC_STATUS 21 16
  (2 * 512 * (s.core c).own * (64 - d) + 1400 * 64) / (2 * 1400 * 64)

/-- The baton word (R148). -/
def baton (pkg core unit mb gen pace : Nat) : W64 :=
  BitVec.ofNat 64 (pkg % 2 ^ 16 * 2 ^ 48 + core % 8 * 2 ^ 45 + unit % 8 * 2 ^ 42 + mb % 2 ^ 16 * 2 ^ 26
    + gen % 2 ^ 16 * 2 ^ 10 + pace % 2 ^ 10)

/-- The baton word of a sender in a core. -/
def State.coreBaton (s : State) (c : CoreId) (unit mb gen : Nat) : W64 :=
  baton s.pkg.toNat c unit mb gen (s.pace c)

/-- The first held instruction or arrival of a window raises X_SPEC_HELD (R161). -/
def State.specHeld (s : State) (c : CoreId) (w : Fin 2) : State :=
  if (s.win c w).heldRaised then s
  else (s.coreEvent .xSpecHeld c (some .F) [.small 4 w]).modWin c w (fun z => { z with heldRaised := true })

/-- Send an arrival from a context: at once, or held while its window is open and the hurdle is not bound to it (R161). -/
def State.sendArrival (s : State) (c : CoreId) (a : Arrival) : State :=
  match a.src with
  | .ctx _ (some w) _ =>
    if boundTo (s.hurdle a.hid) w then { s with arrivals := s.arrivals ++ [a] }
    else (s.specHeld c w).modWin c w (fun z => { z with heldArr := z.heldArr ++ [a] })
  | _ => { s with arrivals := s.arrivals ++ [a] }

/-- The completion arrival of an engine command (R129, R174). -/
def State.complete (s : State) (o : Origin) (unit : Nat) : State :=
  if o.hv then s.sendArrival o.core ⟨o.hid, s.coreBaton o.core unit o.mb.toNat o.gen.toNat, .ctx o.ctx o.win (.feed o.core)⟩ else s

/-- The arrivals of the relay engine of a fabric die: a source outside a core, with SRC_CORE and PACE zero (R13, R148,
R149). -/
def State.relayArrival (s : State) (d : CoreId) (x : CtxId) (hid : Hid) (word : W32) : Arrival :=
  ⟨hid, baton s.pkg.toNat 0 unitOther (word.toNat % 65536) (word.toNat / 65536) 0, .ctx x none (.fabric d)⟩

/-- The die a hurdle is at home on (R19), and its stray counter (R146). -/
def homeDie (h : Hid) : Nat := h.toNat / 512
def State.countStray (s : State) (h : Hid) : State := s.bump (Reg.HRD_STRAY (homeDie h)) 1

/-- Whether a hurdle accepts an arrival from a source (R146). -/
def State.accepts (s : State) (h : Hurdle) (src : ArrSrc) : Bool :=
  match src with
  | .ctx x _ _ => h.owner == x
  | .port p => h.ports.getLsbD p
  | .host f _ _ => h.hostOk && (f.val == 0 || f == vfOf (s.ctx h.owner).part)

/-- A stray (R146, R167): counted, and the first at a hurdle is reported; what leaves ARMED begins anew (DESIGN CHOICE,
notes/assumptions/76). -/
def State.stray (s : State) (hid : Hid) : State :=
  let s := s.countStray hid
  let h := s.hurdle hid
  if h.strayRaised then s
  else (s.ctxEvent .xHurdleStray h.owner [.small 12 hid.toNat]).setHurdle hid { h with strayRaised := true }

/-- The target of a wait has been reached (R151, R234). -/
def satisfied (h : Hurdle) (target : W32) : Bool := !(h.releases - target).msb

/-! ## What a stream slot waits for: its gate (R234) and its credits (R233) -/

/-- The gate of a slot is satisfied, or it has none (R234). -/
def State.gateOpen (s : State) (z : Slot) : Bool :=
  wbits z.desc 5 43 43 == 0
    || satisfied (s.hurdle (BitVec.ofNat 12 (wbits z.desc 5 55 44))) (BitVec.ofNat 32 (wbits z.desc 5 31 0))

/-- The credits of a slot allow requests of chunk k (R233): the signed 32-bit difference of RELEASES and CREDIT_BASE is at
least k − CREDIT_DEPTH + 1. -/
def State.creditOpen (s : State) (z : Slot) (k : Nat) : Bool :=
  wbits z.desc 4 43 43 == 0
    || decide ((k : Int) - (wbits z.desc 4 42 32 : Nat) + 1
        ≤ ((s.hurdle (BitVec.ofNat 12 (wbits z.desc 4 55 44))).releases - BitVec.ofNat 32 (wbits z.desc 4 31 0)).toInt)

/-- The hurdles that a slot waits on now: its gate, or its credits (R235). -/
def State.slotWaits (s : State) (z : Slot) : Option Hid :=
  match z.state with
  | .armed => if !z.prog.isEmpty && !s.gateOpen z then some (BitVec.ofNat 12 (wbits z.desc 5 55 44)) else none
  | .running =>
    if z.nextChunk.any (fun k => !s.creditOpen z k) then some (BitVec.ofNat 12 (wbits z.desc 4 55 44)) else none
  | _ => none

/-- A slot of a core at a release or a poisoning of a hurdle: an ARMED one whose program is read runs once its gate is
satisfied (R234, R236), and one that waits on a poisoned hurdle holds its context (R235). -/
def State.wakeSlot (s : State) (c : CoreId) (j : Fin 32) : State :=
  let z := vget (s.core c).str j
  if z.state = .armed && !z.prog.isEmpty && s.gateOpen z && !(s.strHeld c && s.changes (Reg.STR_CFG c)) then
    s.modCore c (fun k => { k with str := vset k.str j { z with state := .running } })
  else match s.slotWaits z with
    | some h => if (s.hurdle h).state = .poisoned then s.requestHold z.cur.org.ctx .poisoned else s
    | none => s

/-- A waiter of a hurdle: a satisfied wait goes on (R151, R165), a waiter of a poisoned hurdle holds its context
(R158). -/
def State.wakeSeq (s : State) (hid : Hid) (c : CoreId) (q : SeqId) : State :=
  let z := s.seq c q
  let h := s.hurdle hid
  match z.state, z.wait with
  | .wait, some (k, n) =>
    if k != hid then s
    else if satisfied h n then
      s.setSeq c q { z with state := .run, wait := none, waitDf := false, pc := z.pc + 8 }
    else if h.state = .poisoned then
      match (s.core c).ctx with
      | some x => s.requestHold x .poisoned
      | none => s
    else s
  | _, _ => s

/-- A host WAIT at a change of its hurdle (R383): OK once its target is reached, POISONED if it is poisoned first. -/
def wakeCmd (hid : Hid) (h : Hurdle) (r : RunCmd) : RunCmd :=
  if wbits r.words 0 63 56 = 4 && r.status.isNone && wbits r.words 4 11 0 = hid.toNat then
    if satisfied h (BitVec.ofNat 32 (wbits r.words 5 31 0)) then { r with status := some stOk }
    else if h.state = .poisoned then { r with status := some stPoisoned } else r
  else r

/-- Everything that waits on a hurdle, at a release or a poisoning of it. -/
def State.wake (s : State) (hid : Hid) : State :=
  let s := s.mapRunning (wakeCmd hid (s.hurdle hid))
  allCores.foldl (fun s c =>
    (List.range 32).foldl (fun s j => s.wakeSlot c (Fin.ofNat 32 j)) (allSeqs.foldl (fun s q => s.wakeSeq hid c q) s)) s

/-- Poison a hurdle and wake its waiters (R147). -/
def State.poison (s : State) (hid : Hid) : State :=
  let h := s.hurdle hid
  (s.setHurdle hid { h with state := .poisoned, strayRaised := h.strayRaised && h.state != .armed }).wake hid

/-- The pace record of an arrival registered in the round (R149): the smallest non-zero PACE and its source. -/
def notePace (h : Hurdle) (b : W64) : Hurdle :=
  let p := BitVec.setWidth 10 b
  if p != 0 && (h.roundMin == 0 || p.ult h.roundMin) then
    { h with roundMin := p, roundPkg := (b >>> 48).setWidth 16, roundCore := (b >>> 45).setWidth 3 }
  else h

/-- The first arrival counted from an open window it is bound to records the base (R162). -/
def noteBase (h : Hurdle) (src : ArrSrc) : Hurdle :=
  match src with
  | .ctx _ (some w) _ => if boundTo h w && !h.specRec then { h with specBase := h.releases, specRec := true } else h
  | _ => h

/-- A release: the count advances and the round's pace record becomes the last round's (R145, R149). -/
def release (h : Hurdle) : Hurdle :=
  { h with releases := h.releases + 1, lastMin := h.roundMin, lastPkg := h.roundPkg, lastCore := h.roundCore,
           roundMin := 0, roundPkg := 0, roundCore := 0 }

/-- Count n arrivals of one cycle at an ARMED hurdle (R145): the hurdle after, whether it released, whether it
overran. -/
def countArrivals (h : Hurdle) (n : Nat) : Hurdle × Bool × Bool :=
  let count := h.count.toNat + n
  let ex := h.expect.toNat
  if ex ≤ count then
    let h := release h
    if h.auto then
      let c := count - ex
      ({ h with count := BitVec.ofNat 16 c, state := if ex ≤ c then .poisoned else h.state
                strayRaised := h.strayRaised && decide (c < ex) }, true, decide (ex ≤ c))
    else
      ({ h with count := 0, state := if ex < count then .poisoned else .idle, strayRaised := false }, true, decide (ex < count))
  else ({ h with count := BitVec.ofNat 16 count }, false, false)

/-- The arrivals of a list that a hurdle registers in one cycle (R145, R146): strays counted, the accepted ones counted
together. -/
def State.register (s : State) (hid : Hid) (as : List Arrival) : State :=
  if (s.hurdle hid).state = .poisoned then s else
  let ok := as.filter (fun a => s.accepts (s.hurdle hid) a.src)
  let bad := as.length - ok.length
  let s := (List.range bad).foldl (fun s _ => s.stray hid) s
  match (s.hurdle hid).state with
  | .poisoned => s
  | .idle => (List.range ok.length).foldl (fun s _ => s.stray hid) s
  | .armed =>
    let h := ok.foldl (fun h a => noteBase (notePace h a.baton) a.src) (s.hurdle hid)
    let r := if ok.isEmpty then (h, false, false) else countArrivals h ok.length
    let s := s.setHurdle hid r.1
    let s := if r.2.2 then s.ctxEvent .xHurdleOverrun r.1.owner [.small 12 hid.toNat] else s
    if r.2.1 || r.2.2 then s.wake hid else s

/-- The arming of R144 and R193, at the home hurdle unit: none where the check fails. The pace record of a round left
unfinished stays (DESIGN CHOICE, notes/assumptions/76). -/
def arm (h : Hurdle) (x : CtxId) (cfg : W64) : Hurdle :=
  let h : Hurdle := { h with
    ports := (cfg >>> 32).setWidth 16, window := (cfg >>> 18).setWidth 2, hostOk := cfg.getLsbD 17,
    auto := cfg.getLsbD 16, expect := cfg.setWidth 16, owner := x, count := 0, state := .armed,
    strayRaised := false }
  if h.expect = 0 then { release h with state := .idle } else h

end Sys2Proof.Machine
end

