-- ==== Sys2Proof/Machine/Issue.lean ====
section
/-! DEFINITION. Issue (R126, R127): when a sequencer issues, what every instruction checks, and how it retires. -/

namespace Sys2Proof.Machine
open Sys2Proof

/-- What an instruction does at issue: it retires, it retires to another address, it waits at issue with the state
changed only as its wait is counted, or it faults. -/
inductive Issued where
  | retire (s : State)
  | jump (s : State) (target : Off)
  | wait (s : State)
  | fault (e : EvName) (is : List Item)

/-- The issue of a core is held at an issue boundary: by a pending commit of its own set (R50, R141, R167), or at the start of a
heat by one of set 2 (R399). -/
def State.issueHeld (s : State) (c : CoreId) : Bool :=
  s.coreHeld c || (match s.partOf c with | some p => (s.part p).heatHeld | none => false)

/-- A sequencer may issue: it runs, or runs on to its next cheap point; no HARM of its own is unanswered (R193); no
discard holds SEQ-F (R163); and no commit holds the core. -/
def State.canIssue (s : State) (c : CoreId) (q : SeqId) : Bool :=
  let z := s.seq c q
  (z.state == .run || z.state == .stopping) && z.harm.isNone
    && !(q == .F && ((s.win c 0).discarding || (s.win c 1).discarding)) && !s.issueHeld c

/-- The speculation window an instruction belongs to (R159). -/
def State.issueWin (s : State) (c : CoreId) (q : SeqId) : Option (Fin 2) := if q = .F then (s.seq c q).win else none

/-- The origin of an instruction that names no completion hurdle. -/
def State.origin (s : State) (c : CoreId) (q : SeqId) (x : CtxId) : Origin :=
  ⟨x, c, q, (s.seq c q).pc, s.issueWin c q, false, 0, 0, 0⟩

/-- The origin of an engine instruction: its completion hurdle, and MB and GEN of its baton register (R174). -/
def State.originE (s : State) (c : CoreId) (q : SeqId) (x : CtxId) (hv : Bool) (hid : Hid) (sb : BitVec 5) : Origin :=
  let b := (s.seq c q).rs sb
  { s.origin c q x with hv := hv, hid := hid, mb := b.setWidth 16, gen := (b >>> 16).setWidth 16 }

/-- A sequencer goes to an address: a copy of a descriptor read ahead for the instruction it leaves, or on the path that
a branch leaves, is of no use any more (R173). -/
def Seq.goTo (z : Seq) (target : Off) : Seq :=
  { z with pc := target
           ahead := match z.ahead with | some r => if r.pc = z.pc || target != z.pc + 8 then none else some r | none => none }

/-- The instruction at the program counter has issued and retires: it is counted (SEQ_ISSUED). -/
def State.retireTo (s : State) (c : CoreId) (q : SeqId) (target : Off) : State :=
  (s.bump (Reg.SEQ_ISSUED c q) 1).modSeq c q (fun z => z.goTo target)

/-- Issue of one instruction by a sequencer (R126, R127, R168, R170). A sequencer that does not issue leaves the
state as it is (notes/assumptions/1). `illegal` is the instruction's own check of R170. -/
def State.issue (s : State) (c : CoreId) (q : SeqId) (pn : Bool) (pr : BitVec 3) (illegal : Bool)
    (body : State → CtxId → Issued) : Out :=
  match (s.core c).ctx with
  | none => .next s
  | some x =>
    if !s.canIssue c q then .next s else
    let s := s.landSst c q
    let z := s.seq c q
    let o := s.origin c q x
    if (s.permitted c q .exec z.pc.toNat 8).isNone then .next (s.seqFault o .xCode [])
    else if xor (z.rp pr) pn = false then .next (s.setSeq c q (z.goTo (z.pc + 8)))
    else if illegal then .next ((s.bump (Reg.SEQ_ISSUED c q) 1).seqFault o .xIllegal [])
    else match body s x with
      | .retire t => .next (t.retireTo c q (z.pc + 8))
      | .jump t target => .next (t.retireTo c q target)
      | .wait t => .next t
      | .fault e is => .next ((s.bump (Reg.SEQ_ISSUED c q) 1).seqFault o e is)

/-- A register result: the sequencer changed, the instruction retired. -/
def retireSeq (s : State) (c : CoreId) (q : SeqId) (f : Seq → Seq) : Issued := .retire (s.modSeq c q f)

/-- Format SR with an s-register result: reserved bits zero (R169, R175). -/
def State.issueSR (s : State) (c : CoreId) (q : SeqId) (w : SR) (illegal : Bool) (body : State → CtxId → Issued) : Out :=
  s.issue c q w.pn w.pr (w.zero != 0 || illegal) body
def State.issueSI (s : State) (c : CoreId) (q : SeqId) (w : SI) (illegal : Bool) (body : State → CtxId → Issued) : Out :=
  s.issue c q w.pn w.pr (w.zero != 0 || illegal) body
def State.issueCT (s : State) (c : CoreId) (q : SeqId) (w : CT) (illegal : Bool) (body : State → CtxId → Issued) : Out :=
  s.issue c q w.pn w.pr (w.zero != 0 || illegal) body
def State.issueH (s : State) (c : CoreId) (q : SeqId) (w : HF) (illegal : Bool) (body : State → CtxId → Issued) : Out :=
  s.issue c q w.pn w.pr (w.zero != 0 || illegal) body

end Sys2Proof.Machine
end

