-- ==== Sys2Proof/Machine/Slots.lean ====
section
/-! DEFINITION. What stream slots and index streams wait for (R233 to R236), and the engine work of a context that a stop
waits for (R155, R240). -/

namespace Sys2Proof.Machine
open Sys2Proof

/-- A slot whose work a stop waits for (R155, R240): not one that is HALTED, or that waits only on its gate or its
credits with no issued request left. -/
def State.slotBusy (s : State) (gth : Bool) (z : Slot) : Bool :=
  let sent := z.reqs.any (fun r => r.st != .window)
  match z.state with
  | .armed => gth || s.gateOpen z || sent
  | .running => sent || gth || z.reqs.any (fun r => r.st = .window) || z.nextChunk.all (s.creditOpen z)
  | .halted | .cancelled => sent
  | _ => false

/-- The watch entries of a core whose slot is IDLE go: the slot has left DONE (R243). -/
def State.unwatchIdle (s : State) (c : CoreId) : State :=
  let k := s.core c
  { s with watch := s.watch.map (fun l => l.filter (fun e => e.core != c
      || (if e.gth then (vget k.gth (Fin.ofNat 8 e.slot)).state != .idle else (vget k.str (Fin.ofNat 32 e.slot)).state != .idle))) }

/-- A command of a context that the array holds. -/
def Arr.busy (a : Arr) (x : CtxId) : Bool :=
  a.xing.any (fun k => k.org.ctx = x) || a.queue.any (fun k => k.org.ctx = x) || a.passes.any (fun k => k.org.ctx = x)
    || a.bank.toList.any (fun b => match b.cmd with | some k => k.org.ctx = x | none => false)

/-- Engine instructions of a context on a core that have not completed (R155). -/
def State.coreBusy (s : State) (x : CtxId) (c : CoreId) : Bool :=
  let k := s.core c
  k.arr.busy x || k.rowQ.any (fun r => r.org.ctx = x)
    || k.str.toList.any (fun z => z.cur.org.ctx = x && s.slotBusy false z)
    || k.gth.toList.any (fun z => z.cur.org.ctx = x && s.slotBusy true z)
    || k.gthQ.any (fun g => match g with | .xrcheck _ o => o.ctx = x | .gather _ => false)
    || k.wins.toList.any (fun w => w.state = .committing || w.discarding)
    || k.seqs.toList.any (fun z => z.harm.isSome)
    || k.stashOps.any (fun a => a.org.ctx = x)
    || k.uops.any (fun a => a.org.ctx = x)

end Sys2Proof.Machine
end

