-- ==== Sys2Proof/Machine/Turns.lean ====
section
/-! DEFINITION. Turns of contexts on a partition's cores (R403 to R406): the choice of the next context, its binding and
its start, and the release of the cores. -/

namespace Sys2Proof.Machine
open Sys2Proof

/-- The contexts of a partition's range (R398). -/
def State.ctxBase (s : State) (p : CoreId) : Nat := s.fld (Reg.SCH_PCFG p) 13 8
def State.ctxCount (s : State) (p : CoreId) : Nat := s.fld (Reg.SCH_PCFG p) 4 0
def State.inRange (s : State) (p : CoreId) (x : CtxId) : Bool := s.ctxBase p ≤ x && x < s.ctxBase p + s.ctxCount p

/-- The k-th context after a given one in a partition's range, wrapping (R404). -/
def State.nthAfter (s : State) (p : CoreId) (last : Option CtxId) (k : Nat) : CtxId :=
  let b := s.ctxBase p
  let n := s.ctxCount p
  let i := match last with | some x => x - b + 1 | none => 0
  Fin.ofNat 64 (b + (i + k) % n)

/-- The package is out of service (R447). -/
def State.oos (s : State) : Bool := s.fld Reg.GLB_STATUS 27 27 = 1

/-- Every sequencer at the start of a context on a core (R165), SEQ-F, SEQ-B and SEQ-U at its entry point. -/
def startSeqs (e : Off × Off × Off) : Vector Seq 3 :=
  #v[{ Seq.reset with state := .run, pc := e.1 }, { Seq.reset with state := .run, pc := e.2.1 },
     { Seq.reset with state := .run, pc := e.2.2 }]

/-- Position of a core in its partition. -/
def State.corePos (s : State) (p : CoreId) (c : CoreId) : CoreId :=
  Fin.ofNat 8 ((s.partCores p).findIdx (· = c))

/-- A context starts its turn on the partition's cores (R403, R404): bound, and started at its entry points or left for
RESTORE_COMPLETE to restore; the NaN sentinel is the context's and starts clear. A HOLD asked for
meanwhile takes effect. -/
def State.beginTurn (s : State) (p : CoreId) (x : CtxId) : State :=
  let k := s.ctx x
  let s := s.modCtx x (fun k => { k with
    state := .running, switches := k.switches + 1, holdRaised := false, fresh := false, stopFor := .none, saving := false
    holdDue := none, savedAt := s.ptb })
  let s := s.modPart p (fun q => { q with
    running := some x, turn := true, turnStart := s.ptb, heatEnd := BitVec.ofInt 64 (s.ptb.toNat + k.credit)
    last := some x, stopLate := false, switching := !k.fresh, heatHeld := s.partHeld p })
  let s := (s.partCores p).foldl (fun s c =>
    (s.modCore c (fun z => { z with
      ctx := some x
      seqs := if k.fresh then startSeqs (vget k.entry (s.corePos p c)) else Vector.replicate 3 Seq.reset
      wins := Vector.replicate 2 Win.reset, boundAt := s.ptb })).setFld (Reg.ARR_SENTINEL c) 20 0 0) s
  match k.holdDue with
  | some e => s.requestHold x e
  | none => s

/-- The choice of R404, at most `fuel` contexts looked at: each READY context's credit is raised by the heat length, and
the first with a credit above zero runs. -/
def State.chooseTurn (s : State) (p : CoreId) (last : Option CtxId) : Nat → State
  | 0 => s
  | fuel + 1 =>
    let x := s.nthAfter p last 0
    if (s.ctx x).state = .ready then
      let s := s.modCtx x (fun k => { k with credit := clampCredit (k.credit + s.fld (Reg.SCH_HEAT p) 19 0 * 1000) })
      if (s.ctx x).credit ≤ 0 then s.chooseTurn p (some x) fuel else s.beginTurn p x
    else s.chooseTurn p (some x) fuel

/-- A turn starts when the partition's cores are free and a context of it is READY; none starts out of service (R447), once
REFCLK_SYS is lost (R31), while a hang of the partition is handled (R440), or while a commit that changes the partition is
pending (R399). A
credit of −2^31 ns needs at most 21,475 heats of the shortest length to rise above zero. -/
def State.startTurn (s : State) (p : CoreId) : State :=
  let anyReady := (List.range (s.ctxCount p)).any (fun i => (s.ctx (Fin.ofNat 64 (s.ctxBase p + i))).state = .ready)
  if s.oos || s.refLost || s.partHeld p || s.hangs.any (fun h => h.part = some p) || (s.part p).running.isSome || s.fld (Reg.SCH_PCFG p) 31 31 = 0 || !anyReady then s
  else s.chooseTurn p (s.part p).last (16 * 21476)

/-- A slot given back at the end of its context's stay on the core (R240). -/
def freeSlot (x : CtxId) (z : Slot) : Slot := if z.cur.org.ctx = x && !z.toIdle then { Slot.reset with faultVa := z.faultVa } else z

/-- The cores of a context are released (R165): each sequencer goes to IDLE, its SSTs written (R132). -/
def State.unbind (s : State) (x : CtxId) : State :=
  let p := (s.ctx x).part
  let s := (s.boundCores x).foldl (fun s c => ((allSeqs.foldl (fun s q => s.landSst c q) s).modCore c (fun k => { k with
    boundNs := k.boundNs ++ [(x, (s.ptb - k.boundAt).toNat)]
    ctx := none, seqs := Vector.replicate 3 Seq.reset, wins := Vector.replicate 2 Win.reset
    str := k.str.map (freeSlot x), gth := k.gth.map (freeSlot x) })).unwatchIdle c) s
  if (s.part p).running = some x then s.modPart p (fun q => { q with running := none, switching := false, prev := none }) else s

/-- Whether every core of a context has no engine work of it left. -/
def State.ctxQuiet (s : State) (x : CtxId) : Bool := (s.boundCores x).all (fun c => !s.coreBusy x c)

/-- Every sequencer of every core of a context is ENDED. -/
def State.allEnded (s : State) (x : CtxId) : Bool :=
  !(s.boundCores x).isEmpty && (s.boundCores x).all (fun c => allSeqs.all (fun q => (s.seq c q).state = .ended))

/-- The cores of an ENDED context become free when its engines have completed what they accepted, and the next turn
starts (R403); CTX_START may have made it READY before. -/
def State.freeEnded (s : State) (x : CtxId) : State :=
  let left := match (s.ctx x).state with | .running | .stopping | .held | .faulted => false | _ => true
  if left && s.allEnded x && s.ctxQuiet x then
    (s.unbind x).startTurn (s.ctx x).part
  else s

/-- A context whose last sequencer has reached END (R400, R405): ENDED, and its turn ends. -/
def State.settleEnd (s : State) (x : CtxId) : State :=
  match (s.ctx x).state with
  | .running | .stopping =>
    if s.allEnded x then
      (((s.endTurn (s.ctx x).part).modCtx x (fun k => { k with state := .ended, stopFor := .none }))).freeEnded x
    else s
  | _ => s

end Sys2Proof.Machine
end

