-- ==== Sys2Proof/Machine/Engine.lean ====
section
/-! DEFINITION. What every engine instruction does at issue (R172 to R174): its descriptor, the checks of its fields and
extents, and the origin that its command carries. -/

namespace Sys2Proof.Machine
open Sys2Proof

/-- An extent an entry checks: its offset and length, and whether it is written. -/
structure Extent where
  off : Nat
  len : Nat
  wr : Bool
  deriving DecidableEq, Repr

/-- Check extents in order (R140): the offsets they go to (R160), or the first fault. -/
def State.checkExtents (s : State) (c : CoreId) (q : SeqId) (win : Option (Fin 2)) : List Extent → Except EvName (List Nat)
  | [] => .ok []
  | e :: t =>
    match s.access c q win (if e.wr then .write else .read) e.off e.len with
    | .error f => .error f
    | .ok a => match s.checkExtents c q win t with
      | .error f => .error f
      | .ok as => .ok (a :: as)

/-- Format E and EA: the predicate, and the word's own checks (R168, R170). -/
def State.issueE (s : State) (c : CoreId) (q : SeqId) (w : EF) (illegal : Bool) (body : State → CtxId → Issued) : Out :=
  s.issue c q w.pn w.pr illegal body
def State.issueEA (s : State) (c : CoreId) (q : SeqId) (w : EA) (illegal : Bool) (body : State → CtxId → Issued) : Out :=
  s.issue c q w.pn w.pr illegal body

/-- The descriptor of an engine instruction, taken at issue; then the body with its words. -/
def State.withDesc (s : State) (c : CoreId) (q : SeqId) (sd : BitVec 5) (doff size : Nat)
    (body : List W64 → Issued) : Issued :=
  match s.takeDesc c q (s.issueWin c q) (descOff (s.seq c q) sd doff) size with
  | .error e => .fault e []
  | .ok d => body d

/-- Whether bits of a descriptor are all zero, by word, high bit and low bit (R170). -/
def zeroBits (d : List W64) (bs : List (Nat × Nat × Nat)) : Bool := bs.all (fun b => wbits d b.1 b.2.1 b.2.2 = 0)

/-- A list of words with a field of 30 bits at a bit position of a word replaced: a redirected address (R160). -/
def putOff (d : List W64) (i lo : Nat) (a : Nat) : List W64 := setWord d i (withBits (word d i) (lo + 29) lo a)

/-- An accepted engine instruction takes its read-ahead copy with it. -/
def State.accepted (s : State) (c : CoreId) (q : SeqId) : State := s.modSeq c q (fun z => { z with ahead := none, stalled := false, bankWait := false, genStall := false })

/-! ## The arbiters of the array and of the row engine (R133 to R135) -/

/-- The engines with an arbiter. -/
inductive Res where
  | array | row
  deriving DecidableEq, Repr

/-- The word at a sequencer's program counter. -/
def State.wordAt (s : State) (c : CoreId) (q : SeqId) : W64 := BitVec.ofNat 64 (Mem.readN (s.core c).store (s.seq c q).pc.toNat 8)

/-- The banks that an M-class word names (R76): none for MSHAPE, both for a CBF16 pass. -/
def State.banksOfWord (s : State) (c : CoreId) (q : SeqId) (w : W64) : List (Fin 2) :=
  let op := (w >>> 56).toNat
  if op = 0x40 then [] else
  let b : Fin 2 := if w.getLsbD 28 then 1 else 0
  if op = 0x42 then
    match s.takeDesc c q (s.issueWin c q) (descOff (s.seq c q) ((w >>> 47).setWidth 5) ((w.toNat) % 2 ^ 24)) 32 with
    | .ok d => if wbits d 0 35 32 = 7 then [0, 1] else [b]
    | .error _ => [b]
  else [b]

/-- A bank is free for a sequencer: not owned by another (R76). -/
def State.bankFree (s : State) (c : CoreId) (q : SeqId) (b : Fin 2) : Bool :=
  match (s.bank c b).owner with | some o => o = q | none => true

/-- The engine has room for a command (R25, R133). -/
def State.hasRoom (s : State) (c : CoreId) : Res → Bool
  | .array => decide ((s.core c).arr.xing.length < 16)
  | .row => decide ((s.core c).rowQ.length < 16)

/-- Whether a sequencer's next instruction targets an engine and is grantable (R134), by the word in the core store. -/
def State.wants (s : State) (c : CoreId) (q : SeqId) (r : Res) : Bool :=
  let w := s.wordAt c q
  let op := (w >>> 56).toNat
  let z := s.seq c q
  s.canIssue c q && s.hasRoom c r && xor (z.rp ((w >>> 52).setWidth 3)) (w.getLsbD 55)
    && (match r with
      | .array => 0x40 ≤ op && op ≤ 0x43 && (s.banksOfWord c q w).all (s.bankFree c q)
      | .row => 0x70 ≤ op && op ≤ 0x77)

def State.waitCount (s : State) (c : CoreId) (r : Res) (q : SeqId) : Nat :=
  match r with | .array => vget (s.core c).arr.waits (seqIx q) | .row => vget (s.core c).rowWaits (seqIx q)
def State.setWait (s : State) (c : CoreId) (r : Res) (q : SeqId) (n : Nat) : State :=
  match r with
  | .array => s.modArr c (fun a => { a with waits := vset a.waits (seqIx q) n })
  | .row => s.modCore c (fun k => { k with rowWaits := vset k.rowWaits (seqIx q) n })
def State.waitLimit (s : State) (c : CoreId) : Res → Nat
  | .array => s.fld (Reg.SEQ_ARB c) 15 0
  | .row => s.fld (Reg.SEQ_ARB c) 31 16

/-- A sequencer is due: it has been refused, and its count has reached the limit (R135). -/
def State.due (s : State) (c : CoreId) (r : Res) (q : SeqId) : Bool :=
  0 < s.waitCount c r q && s.waitLimit c r ≤ s.waitCount c r q

/-- The sequencer that an arbiter grants, when q asks (R134, R135): of those that are due, the one that reached the limit
first, which has the largest count, and of equals the first in priority order; else the first in priority order. -/
def State.arbiter (s : State) (c : CoreId) (r : Res) (q : SeqId) : Option SeqId :=
  let g := [SeqId.B, .F, .U].filter (fun p => p = q || s.wants c p r)
  match g.find? (fun p => s.due c r p && g.all (fun o => !s.due c r o || s.waitCount c r o ≤ s.waitCount c r p)) with
  | some p => some p
  | none => g.head?

/-- A grant (R135): the granted sequencer's count is cleared and the refused ones' advance (SEQ_GRANT_WAIT), but at the
array while its ACLK is stopped. -/
def State.grant (s : State) (c : CoreId) (r : Res) (q : SeqId) : State :=
  let others := if r = .array && s.coreIdle c then [] else allSeqs.filter (fun p => p != q && s.wants c p r)
  let s := others.foldl (fun s p => (s.setWait c r p (s.waitCount c r p + 1)).bump (Reg.SEQ_GRANT_WAIT c p) 1) s
  s.setWait c r q 0

end Sys2Proof.Machine
end

