-- ==== Sys2Proof/Machine/Num.lean ====
section
/-! DEFINITION. The element formats and their conversions (R95 to R107), FP32 arithmetic (R63, R176), block scales
(R97 to R102), stochastic rounding and its generator (R118 to R120). Every value is exact, m times 2 to the e, until
one explicit rounding. -/

namespace Sys2Proof.Machine
open Sys2Proof

/-- An element format of R95: exponent and fraction widths, bias, the largest finite magnitude as bits, and whether
the all-ones exponent holds infinities and NaNs. -/
structure Fmt where
  eb : Nat
  fb : Nat
  bias : Nat
  maxMag : Nat
  ieee : Bool
  nan : Nat
  deriving DecidableEq, Repr

def fp32 : Fmt := ⟨8, 23, 127, 0x7F7FFFFF, true, 0x7FC00000⟩
def bf16 : Fmt := ⟨8, 7, 127, 0x7F7F, true, 0x7FC0⟩
def fp16 : Fmt := ⟨5, 10, 15, 0x7BFF, true, 0x7E00⟩
def e4m3 : Fmt := ⟨4, 3, 7, 0x7E, false, 0x7F⟩
def e5m2 : Fmt := ⟨5, 2, 15, 0x7B, true, 0x7E⟩
def e2m1 : Fmt := ⟨2, 1, 1, 0x7, false, 0⟩
/-- Binary64, of the norm accumulator (R360). -/
def fp64 : Fmt := ⟨11, 52, 1023, 0x7FEFFFFFFFFFFFFF, true, 0x7FF8000000000000⟩

/-- A value: NaN, an infinity, or a signed m times 2 to the e. -/
inductive FVal where
  | nan
  | inf (neg : Bool)
  | fin (neg : Bool) (m : Nat) (e : Int)
  deriving DecidableEq, Repr

/-- The exponent of a format's smallest subnormal. -/
def Fmt.qmin (f : Fmt) : Int := 1 - (f.bias : Int) - (f.fb : Int)

/-- The value an encoding has (R95, R96). E4M3 has one NaN magnitude and no infinity; E2M1 has neither. -/
def Fmt.decode (f : Fmt) (w : Nat) : FVal :=
  let neg := (w / 2 ^ (f.eb + f.fb)) % 2 = 1
  let ex := (w / 2 ^ f.fb) % 2 ^ f.eb
  let fr := w % 2 ^ f.fb
  if f.ieee && ex + 1 == 2 ^ f.eb then (if fr = 0 then .inf neg else .nan)
  else if !f.ieee && f.nan != 0 && w % 2 ^ (f.eb + f.fb) == f.nan then .nan
  else if ex = 0 then .fin neg fr f.qmin
  else .fin neg (2 ^ f.fb + fr) (f.qmin + (ex - 1 : Int))

/-- How a conversion rounds: to nearest even, or stochastically with a draw (R118). -/
inductive Rnd where
  | rne
  | draw (r : Nat)
  deriving DecidableEq, Repr

/-- m times 2 to the e at the quantum of a format: the magnitude bits before any limit is applied (R104, R118). -/
def Fmt.roundMag (f : Fmt) (rm : Rnd) (m : Nat) (e : Int) : Nat :=
  if m = 0 then 0 else
  let ex : Int := e + (Nat.log2 m : Int)
  let q : Int := max (ex - f.fb) f.qmin
  let mant : Nat :=
    if q ≤ e then m * 2 ^ (e - q).toNat
    else
      let s := (q - e).toNat
      let lo := m / 2 ^ s
      let rem := m % 2 ^ s
      let up : Bool := match rm with
        | .rne => 2 * rem > 2 ^ s || (2 * rem == 2 ^ s && lo % 2 == 1)
        | .draw r => r < rem * 2 ^ 32 / 2 ^ s
      lo + (if up then 1 else 0)
  if mant = 0 then 0 else (q - f.qmin).toNat * 2 ^ f.fb + mant

/-- The sign bit of a format in place. -/
def Fmt.sign (f : Fmt) (neg : Bool) : Nat := if neg then 2 ^ (f.eb + f.fb) else 0

/-- A conversion's result: the bits, and whether it saturated, met a non-finite input, or underflowed (R109). -/
structure Conv where
  bits : Nat
  sat : Bool
  nonfin : Bool
  under : Bool
  deriving DecidableEq, Repr

/-- Narrowing conversion of a value, saturating (R104, R105). -/
def Fmt.narrow (f : Fmt) (rm : Rnd) : FVal → Conv
  | .nan => ⟨f.nan, false, true, false⟩
  | .inf neg => ⟨f.sign neg + (2 ^ f.eb - 1) * 2 ^ f.fb, false, true, false⟩
  | .fin neg m e =>
    let mag := f.roundMag rm m e
    if f.maxMag < mag then ⟨f.sign neg + f.maxMag, true, false, false⟩
    else ⟨f.sign neg + mag, false, false, m != 0 && mag == 0⟩

/-- IEEE rounding of a value to a format, overflow going to infinity (R63). -/
def Fmt.ieeeRound (f : Fmt) : FVal → Nat
  | .nan => f.nan
  | .inf neg => f.sign neg + (2 ^ f.eb - 1) * 2 ^ f.fb
  | .fin neg m e => f.sign neg + min (f.roundMag .rne m e) ((2 ^ f.eb - 1) * 2 ^ f.fb)

/-- An integer times 2 to the e, with the sign that an exact zero takes. -/
def ofInt (z : Int) (e : Int) (zeroNeg : Bool) : FVal :=
  if z = 0 then .fin zeroNeg 0 0 else .fin (z < 0) z.natAbs e

/-- The signed integer m of a finite value. -/
def sgn (neg : Bool) (m : Nat) : Int := if neg then -(m : Int) else m

/-- Exact sum of two values (IEEE 754 special cases; an exact zero is +0 unless both are negative). -/
def FVal.add : FVal → FVal → FVal
  | .nan, _ | _, .nan => .nan
  | .inf a, .inf b => if a = b then .inf a else .nan
  | .inf a, .fin .. | .fin .., .inf a => .inf a
  | .fin na ma ea, .fin nb mb eb =>
    let e := min ea eb
    ofInt (sgn na ma * 2 ^ (ea - e).toNat + sgn nb mb * 2 ^ (eb - e).toNat) e (na && nb)

/-- Exact product of two values. -/
def FVal.mul : FVal → FVal → FVal
  | .nan, _ | _, .nan => .nan
  | .inf a, .inf b => .inf (a != b)
  | .inf a, .fin b m _ | .fin b m _, .inf a => if m = 0 then .nan else .inf (a != b)
  | .fin na ma ea, .fin nb mb eb => .fin (na != nb) (ma * mb) (ea + eb)

/-- The value with its sign changed. -/
def FVal.neg : FVal → FVal
  | .nan => .nan | .inf a => .inf (!a) | .fin n m e => .fin (!n) m e

/-- Exact comparison: the sign of a − b as an integer; none when either is NaN. -/
def FVal.cmp : FVal → FVal → Option Int
  | .nan, _ | _, .nan => none
  | .inf a, .inf b => some (if a = b then 0 else if a then -1 else 1)
  | .inf a, .fin .. => some (if a then -1 else 1)
  | .fin .., .inf b => some (if b then 1 else -1)
  | .fin na ma ea, .fin nb mb eb =>
    let e := min ea eb
    some ((sgn na ma * 2 ^ (ea - e).toNat - sgn nb mb * 2 ^ (eb - e).toNat).sign)

/-- The value of an FP32 pattern. -/
def f32 (w : W32) : FVal := fp32.decode w.toNat

/-- A value rounded to FP32 with round to nearest even. -/
def toF32 (v : FVal) : W32 := BitVec.ofNat 32 (fp32.ieeeRound v)

/-- FP32 addition, product and fused multiply-add, each one rounding (R63, R176). -/
def fAdd (a b : W32) : W32 := toF32 ((f32 a).add (f32 b))
def fSub (a b : W32) : W32 := toF32 ((f32 a).add (f32 b).neg)
def fMul (a b : W32) : W32 := toF32 ((f32 a).mul (f32 b))
def fFma (a b c : W32) : W32 := toF32 (((f32 a).mul (f32 b)).add (f32 c))

/-- FP32 to a signed 64-bit integer: truncated, saturated, 0 for a NaN (R176). -/
def fToInt (a : W32) : W64 :=
  match f32 a with
  | .nan => 0
  | .inf neg => if neg then BitVec.ofInt 64 (-(2 ^ 63)) else BitVec.ofInt 64 (2 ^ 63 - 1)
  | .fin neg m e =>
    let mag : Nat := if e < 0 then m / 2 ^ (-e).toNat else m * 2 ^ e.toNat
    let z := sgn neg mag
    BitVec.ofInt 64 (max (-(2 ^ 63)) (min z (2 ^ 63 - 1)))

/-- A signed 64-bit integer to FP32, to nearest even (R176). -/
def intToF (a : W64) : W32 := toF32 (ofInt a.toInt 0 false)

/-- A natural number as FP32 (R200: recip of L as FP32). -/
def natToF (n : Nat) : W32 := toF32 (.fin false n 0)

/-- Whether m₁·2^e₁ ≤ m₂·2^e₂. -/
def leDyadic (m1 : Nat) (e1 : Int) (m2 : Nat) (e2 : Int) : Bool :=
  let e := min e1 e2
  m1 * 2 ^ (e1 - e).toNat ≤ m2 * 2 ^ (e2 - e).toNat

/-- The largest finite value of a BSF element format as m·2^e: 448, 57,344 or 6 (R100). -/
def Fmt.maxFin (f : Fmt) : Nat × Int :=
  match f.decode f.maxMag with
  | .fin _ m e => (m, e)
  | _ => (0, 0)

/-- The block scale of R100 to R102 as its E8M0 encoding: 0xFF for a block with a non-finite value. -/
def chooseScale (f : Fmt) (vs : List FVal) : Nat :=
  if vs.any (fun v => match v with | .fin .. => false | _ => true) then 0xFF
  else
    let fits (x : Nat) : Bool := vs.all (fun v => match v with
      | .fin _ m e => leDyadic m e f.maxFin.1 (f.maxFin.2 + (x : Int) - 127)
      | _ => true)
    ((List.range 255).find? fits).getD 254

/-- One element of a BSF block with scale encoding x: v times 2^(127 − x), narrowed; +0 in a NaN block (R100, R101). -/
def Fmt.narrowScaled (f : Fmt) (rm : Rnd) (x : Nat) : FVal → Conv
  | .fin neg m e => if x = 0xFF then ⟨0, false, false, false⟩ else f.narrow rm (.fin neg m (e + 127 - (x : Int)))
  | _ => ⟨0, false, true, false⟩

/-- A scaled element widened to FP32, saturating (R106): the bits and whether it saturated. -/
def widenScaled (f : Fmt) (w : Nat) (x : Nat) : W32 × Bool :=
  if x = 0xFF then (0x7FC00000, false) else
  match f.decode w with
  | .nan => (0x7FC00000, false)
  | .inf neg => (BitVec.ofNat 32 (fp32.sign neg + 0x7F800000), false)
  | .fin neg m e =>
    let c := fp32.narrow .rne (.fin neg m (e + (x : Int) - 127))
    (BitVec.ofNat 32 c.bits, c.sat)

/-- The 64-bit product of two 32-bit words, as high and low halves. -/
def mulHiLo (a b : W32) : W32 × W32 :=
  let p := a.toNat * b.toNat
  (BitVec.ofNat 32 (p / 2 ^ 32), BitVec.ofNat 32 p)

/-- Ten rounds of Philox-4×32 (R119), as a fold over the round's key. -/
def philoxRounds : Nat → (W32 × W32 × W32 × W32) → W32 × W32 → (W32 × W32 × W32 × W32)
  | 0, c, _ => c
  | n + 1, (c0, c1, c2, c3), (k0, k1) =>
    let (hi0, lo0) := mulHiLo 0xD2511F53 c0
    let (hi1, lo1) := mulHiLo 0xCD9E8D57 c2
    philoxRounds n (hi1 ^^^ c1 ^^^ k0, lo1, hi0 ^^^ c3 ^^^ k1, lo0) (k0 + 0x9E3779B9, k1 + 0xBB67AE85)

/-- What a draw's counter is built from (R119, R120). -/
structure DrawPos where
  purpose : Nat
  layer : Nat
  tensor : Nat
  mb : Nat
  step : Nat
  seed : W64
  deriving DecidableEq, Repr

/-- The 32-bit draw of an element index (R119). -/
def drawOf (p : DrawPos) (idx : Nat) : Nat :=
  let c0 := BitVec.ofNat 32 (idx / 4)
  let c1 := BitVec.ofNat 32 ((idx / 2 ^ 34 % 256) * 2 ^ 24 + (p.tensor % 65536) * 256 + p.purpose % 256)
  let c2 := BitVec.ofNat 32 ((p.layer % 65536) * 65536 + p.mb % 65536)
  let c3 := BitVec.ofNat 32 p.step
  let k0 := BitVec.ofNat 32 p.seed.toNat
  let k1 := BitVec.ofNat 32 (p.seed.toNat / 2 ^ 32)
  let (w0, w1, w2, w3) := philoxRounds 10 (c0, c1, c2, c3) (k0, k1)
  (match idx % 4 with | 0 => w0 | 1 => w1 | 2 => w2 | _ => w3).toNat

end Sys2Proof.Machine
end

