-- ==== Sys2Proof/Machine/Array.lean ====
section
/-! DEFINITION. What the array computes: shapes and pairings (R59, R64), operands and their layouts (R83, R185), the
group sums and windows of a pass (R58 to R62, R89 to R92), the converter of a drain (R84 to R88). -/

namespace Sys2Proof.Machine
open Sys2Proof

/-! ## Shapes and pairings -/

/-- Rows and logical columns of a shape (R64). -/
def shapeM : Fin 4 → Nat | 0 => 1024 | 1 => 256 | 2 => 64 | _ => 16
def shapeN : Fin 4 → Nat | 0 => 1024 | 1 => 4096 | 2 => 16384 | _ => 65536

/-- What a pairing of R59 is: element formats, element size in half bytes, whether it is scaled, tagged and complex, and
its passes. -/
structure Pairing where
  a : Fmt
  b : Fmt
  half : Nat
  scaled : Bool
  tagged : Bool
  cplx : Bool
  passes : Nat
  deriving DecidableEq, Repr

def pairing : Nat → Option Pairing
  | 0 => some ⟨e4m3, e4m3, 2, true, false, false, 1⟩
  | 1 => some ⟨e4m3, e5m2, 2, true, true, false, 1⟩
  | 2 => some ⟨e5m2, e4m3, 2, true, true, false, 1⟩
  | 3 => some ⟨e5m2, e5m2, 2, true, true, false, 1⟩
  | 4 => some ⟨e2m1, e2m1, 1, true, false, false, 1⟩
  | 5 => some ⟨bf16, bf16, 4, false, true, false, 4⟩
  | 6 => some ⟨fp32, fp32, 8, false, true, false, 21⟩
  | 7 => some ⟨bf16, bf16, 4, false, true, true, 12⟩
  | _ => none

/-- k indices of a pass (R57): two a slice in F4F4. -/
def kIndex (pr k : Nat) : Nat := if pr = 4 then 2 * k else k
/-- Rounded up to a multiple of 128 (R185). -/
def kPad (k : Nat) : Nat := (k + 127) / 128 * 128
/-- Block size in k indices or elements (R184). -/
def blockSize (b : Nat) : Nat := 16 * 2 ^ b

/-- Fields of an MPASS descriptor (R184). -/
structure PassDesc where
  n : Nat
  m : Nat
  pair : Nat
  k : Nat
  aTr : Bool
  aScale : Nat
  aBlk : Nat
  aBase : Nat
  bTr : Bool
  bScale : Nat
  bBlk : Nat
  bBase : Nat
  deriving DecidableEq, Repr

def passDesc (d : List W64) : PassDesc where
  n := wbits d 0 63 47
  m := wbits d 0 46 36
  pair := wbits d 0 35 32
  k := wbits d 0 31 0
  aTr := wbits d 1 62 62 == 1
  aScale := wbits d 1 61 32
  aBlk := blockSize (wbits d 1 31 30)
  aBase := wbits d 1 29 0
  bTr := wbits d 2 62 62 == 1
  bScale := wbits d 2 61 32
  bBlk := blockSize (wbits d 2 31 30)
  bBase := wbits d 2 29 0

/-- The scale base NONE. -/
def scaleNone : Nat := 0x3FFFFFFF

/-! ## Operands -/

/-- One operand as the feed reads it: element bits by row or column and k index, and scale bytes by row and k index. -/
structure Operand where
  fmt : Fmt
  half : Nat
  tr : Bool
  base : Nat
  rows : Nat
  kIdx : Nat
  scale : Option Nat
  blk : Nat
  deriving DecidableEq, Repr

/-- Position of element (i, k) in elements from the base (R83, R185). A slice of F4F4 holds two k indices (R57): a byte
for each row, the even k index below (DEDUCED, notes/assumptions/75). -/
def Operand.at_ (o : Operand) (i k : Nat) : Nat :=
  if o.tr then i * kPad o.kIdx + k
  else if o.half = 1 then 2 * (k / 2 * o.rows + i) + k % 2
  else k * o.rows + i

/-- The encoding of an element. -/
def Operand.bits (o : Operand) (m : Mem) (i k : Nat) : Nat :=
  let p := o.at_ i k
  if o.half = 1 then (m.byte (o.base + p / 2)).toNat / 16 ^ (p % 2) % 16
  else m.readN (o.base + p * (o.half / 2)) (o.half / 2)

/-- The scale byte in force for an element: 2^0 for NONE (R83, R185). -/
def Operand.scaleByte (o : Operand) (m : Mem) (i k : Nat) : Nat :=
  match o.scale with
  | none => 127
  | some b =>
    let j := k / o.blk
    (m.byte (b + (if o.tr then i * (kPad o.kIdx / o.blk) + j else j * o.rows + i))).toNat

/-- Extent in bytes of the elements (R186). -/
def Operand.elemBytes (o : Operand) : Nat := ((if o.tr then kPad o.kIdx else o.kIdx) * o.rows * o.half + 1) / 2
/-- Extent in bytes of the scales (R186). -/
def Operand.scaleBytes (o : Operand) : Nat :=
  o.rows * (if o.tr then kPad o.kIdx / o.blk else (o.kIdx + o.blk - 1) / o.blk)

def PassDesc.opA (d : PassDesc) (p : Pairing) : Operand :=
  ⟨p.a, p.half, d.aTr, d.aBase, d.m, kIndex d.pair d.k, if p.scaled && d.aScale != scaleNone then some d.aScale else none, d.aBlk⟩
def PassDesc.opB (d : PassDesc) (p : Pairing) : Operand :=
  ⟨p.b, p.half, d.bTr, d.bBase, d.n, kIndex d.pair d.k, if p.scaled && d.bScale != scaleNone then some d.bScale else none, d.bBlk⟩
/-- The imaginary plane of a CBF16 operand follows the real one (R186). -/
def Operand.imag (o : Operand) : Operand := { o with base := o.base + o.elemBytes }

/-! ## Elements, tags and pieces (R60, R89) -/

/-- An element as the edge takes it: none when poisoned (R62), else its sign, significand and the exponent of the
significand's last bit. -/
def edge (f : Fmt) (w : Nat) : Option (Bool × Nat × Int) :=
  match f.decode w with
  | .fin n m e => some (n, m, e)
  | _ => none

/-- The exponent e of an element written 1.f × 2^e, the minimum normal exponent for a subnormal (R60). -/
def Fmt.exp (f : Fmt) (m : Nat) (e : Int) : Int := max (e + (Nat.log2 m : Int)) (1 - (f.bias : Int))

/-- The tag of a group's elements (R60). -/
def tagOf (f : Fmt) (es : List (Bool × Nat × Int)) : Int :=
  es.foldl (fun t x => if x.2.1 = 0 then t else max t (f.exp x.2.1 x.2.2)) (1 - (f.bias : Int))

/-- Number of 4-bit pieces of a significand, as the pairing cuts it (R89); a single-pass element is one piece. -/
def Fmt.cut (f : Fmt) : Nat := (f.fb + 1) / 4

/-- Piece p of a significand and the weight of its last bit (R89). -/
def pieceOf (f : Fmt) (multi : Bool) (p : Nat) (x : Bool × Nat × Int) : Bool × Nat × Int :=
  if multi then (x.1, x.2.1 / 16 ^ (f.cut - 1 - p) % 16, x.2.2 + 4 * (f.cut - 1 - p : Nat)) else x

/-- The piece pairs of a pairing in order (R90). -/
def pairOrder : Nat → List (Nat × Nat)
  | 5 | 7 => [(0, 0), (0, 1), (1, 0), (1, 1)]
  | 6 => (List.range 6).flatMap (fun t => (List.range (t + 1)).map (fun p => (p, t - p)))
  | _ => [(0, 0)]

/-- The exponent w of the window LSB (R59). -/
def windowExp (pr : Nat) (tA tB : Int) (p q : Nat) : Int :=
  match pr with
  | 0 => -18
  | 4 => -2
  | _ => tA + tB - 41 - 4 * ((p + q : Nat) : Int)

/-- A product as an integer multiple of 2^w, truncated toward zero in magnitude, and whether bits were lost (R61). -/
def productAt (w : Int) (a b : Bool × Nat × Int) : Int × Bool :=
  let m := a.2.1 * b.2.1
  let e := a.2.2 + b.2.2
  if w ≤ e then (sgn (a.1 != b.1) (m * 2 ^ (e - w).toNat), false)
  else
    let d := 2 ^ (w - e).toNat
    (sgn (a.1 != b.1) (m / d), m % d != 0)

/-- The sum S of a group's products and how many were truncated (R58, R61). -/
def groupSum (w : Int) (ps : List ((Bool × Nat × Int) × (Bool × Nat × Int))) : Int × Nat :=
  ps.foldl (fun r p => let x := productAt w p.1 p.2; (r.1 + x.1, r.2 + if x.2 then 1 else 0)) (0, 0)

/-- One rounding of a group into a bank entry (R58): the entry plus ±S × 2^e. -/
def roundGroup (acc : W32) (z : Int) (e : Int) : W32 := toF32 ((f32 acc).add (ofInt z e false))

/-! ## One entry of a pass (R113) -/

/-- What a pass makes of one output element: the entries of the bank or banks it adds to, poison, truncated products. -/
structure Cell where
  e0 : W32
  e1 : W32
  poison : Bool
  trunc : Nat
  deriving DecidableEq, Repr

/-- The elements of one row or column over a group's k indices, zero in place of a poisoned one, and whether any was. -/
def fetchGroup (f : Fmt) (get : Nat → Nat) (g0 g1 : Nat) : List (Bool × Nat × Int) × Bool :=
  let es := ((List.range (g1 - g0)).map (fun d => edge f (get (g0 + d))))
  (es.map (fun e => e.getD (false, 0, 0)), es.any Option.isNone)

/-- Round the piece pairs of one real product of a group into an entry, in order (R91). -/
def addProduct (pr : Nat) (fa fb : Fmt) (neg : Bool) (sc : Int) (as bs : List (Bool × Nat × Int)) (acc : W32 × Nat) :
    W32 × Nat :=
  let multi := 5 ≤ pr
  let tA := tagOf fa as
  let tB := tagOf fb bs
  (pairOrder pr).foldl (fun r pq =>
    let w := windowExp pr tA tB pq.1 pq.2
    let g := groupSum w ((as.map (pieceOf fa multi pq.1)).zip (bs.map (pieceOf fb multi pq.2)))
    (roundGroup r.1 (if neg then -g.1 else g.1) (w + sc), r.2 + g.2)) acc

/-- A CBF16 pre-add rounded to BF16, saturating (R92, R107): none when an input is poisoned; else the bits and whether it
saturated. -/
def preAdd (a b : Nat) (negB : Bool) : Option (Nat × Bool) :=
  match bf16.decode a, bf16.decode b with
  | .fin na ma ea, .fin nb mb eb =>
    let s := f32 (toF32 ((FVal.fin na ma ea).add (if negB then (FVal.fin nb mb eb).neg else .fin nb mb eb)))
    match s with
    | .inf n => some (bf16.sign n + bf16.maxMag, true)
    | v => let c := bf16.narrow .rne v; some (c.bits, c.sat)
  | _, _ => none

/-- One cell over one group of a pass that is not complex. A group with a NaN scale adds nothing, and its truncated products
are not counted (DESIGN CHOICE, notes/assumptions/75). -/
def realGroup (pr : Nat) (p : Pairing) (oa ob : Operand) (m : Mem) (i n g0 g1 : Nat) (c : Cell) : Cell :=
  let a := fetchGroup p.a (oa.bits m i) g0 g1
  let b := fetchGroup p.b (ob.bits m n) g0 g1
  let sa := oa.scaleByte m i g0
  let sb := ob.scaleByte m n g0
  let bad := sa = 255 || sb = 255
  let r := addProduct pr p.a p.b false ((sa : Int) - 127 + ((sb : Int) - 127)) a.1 b.1 (c.e0, c.trunc)
  if bad then { c with poison := true } else { c with e0 := r.1, trunc := r.2, poison := c.poison || a.2 || b.2 }

/-- The bits of a pre-add, with NaN standing for a poisoned sum. -/
def preBits (a b : Nat) (negB : Bool) : Nat := match preAdd a b negB with | some r => r.1 | none => bf16.nan

/-- One cell over one group of a CBF16 pass: k1 into both banks, k2 into bank 1, k3 into bank 0 negated (R92). -/
def cplxGroup (oa ob : Operand) (m : Mem) (i n g0 g1 : Nat) (c : Cell) : Cell :=
  let a := oa.bits m i
  let b := oa.imag.bits m i
  let cc := ob.bits m n
  let d := ob.imag.bits m n
  let ab := fetchGroup bf16 (fun k => preBits (a k) (b k) false) g0 g1
  let dc := fetchGroup bf16 (fun k => preBits (d k) (cc k) true) g0 g1
  let cd := fetchGroup bf16 (fun k => preBits (cc k) (d k) false) g0 g1
  let ga := fetchGroup bf16 a g0 g1
  let gb := fetchGroup bf16 b g0 g1
  let gc := fetchGroup bf16 cc g0 g1
  let r0 := addProduct 7 bf16 bf16 false 0 ab.1 gc.1 (c.e0, c.trunc)
  let r1 := addProduct 7 bf16 bf16 false 0 ab.1 gc.1 (c.e1, 0)
  let r1 := addProduct 7 bf16 bf16 false 0 ga.1 dc.1 (r1.1, r0.2)
  let r0 := addProduct 7 bf16 bf16 true 0 gb.1 cd.1 (r0.1, r1.2)
  { e0 := r0.1, e1 := r1.1, trunc := r0.2
    poison := c.poison || ab.2 || dc.2 || cd.2 || ga.2 || gb.2 || gc.2 }

/-- One output element over a whole pass, its groups in ascending order (R57, R113). -/
def passCell (d : PassDesc) (p : Pairing) (m : Mem) (i n : Nat) (c : Cell) : Cell :=
  let k := kIndex d.pair d.k
  (List.range ((k + 15) / 16)).foldl (fun c g =>
    let g0 := 16 * g
    let g1 := min (g0 + 16) k
    if p.cplx then cplxGroup (d.opA p) (d.opB p) m i n g0 g1 c
    else realGroup d.pair p (d.opA p) (d.opB p) m i n g0 g1 c) c

/-! ## Bank entries -/

def cellAt : Nat → W32 × Bool := fun _ => (0, false)
def cellKey (i n : Nat) : Nat := 65536 * i + n
def Bank.cell (b : Bank) (i n : Nat) : W32 × Bool := smGet cellAt b.cells (cellKey i n)
def Bank.setCell (b : Bank) (i n : Nat) (v : W32 × Bool) : Bank := { b with cells := smSet cellAt b.cells (cellKey i n) v }

/-- Fold over an m by n block. -/
def forBlock {α : Type} (m n : Nat) (f : α → Nat → Nat → α) (x : α) : α :=
  (List.range m).foldl (fun x i => (List.range n).foldl (fun x j => f x i j) x) x

/-- How many pre-adds of a CBF16 pass saturate, on the A side and on the B side (R107). -/
def preSats (d : PassDesc) (p : Pairing) (m : Mem) : Nat × Nat :=
  let sat (x : Option (Nat × Bool)) : Nat := match x with | some (_, true) => 1 | _ => 0
  let a := d.opA p
  let b := d.opB p
  (forBlock d.m d.k (fun t i k => t + sat (preAdd (a.bits m i k) (a.imag.bits m i k) false)) 0,
   forBlock d.n d.k (fun t i k => t + sat (preAdd (b.imag.bits m i k) (b.bits m i k) true)
     + sat (preAdd (b.bits m i k) (b.imag.bits m i k) false)) 0)

/-! ## Tensor-class counters and the sentinel (R109 to R111) -/

/-- Count saturations, non-finite inputs and underflows of a class; a non-finite count sets the sentinel, or the shadow
sentinel of the window the conversion belongs to. -/
def State.countConv (s : State) (c : CoreId) (win : Option (Fin 2)) (cls sat nonfin under : Nat) : State :=
  let s := ((s.bump (Reg.ARR_SAT c cls) sat).bump (Reg.ARR_NONFIN c cls) nonfin).bump (Reg.ARR_UNDER c cls) under
  if nonfin = 0 then s else
  let lo := match win with | none => 0 | some w => if w = 0 then 8 else 16
  s.setFld (Reg.ARR_SENTINEL c) (lo + cls) (lo + cls) 1

/-! ## Narrowed output rows (R84, R87, R88, R100, R104, R105) -/

/-- Element format of an output format code, none when it is reserved (R84). -/
def outFmt : Nat → Option Fmt
  | 0 => some fp32 | 1 => some bf16 | 2 => some fp16 | 3 => some e4m3 | 4 => some e5m2 | 5 => some e2m1 | _ => none
def outHalf : Nat → Nat | 0 => 8 | 1 => 4 | 2 => 4 | 5 => 1 | _ => 2
def isBsf (f : Nat) : Bool := f == 3 || f == 4 || f == 5

/-- The conversions of one row: element encodings, the scale byte of each block, and the counts. -/
structure RowOut where
  elems : List Nat
  scales : List Nat
  sat : Nat
  nonfin : Nat
  under : Nat
  deriving DecidableEq, Repr

def RowOut.add (r : RowOut) (c : Conv) : RowOut :=
  { r with elems := r.elems ++ [c.bits], sat := r.sat + c.sat.toNat, nonfin := r.nonfin + c.nonfin.toNat,
           under := r.under + c.under.toNat }

/-- A finite FP32 value is written unchanged as FP32 (R84). -/
def convOne (f : Fmt) (isF32 : Bool) (r : Rnd) (v : W32) : Conv :=
  match f32 v with
  | .fin .. => if isF32 then ⟨v.toNat, false, false, false⟩ else f.narrow r (f32 v)
  | x => f.narrow .rne x

/-- Blocks of a row of values: one scale each, and the elements narrowed with it (R87, R100). -/
def convBlocks (f : Fmt) (blk : Nat) (rnd : Nat → Rnd) (vs : List W32) : Nat → Nat → RowOut → RowOut
  | 0, _, r => r
  | fuel + 1, j, r =>
    let b := (vs.drop (j * blk)).take blk
    if b.isEmpty then r else
    let x := chooseScale f (b.map f32)
    let r := { r with scales := r.scales ++ [x] }
    let r := (b.zipIdx).foldl (fun r v => r.add (f.narrowScaled (rnd (j * blk + v.2)) x (f32 v.1))) r
    convBlocks f blk rnd vs fuel (j + 1) r

/-- One row narrowed to an output format, with the rounding of each element. -/
def convRow (fmt : Nat) (blk : Nat) (rnd : Nat → Rnd) (vs : List W32) : RowOut :=
  match outFmt fmt with
  | none => ⟨[], [], 0, 0, 0⟩
  | some f =>
    if isBsf fmt then convBlocks f blk rnd vs vs.length 0 ⟨[], [], 0, 0, 0⟩
    else (vs.zipIdx).foldl (fun r v => r.add (convOne f (fmt == 0) (rnd v.2) v.1)) ⟨[], [], 0, 0, 0⟩

/-- Pack element encodings into bytes: 4-bit elements two a byte, the even one in bits [3:0], a last odd one with +0
above it (R88, R98). -/
def packElems (half : Nat) : List Nat → List Byte
  | [] => []
  | [x] => leBytes x ((half + 1) / 2)
  | x :: y :: t => if half = 1 then BitVec.ofNat 8 (x % 16 + 16 * (y % 16)) :: packElems half t
    else leBytes x (half / 2) ++ packElems half (y :: t)

end Sys2Proof.Machine
end

