-- ==== Sys2Proof/Machine/ArrayIssue.lean ====
section
/-! DEFINITION. The M class at issue (R181 to R188): the projected shape and tags, the checks, and the grant into
crossing 1. -/

namespace Sys2Proof.Machine
open Sys2Proof

/-! ## Projection (R75, R181) -/

/-- What a bank and the shape will be after the commands ahead. -/
structure Proj where
  shape : Fin 4
  st : Vector BankState 2
  tag : Vector (Fin 4) 2
  any : Vector Bool 2
  deriving DecidableEq, Repr

/-- The settled state of a bank: what its command in progress leaves. -/
def settledBank (b : Bank) : BankState × Bool :=
  match b.state, b.cmd with
  | .loading, _ => (.loaded, b.anyShape)
  | .active, _ => (.full, false)
  | .draining, some ⟨.drain clear _, _, _, _⟩ => if clear then (.loaded, true) else (.draining, false)
  | st, _ => (st, b.anyShape)

/-- The projection of the array as it stands. -/
def Arr.proj (a : Arr) : Proj where
  shape := a.shape
  st := a.bank.map (fun b => (settledBank b).1)
  tag := a.bank.map (·.tag)
  any := a.bank.map (fun b => (settledBank b).2)

/-- The banks that a command names: both for a CBF16 pass, whose BANK field is ignored (R76; DESIGN CHOICE,
notes/assumptions/75). -/
def ArrCmd.banks (k : ArrCmd) : List (Fin 2) :=
  match k.op with
  | .shape _ => []
  | .pass _ => if wbits k.desc 0 35 32 = 7 then [0, 1] else [k.bank]
  | _ => [k.bank]

/-- The projection after one more command. -/
def Proj.step (p : Proj) (k : ArrCmd) : Proj :=
  match k.op with
  | .shape sh => { p with shape := sh }
  | .pre mode => { p with st := vset p.st k.bank .loaded, tag := vset p.tag k.bank p.shape, any := vset p.any k.bank (mode = 0) }
  | .pass _ => k.banks.foldl (fun p b => { p with
      st := vset p.st b .full, tag := if vget p.any b then vset p.tag b p.shape else p.tag, any := vset p.any b false }) p
  | .drain clear _ => { p with st := vset p.st k.bank (if clear then .loaded else .draining), any := vset p.any k.bank clear }

/-- The projection at the array, of accepted commands; and at the feed die, of granted ones. -/
def State.projArr (s : State) (c : CoreId) : Proj := (s.core c).arr.queue.foldl Proj.step (s.core c).arr.proj
def State.projFeed (s : State) (c : CoreId) : Proj := (s.core c).arr.xing.foldl Proj.step (s.projArr c)

/-! ## Grant -/

/-- An M-class instruction at issue (R76, R134): it waits for a bank of another sequencer, counted once in
ARR_BANK_STALL, for room in crossing 1, and for the arbiter; then it is checked and its command enters crossing 1. -/
def State.issueM (s : State) (c : CoreId) (q : SeqId) (banks : List (Fin 2)) (mk : State → Except EvName ArrCmd) : Issued :=
  if !banks.all (s.bankFree c q) then
    .wait (if (s.seq c q).bankWait then s
      else (s.bump (Reg.ARR_BANK_STALL c) 1).modSeq c q (fun z => { z with bankWait := true }))
  else if !s.hasRoom c .array || s.arbiter c .array q != some q then .wait s
  else match mk s with
    | .error e => .fault e []
    | .ok k => .retire (((s.grant c .array q).modArr c (fun a => { a with xing := a.xing ++ [k] })).accepted c q)

def bankOf (w : EF) : Fin 2 := if w.xf.getLsbD 4 then 1 else 0

/-- MSHAPE (R182): SHAPE in XF[25:24]. -/
def execMshape (c : CoreId) (q : SeqId) (w : EF) (s : State) : Out :=
  s.issueE c q w (w.xf.toNat / 4 != 0) (fun s x =>
    s.issueM c q [] (fun s => .ok ⟨.shape (Fin.ofNat 4 w.xf.toNat), 0, [], s.originE c q x w.hv w.hid w.sb⟩))

/-- The extent of a TILE or BIAS preload under a shape (R183). -/
def preExtent (mode : Nat) (sh : Fin 4) (d : List W64) : Nat × Nat :=
  let src := wbits d 0 29 0
  if mode = 1 then (src, shapeN sh * 4) else (src, (shapeM sh - 1) * wbits d 0 47 32 * 64 + shapeN sh * 4)

/-- MPRE (R183): BANK in XF[28], MODE in XF[27:26]. -/
def execMpre (c : CoreId) (q : SeqId) (w : EF) (s : State) : Out :=
  let mode := w.xf.toNat / 4 % 4
  s.issueE c q w (w.xf.toNat % 4 != 0) (fun s x =>
    let org := s.originE c q x w.hv w.hid w.sb
    if mode = 1 || mode = 2 then
      s.withDesc c q w.sd w.doff.toNat 8 (fun d =>
        s.issueM c q [bankOf w] (fun s =>
          if !zeroBits d [(0, 63, 48), (0, 31, 30)] then .error .xIllegal
          else if wbits d 0 29 0 % 64 != 0 then .error .xAlign
          else
            let e := preExtent mode (s.projFeed c).shape d
            match s.access c q org.win .read e.1 e.2 with
            | .error f => .error f
            | .ok a => .ok ⟨.pre (BitVec.ofNat 2 mode), bankOf w, putOff d 0 0 a, org⟩))
    else s.issueM c q [bankOf w] (fun _ => .ok ⟨.pre (BitVec.ofNat 2 mode), bankOf w, [], org⟩))

/-- The checks of an MPASS (R184 to R186): the words with redirected addresses, or the fault. The addresses of an empty pass
are not checked (R54). -/
def State.checkPass (s : State) (c : CoreId) (q : SeqId) (win : Option (Fin 2)) (d : List W64) : Except EvName (List W64) :=
  let p := passDesc d
  let sh := (s.projFeed c).shape
  if !zeroBits d [(1, 63, 63), (2, 63, 63), (3, 63, 0)] || shapeM sh < p.m || shapeN sh < p.n
      || ((p.aTr || p.bTr) && (p.pair == 6 || p.pair == 7)) then .error .xIllegal
  else match pairing p.pair with
    | none => .ok d
    | some pr =>
      if p.k = 0 || p.m = 0 || p.n = 0 then .ok d else
      let a := p.opA pr
      let b := p.opB pr
      let planes := if pr.cplx then 2 else 1
      if p.aBase % 64 != 0 || p.bBase % 64 != 0 || (a.scale.isSome && p.aScale % 64 != 0)
          || (b.scale.isSome && p.bScale % 64 != 0) then .error .xAlign
      else
        match s.checkExtents c q win [⟨p.aBase, planes * a.elemBytes, false⟩,
            ⟨p.aScale, if a.scale.isSome then a.scaleBytes else 0, false⟩, ⟨p.bBase, planes * b.elemBytes, false⟩,
            ⟨p.bScale, if b.scale.isSome then b.scaleBytes else 0, false⟩] with
        | .error e => .error e
        | .ok [a0, a1, b0, b1] => .ok (putOff (putOff (putOff (putOff d 1 0 a0) 1 32 a1) 2 0 b0) 2 32 b1)
        | .ok _ => .ok d

/-- MPASS (R184): BANK in XF[28], ACC in XF[27]. -/
def execMpass (c : CoreId) (q : SeqId) (w : EF) (s : State) : Out :=
  s.issueE c q w (w.xf.toNat % 8 != 0) (fun s x =>
    let org := s.originE c q x w.hv w.hid w.sb
    s.withDesc c q w.sd w.doff.toNat 32 (fun d =>
      s.issueM c q (if wbits d 0 35 32 = 7 then [0, 1] else [bankOf w]) (fun s =>
        match s.checkPass c q org.win d with
        | .error e => .error e
        | .ok d => .ok ⟨.pass (w.xf.getLsbD 3), bankOf w, d, org⟩)))

/-- Bytes of n elements of an output format. -/
def fmtBytes (fmt n : Nat) : Nat := (n * outHalf fmt + 1) / 2

/-- The checks of an MDRAIN (R187, R188); the addresses of an empty one are not checked (R54). -/
def State.checkDrain (s : State) (c : CoreId) (q : SeqId) (win : Option (Fin 2)) (b : Fin 2) (d : List W64) :
    Except EvName (List W64) :=
  let fmt := wbits d 1 18 16
  let m := wbits d 1 42 32
  let n := wbits d 1 59 43
  let pitch := wbits d 1 15 0 * 64
  let tagN := shapeN (vget (s.projFeed c).tag b)
  if !zeroBits d [(0, 63, 62), (1, 63, 60), (1, 31, 22), (2, 63, 42), (3, 31, 24), (4, 63, 32), (5, 63, 0), (6, 63, 0),
      (7, 63, 0)] then .error .xIllegal
  else if (outFmt fmt).isNone || 5 ≤ wbits d 1 21 19 || m = 0 || n = 0 then .ok d
  else if 1 < m && pitch < fmtBytes fmt n then .error .xIllegal
  else if wbits d 0 29 0 % 64 != 0 || (isBsf fmt && wbits d 0 61 32 % 64 != 0) then .error .xAlign
  else
    match s.checkExtents c q win [⟨wbits d 0 29 0, (m - 1) * pitch + fmtBytes fmt n, true⟩,
        ⟨wbits d 0 61 32, if isBsf fmt then m * (tagN / blockSize (wbits d 0 31 30)) else 0, true⟩] with
    | .error e => .error e
    | .ok [a, b] => .ok (putOff (putOff d 0 0 a) 0 32 b)
    | .ok _ => .ok d

/-- MDRAIN (R187): BANK in XF[28], CLEAR in XF[27], SR in XF[26]. -/
def execMdrain (c : CoreId) (q : SeqId) (w : EF) (s : State) : Out :=
  s.issueE c q w (w.xf.toNat % 4 != 0) (fun s x =>
    let org := s.originE c q x w.hv w.hid w.sb
    s.withDesc c q w.sd w.doff.toNat 64 (fun d =>
      s.issueM c q [bankOf w] (fun s =>
        match s.checkDrain c q org.win (bankOf w) d with
        | .error e => .error e
        | .ok d => .ok ⟨.drain (w.xf.getLsbD 3) (w.xf.getLsbD 2), bankOf w, d, org⟩)))

end Sys2Proof.Machine
end

