-- ==== Sys2Proof/Machine/ArrayRun.lean ====
section
/-! DEFINITION. What the array does with its commands (R70 to R88): acceptance, reconfiguration, preloads, passes and
drains. -/

namespace Sys2Proof.Machine
open Sys2Proof

/-- The faults of a command against the projection (R59, R66, R75, R77, R81, R94); none when it is valid. Where several
hold for one command, the order is ARR_FORMAT, ARR_BANK_STATE, ARR_SHAPE_FORMAT, ARR_SHAPE_MISMATCH (DESIGN CHOICE,
notes/assumptions/75). -/
def arrFault (p : Proj) (k : ArrCmd) : Option EvName :=
  match k.op with
  | .shape _ => none
  | .pre mode =>
    if mode = 3 then some .arrBankState else
    match vget p.st k.bank with
    | .empty | .loaded | .draining => none
    | _ => some .arrBankState
  | .drain _ _ =>
    if (outFmt (wbits k.desc 1 18 16)).isNone || 5 ≤ wbits k.desc 1 21 19 then some .arrFormat
    else if vget p.st k.bank = .full then none else some .arrBankState
  | .pass acc =>
    let d := passDesc k.desc
    match pairing d.pair with
    | none => some .arrFormat
    | some pr =>
      if !k.banks.all (fun b => vget p.st b = .loaded || (acc && vget p.st b = .full)) then some .arrBankState
      else if pr.tagged && p.shape != 0 then some .arrShapeFormat
      else if 2 ≤ p.shape.val && d.bBlk = 16 then some .arrShapeFormat
      else if k.banks.any (fun b => !vget p.any b && vget p.tag b != p.shape) then some .arrShapeMismatch
      else none

/-- The array takes the next command from crossing 1 and checks it (R75). While the core is Idle it waits there (R29). -/
def execArrayCommandAccept (c : CoreId) (s : State) : Out :=
  if s.coreIdle c then .next s else
  match (s.core c).arr.xing with
  | [] => .next s
  | k :: t =>
    let e := arrFault (s.projArr c) k
    let s := (s.rouse 1 c (s.core c).arrHolds).modArr c (fun a => { a with xing := t })
    match e with
    | some e => .next (s.seqFault k.org e [])
    | none => .next (s.modArr c (fun a => { a with queue := a.queue ++ [k] }))

/-- Take the command at the head of the queue. -/
def State.popArr (s : State) (c : CoreId) : State :=
  (s.beat 1 c).modArr c (fun a => { a with queue := a.queue.tail, headStall := false })

/-- MSHAPE at the head of the queue takes effect once no pass is in the edges or ACTIVE (R81); it completes (R182). -/
def execShapeReconfigured (c : CoreId) (s : State) : Out :=
  let a := (s.core c).arr
  match a.queue with
  | ⟨.shape sh, _, _, o⟩ :: _ =>
    if a.passes.isEmpty && a.bank.toList.all (fun b => b.state != .active) && !s.coreHeld c then
      .next (((s.popArr c).modArr c (fun a => { a with shape := sh })).complete o unitArr)
    else .next s
  | _ => .next s

/-- A preload starts (R74): the bank is taken from EMPTY by the issuing sequencer, with the current shape as its tag. -/
def startPre (sh : Fin 4) (k : ArrCmd) (b : Bank) : Bank :=
  { b with state := .loading, owner := (match b.owner with | none => some k.org.seq | o => o), tag := sh,
           anyShape := (match k.op with | .pre m => m = 0 | _ => false), cmd := some k, win := k.org.win }

/-- MPRE at the head of the queue starts on an EMPTY or LOADED bank, or one already LOADING behind its drain (R74, R77,
R78). A BIAS or TILE preload in mitten-64 or mitten-16 waits for the edges (R77). -/
def execPreloadStart (c : CoreId) (s : State) : Out :=
  let a := (s.core c).arr
  match a.queue with
  | k :: _ =>
    match k.op with
    | .pre mode =>
      let b := vget a.bank k.bank
      if !s.coreHeld c && (b.state = .empty || b.state = .loaded || (b.state = .loading && b.cmd.isNone))
          && !(mode != 0 && 2 ≤ a.shape.val && !a.passes.isEmpty) then
        .next ((s.popArr c).modBank c k.bank (startPre a.shape k))
      else .next s
    | _ => .next s
  | [] => .next s

/-- The contents a preload leaves (R77, R82): +0, a vector in every row, or a tile in logical layout. -/
def preloadCells (m : Mem) (sh : Fin 4) (mode : Nat) (d : List W64) (b : Bank) : Bank :=
  let src := wbits d 0 29 0
  let pitch := wbits d 0 47 32 * 64
  let b := { b with cells := [] }
  if mode = 0 then b else
  forBlock (shapeM sh) (shapeN sh) (fun b i n =>
    b.setCell i n (BitVec.ofNat 32 (m.readN (src + (if mode = 1 then 0 else i * pitch) + 4 * n) 4), false)) b

/-- The last write of a preload (R74): LOADED, and complete. -/
def execPreloadComplete (c : CoreId) (b : Fin 2) (s : State) : Out :=
  let k := s.bank c b
  match k.state, k.cmd with
  | .loading, some ⟨.pre mode, _, d, o⟩ =>
    .next (((s.beat 1 c).modBank c b (fun k => { preloadCells (s.core c).store k.tag mode.toNat d k with state := .loaded, cmd := none })).complete o unitArr)
  | _, _ => .next s

/-- A bank that a pass may enter now (R72, R74, R75). -/
def passReady (acc : Bool) (b : Bank) : Bool :=
  b.state = .loaded || (acc && (b.state = .full || b.state = .active))

/-- Products a pass forms, in units of 2^18 (R93, ARR_PRODUCTS): 4·u·g in each of its r·P·K cycles, and u·r is 1 in
every shape. -/
def passProducts (d : PassDesc) (p : Pairing) : Nat := 4 * (if d.pair = 4 then 2 else 1) * p.passes * d.k

/-- One bank after a pass: each active cell takes its new entry and its poison (R58, R62, R83). A cell outside the active
rows and columns takes neither, whatever lane crosses it (DESIGN CHOICE, notes/assumptions/75). -/
def passBank (d : PassDesc) (p : Pairing) (m : Mem) (second : Bool) (b : Bank) (b0 b1 : Bank) : Bank :=
  forBlock d.m d.n (fun b i n =>
    let e0 := b0.cell i n
    let e1 := b1.cell i n
    let r := passCell d p m i n ⟨e0.1, e1.1, false, 0⟩
    b.setCell i n (if second then r.e1 else r.e0, r.poison || (if second then e1.2 else e0.2))) b

/-- Truncated products of a pass, and whether any element was poisoned (R61, R62). -/
def passNotes (d : PassDesc) (p : Pairing) (m : Mem) : Nat × Bool :=
  forBlock d.m d.n (fun t i n =>
    let r := passCell d p m i n ⟨0, 0, false, 0⟩
    (t.1 + r.trunc, t.2 || r.poison)) (0, false)

/-- The effects of a pass at its start: operands read, its sums added to its bank or banks, its counts and events. -/
def State.runPass (s : State) (c : CoreId) (k : ArrCmd) (p : Pairing) : State :=
  let d := passDesc k.desc
  let m := (s.core c).store
  let b0 := s.bank c (if p.cplx then 0 else k.bank)
  let b1 := s.bank c 1
  let notes := passNotes d p m
  let s := if p.cplx then
      (s.modBank c 0 (fun b => passBank d p m false b b0 b1)).modBank c 1 (fun b => passBank d p m true b b0 b1)
    else s.modBank c k.bank (fun b => passBank d p m false b b0 b1)
  let s := if p.cplx then
      let t := preSats d p m
      (s.countConv c k.org.win 0 t.1 0 0).countConv c k.org.win 1 t.2 0 0
    else s
  let s := s.bump (Reg.ARR_WINDOW_TRUNC c) notes.1
  let s := if notes.1 != 0 && s.fld (Reg.ARR_CFG c) 1 1 = 1 then
    s.raiseRec .arrWindowTrunc false ⟨some k.org.ctx, some c, some k.org.seq⟩ 0 [] else s
  let s := if notes.2 && s.fld (Reg.ARR_CFG c) 0 0 = 1 then
    s.raiseRec .arrPoison false ⟨some k.org.ctx, some c, some k.org.seq⟩ 0 [] else s
  s.modArr c (fun a => { a with products := a.products + BitVec.ofNat 64 (passProducts d p) })

/-- A pass reaches T0 (R71, R74): its banks are ACTIVE, take the current shape where ZERO or CLEAR left them without one
(R81), and belong to its window. A pass whose bank is not ready is a stall (R79). An empty pass moves a LOADED or FULL bank
at once, and waits for one that is ACTIVE (R75, R85). -/
def execPassStart (c : CoreId) (s : State) : Out :=
  let a := (s.core c).arr
  match a.queue with
  | k :: _ =>
    match k.op, pairing (passDesc k.desc).pair with
    | .pass acc, some p =>
      if s.coreHeld c then .next s else
      let d := passDesc k.desc
      let empty : Bool := d.k = 0 || d.m = 0 || d.n = 0
      if !k.banks.all (fun b => passReady acc (vget a.bank b) && !(empty && (vget a.bank b).state = .active)) then
        .next (if a.headStall then s else
          (s.bump (Reg.ARR_BANK_STALL c) 1).modArr c (fun a => { a with headStall := true }))
      else
        let s := s.popArr c
        let enter (st : BankState) (s : State) : State := k.banks.foldl (fun s b => s.modBank c b (fun z => { z with
          state := st, tag := if z.anyShape then a.shape else z.tag, anyShape := false, win := k.org.win })) s
        if empty then .next ((enter .full s).complete k.org unitArr)
        else .next (((enter .active s).runPass c k p).modArr c (fun a => { a with passes := a.passes ++ [k] }))
    | _, _ => .next s
  | [] => .next s

/-- t_full of the oldest pass (R70): its banks are FULL unless a continuing pass is in them (R72), and it completes. -/
def execPassComplete (c : CoreId) (s : State) : Out :=
  match (s.core c).arr.passes with
  | [] => .next s
  | k :: t =>
    let s := (s.beat 1 c).modArr c (fun a => { a with passes := t })
    let s := k.banks.foldl (fun s b =>
      if t.any (fun j => j.banks.contains b) then s
      else s.modBank c b (fun z => if z.state = .active then { z with state := .full } else z)) s
    .next (s.complete k.org unitArr)

/-- MDRAIN at the head of the queue starts on its FULL bank, which is the drain's window's from then on (R74, R86). -/
def execDrainStart (c : CoreId) (s : State) : Out :=
  match (s.core c).arr.queue with
  | k :: _ =>
    match k.op with
    | .drain _ _ =>
      if (s.bank c k.bank).state = .full && !s.coreHeld c then
        .next ((s.popArr c).modBank c k.bank (fun z => { z with state := .draining, cmd := some k, win := k.org.win }))
      else .next s
    | _ => .next s
  | [] => .next s

/-- Generator seed of a context (R119). -/
def State.seedOf (s : State) (x : CtxId) : W64 := (s.ctx x).seed

/-- Write one drained row: elements at the destination, scales of its blocks, counts of its class (R87, R88). A drain of
more rows or columns than the shape of the bank's tag has covers those of the shape (DESIGN CHOICE,
notes/assumptions/75). -/
def State.drainRow (s : State) (c : CoreId) (k : ArrCmd) (sr : Bool) (b : Bank) (i : Nat) : State :=
  let d := k.desc
  let fmt := wbits d 1 18 16
  let n := min (wbits d 1 59 43) (shapeN b.tag)
  let pos : DrawPos := ⟨0, wbits d 3 47 32, wbits d 3 63 48, k.org.mb.toNat, wbits d 4 31 0, s.seedOf k.org.ctx⟩
  let rnd (j : Nat) : Rnd := if sr then
    .draw (drawOf pos ((wbits d 2 41 0 + i * wbits d 3 23 0 + j) % 2 ^ 42)) else .rne
  let vs := (List.range n).map (fun j => let e := b.cell i j; if e.2 then (0x7FC00000 : W32) else e.1)
  let blk := blockSize (wbits d 0 31 30)
  let r := convRow fmt blk rnd vs
  let s := s.modStore c (fun m => Mem.setBytes m (wbits d 0 29 0 + i * (wbits d 1 15 0 * 64)) (packElems (outHalf fmt) r.elems))
  let s := s.modStore c (fun m => Mem.setBytes m (wbits d 0 61 32 + i * (shapeN b.tag / blk)) (r.scales.map (BitVec.ofNat 8)))
  s.countConv c k.org.win (wbits d 1 21 19) r.sat r.nonfin r.under

/-- The last row of a drain is written (R86): the bank goes to LOADED with CLEAR, to LOADING with an MPRE queued behind,
else to EMPTY and to no owner (R74). The write of a TILE that follows the drain is its PRELOAD_COMPLETE: the bank never
goes to LOADED here (DESIGN CHOICE, notes/assumptions/75). A bank that waits for a preload is in the window of that
preload. -/
def execDrainComplete (c : CoreId) (b : Fin 2) (s : State) : Out :=
  let k := s.bank c b
  match k.state, k.cmd with
  | .draining, some cmd =>
    match cmd.op with
    | .drain clear sr =>
      let m := min (wbits cmd.desc 1 42 32) (shapeM k.tag)
      let s := if wbits cmd.desc 1 59 43 = 0 then s else (List.range m).foldl (fun s i => s.drainRow c cmd sr k i) s
      let pre := (s.core c).arr.queue.find? (fun j => (match j.op with | .pre _ => true | _ => false) && j.bank = b)
      .next (((s.beat 1 c).modBank c b (fun z =>
        if clear then { z with state := .loaded, cells := [], anyShape := true, cmd := none }
        else match pre with
          | some j => { z with state := .loading, cells := [], cmd := none, win := j.org.win }
          | none => Bank.reset)).complete cmd.org unitArr)
    | _ => .next s
  | _, _ => .next s

end Sys2Proof.Machine
end

