-- ==== Sys2Proof/Machine/Crc.lean ====
section
/-! DEFINITION. CRC-32C (Castagnoli) over bytes, which split slots, photos, images and start records carry (R421, R451, R491,
R496). -/

namespace Sys2Proof.Machine
open Sys2Proof

/-- One bit of the division by 0x1EDC6F41, least significant bit first. -/
def crcBit (c : W32) : W32 := if c.getLsbD 0 then (c >>> 1) ^^^ 0x82F63B78#32 else c >>> 1

def crcByte (c : W32) (b : Byte) : W32 :=
  crcBit (crcBit (crcBit (crcBit (crcBit (crcBit (crcBit (crcBit (c ^^^ b.setWidth 32))))))))

/-- A running CRC: it starts at all ones, and its complement is the check value. -/
def crcOn (c : W32) (bs : List Byte) : W32 := bs.foldl crcByte c
def crcStart : W32 := 0xFFFFFFFF
def crc32c (bs : List Byte) : W32 := ~~~(crcOn crcStart bs)

end Sys2Proof.Machine
end

