-- ==== Sys2Proof/Machine/Photo.lean ====
section
/-! DEFINITION. The photo (R449 to R451): its start, the units that time out, and its bytes. -/

namespace Sys2Proof.Machine
open Sys2Proof

/-! ## Causes (R450) -/

def phWatchdog : Nat := 1
def phHost : Nat := 2
def phRefclk : Nat := 3
def phOos : Nat := 4
def phReset : Nat := 5

/-! ## The units (R449) -/

/-- The 130 unit IDs in table order: class in bits [15:8], instance in bits [7:0]; class 1 has seven units a core. -/
def photoUnits : List Nat :=
  (List.range 8).flatMap (fun c => (List.range 7).map (fun i => 0x100 + 8 * c + i))
    ++ (List.range 32).map (0x200 + ·) ++ (List.range 16).map (0x300 + ·) ++ (List.range 16).map (0x400 + ·)
    ++ (List.range 4).map (0x500 + ·) ++ (List.range 6).map (0x600 + ·)

/-- The visit: the unit that caused the photo first. -/
def visit (u : Option Nat) : List Nat :=
  match u with
  | some i => i :: photoUnits.filter (· != i)
  | none => photoUnits

/-- The photo units of a unit of the gauntlet (R510). -/
def gntPhoto (u : Nat) : List Nat :=
  if u < 8 then (List.range 7).map (0x100 + 8 * u + ·)
  else if u < 24 then [0x300 + (u - 8)]
  else if u < 40 then [0x400 + (u - 24)]
  else if u < 48 then (List.range 4).map (0x200 + 4 * (u - 40) + ·)
  else if u < 56 then []
  else if u < 58 then (List.range 3).map (0x600 + 3 * (u - 56) + ·)
  else if u = 58 then [0x500] else [0x501, 0x502, 0x503]

/-- A photo starts, once the other management die acknowledges it (R486), or its cause is counted as missed while one is being
taken. A unit under test in service does not answer
(R523). -/
def State.startPhoto (s : State) (cause : Nat) (u : Option Nat) : State :=
  if s.twoCrowns then { s with crown := { s.crown with waits := s.crown.waits ++ [.photo cause u] } }
  else if s.photoRun.isSome then s.bumpFld Reg.HNG_PHOTO_STATUS 31 24 1
  else
    let busy := if s.fld Reg.GNT_STATUS 31 30 = 2 then gntPhoto (s.fld Reg.GNT_STATUS 27 22) else []
    let outs := (List.range 130).filterMap (fun n =>
      if busy.contains (((visit u)[n]?).getD 0) then some (n, 2, s.ptb) else none)
    { s with photoRun := some ⟨cause, u, s.ptb, outs⟩ }

/-- When the visit last gave a unit up, or began (R449). -/
def Photo.last (p : Photo) : Nat := (p.outs.map (·.2.2.toNat)).foldl max p.ptb.toNat

/-- The n-th unit of the visit does not start sending, or stops part way, within UNIT_US. Units are asked one after another, so that
it is no earlier than UNIT_US after the one given up before it. -/
def execPhotoUnitTimeout (n : Nat) (started : Bool) (t : W64) (s : State) : Out :=
  match s.photoRun with
  | none => .next s
  | some p =>
    if 130 ≤ n || p.outs.any (fun o => o.1 = n) || t.toNat < p.last + max 1 (s.fld Reg.HNG_PHOTO_CFG 15 0) * 1000 then .next s
    else
      let s := s.atTime t
      .next { s with photoRun := some { p with outs := p.outs ++ [(n, if started then 1 else 2, s.ptb)] } }

/-! ## Its bytes (R451) -/

/-- Zero bytes up to a multiple of 16. -/
def pad16 (bs : List Byte) : List Byte := bs ++ List.replicate ((16 - bs.length % 16) % 16) 0

/-- The record of a unit: its ID, status, PTB and data; with `room` bytes left in the 2 MiB buffer, what does not fit is
PARTIAL with length zero. -/
def unitRecord (room id st : Nat) (ptb : W64) (data : List Byte) : List Byte × Nat :=
  let data := if st = 2 then [] else data
  let fits := decide (16 + (pad16 data).length ≤ room)
  let st := if fits then st else if st = 2 then 2 else 1
  let data := if fits then data else []
  (leBytes (id * 2 ^ 48 + st * 2 ^ 46 + data.length) 8 ++ leBytes ptb.toNat 8 ++ pad16 data, st)

/-- The records of the visit from the n-th unit on, with the statuses they carry. Room is kept for the headers of the units
that follow. -/
def photoRecords (p : Photo) : Nat → Nat → List Nat → List (W64 × List Byte) → List Byte × List Nat
  | _, _, [], _ => ([], [])
  | n, room, id :: ids, recs =>
    let r := recs.head?.getD (0, [])
    let o := p.outs.find? (fun o => o.1 = n)
    let st := match o with | some o => o.2.1 | none => 0
    let u := unitRecord (room - 16 * ids.length) id st (match o with | some o => if o.2.1 = 2 then o.2.2 else r.1 | none => r.1) r.2
    let t := photoRecords p (n + 1) (room - u.1.length) ids recs.tail
    (u.1 ++ t.1, u.2 :: t.2)

/-- The photo: the header and its records, and the counts of PARTIAL and NO_ANSWER. -/
def photoBytes (p : Photo) (recs : List (W64 × List Byte)) : List Byte × Nat × Nat :=
  let r := photoRecords p 0 (2 ^ 21 - 64) (visit p.unit) recs
  let w0 := 0x06 * 2 ^ 56 + p.cause * 2 ^ 48 + (match p.unit with | some i => i | none => 0xFFFF) * 2 ^ 32 + (64 + r.1.length)
  let head := leBytes w0 8 ++ leBytes p.ptb.toNat 8 ++ leBytes 130 8 ++ leBytes (crc32c r.1).toNat 8
  (head ++ List.replicate 32 0 ++ r.1, r.2.count 1, r.2.count 2)

/-- Bytes as 32-bit words. -/
def wordsOf : Nat → List Byte → List W32
  | 0, _ => []
  | fuel + 1, bs => if bs.isEmpty then [] else BitVec.ofNat 32 (leNat (bs.take 4)) :: wordsOf fuel (bs.drop 4)

/-- A photo ends: the buffer, the photo sector, the counts and X_PHOTO. -/
def State.finishPhoto (s : State) (p : Photo) (recs : List (W64 × List Byte)) : State :=
  let b := photoBytes p recs
  let ws := wordsOf b.1.length b.1
  let s := { s with photo := ws, photoSector := ws, photoRun := none }
  let s := ((s.setFld Reg.HNG_PHOTO_STATUS 7 0 130).setFld Reg.HNG_PHOTO_STATUS 15 8 b.2.1).setFld Reg.HNG_PHOTO_STATUS 23 16 b.2.2
  s.event .xPhoto [.small 8 p.cause, .word b.2.2]

end Sys2Proof.Machine
end

