-- ==== Sys2Proof/Machine/FlitBytes.lean ====
section
/-! DEFINITION. The bytes of the links: a message (R325, R353, R424), and a flit with its header, its payload and its CRC-32C
(R322, R323). A payload or a field whose layout the spec does not give is an opaque constant of Config (notes/assumptions/81). -/

namespace Sys2Proof.Machine
open Sys2Proof

/-! ## Sizes of messages (R325, R353, R365, R424) -/

def relayLen : RelayBody → Nat
  | .data _ bs => bs.length
  | .rows _ rs => (rs.map (fun r => 16 + r.bytes.length)).sum
  | _ => 0

def splitLen : SplitKind → Nat
  | .data bs | .readRsp bs => bs.length
  | _ => 0

/-- Length of a message's body. -/
def wireLen : MsgBody → Nat
  | .rdRsp _ => 256
  | .wr _ bs => if bs.length = 256 then 256 else 288
  | .arrive _ _ => 16
  | .relay _ _ _ b => 32 + relayLen b
  | .split _ k => 32 + splitLen k
  | .reserved _ n => n
  | .rdReq _ | .wrAck | .refuse | .peerLost => 0

def msgLen (m : Msg) : Nat := 16 + wireLen m.body

/-! ## Messages -/

/-- The first n bytes of a list, with zeros after its end. -/
def padTo (n : Nat) (bs : List Byte) : List Byte := (bs ++ List.replicate n 0).take n

/-- MTYPE (R325). -/
def mtype : MsgBody → Nat
  | .rdReq _ => 0x01 | .rdRsp _ => 0x02 | .wr _ _ => 0x03 | .wrAck => 0x04 | .refuse => 0x05 | .peerLost => 0x06
  | .arrive _ _ => 0x08 | .relay _ _ _ _ => 0x10 | .split _ _ => 0x11 | .reserved t _ => t.toNat

/-- RKIND (R353). -/
def rkind : RelayBody → Nat
  | .ready _ => 1 | .data _ _ => 2 | .ack _ => 3 | .abort => 4 | .rows _ _ => 5 | .value _ _ => 6 | .refuse _ => 7

/-- SKIND (R424). -/
def skind : SplitKind → Nat
  | .data _ => 1 | .ack => 2 | .seal => 3 | .sealAck => 4 | .readReq => 5 | .readRsp _ => 6 | .refuse => 7

/-- Words 2 and 3 of a relay header (R353). The places of a VALUE's bits and of a REFUSE's reason are not given. -/
def relayWord2 : RelayBody → Nat
  | .ready n => n.toNat | .data i _ | .ack i | .rows i _ => i.toNat
  | .value _ b => (Config.valueBits b).toNat | .refuse f => (Config.refuseBits f).toNat | .abort => 0
def relayWord3 : RelayBody → Nat
  | .value v _ => v.toNat
  | _ => 0

/-- The relay header (R353). -/
def relayHead (k : RelayKey) (j : BitVec 5) (dims : BitVec 16) (b : RelayBody) : List Byte :=
  wordBytes [rkind b * 2 ^ 56 + k.op.toNat * 2 ^ 48 + k.job.toNat * 2 ^ 32 + k.core.val * 2 ^ 29 + j.toNat * 2 ^ 24 + dims.toNat,
    k.tag.toNat * 2 ^ 32 + k.step.toNat, relayWord2 b, relayWord3 b]

/-- What follows the relay header: the data of a segment, or rows, each with its 16-byte row header (R365). -/
def relayBody : RelayBody → List Byte
  | .data _ bs => bs
  | .rows _ rs => rs.flatMap (fun r => (List.range 16).map (Config.rowHead r) ++ r.bytes)
  | _ => []

/-- The header of a split message, and what follows it (R424). -/
def splitHead (h : SplitHead) (k : SplitKind) : List Byte :=
  wordBytes [skind k * 2 ^ 56 + h.part.val * 2 ^ 48 + h.slot.val * 2 ^ 46 + (if h.act then 2 ^ 45 else 0) + h.seq.toNat,
    h.off.toNat, h.len.toNat, 0]
def splitBody : SplitKind → List Byte
  | .data bs | .readRsp bs => bs
  | _ => []

/-- A line of a WR with its bytes at their places, and the byte mask of one that is not whole (R325). -/
def wrLine (bs : List (Nat × Byte)) : List Byte := (List.range 256).map (fun i => ((bs.find? (fun x => x.1 = i)).map (·.2)).getD 0)
def wrMask (bs : List (Nat × Byte)) : Nat := ((List.range 256).map (fun i => if bs.any (fun x => x.1 = i) then 2 ^ i else 0)).sum

/-- The body of a message (R325). -/
def bodyBytes : MsgBody → List Byte
  | .rdRsp l => padTo 256 l
  | .wr _ bs => wrLine bs ++ (if bs.length = 256 then [] else leBytes (wrMask bs) 32)
  | .arrive hid b => wordBytes [hid.toNat, b.toNat]
  | .relay k j dims b => relayHead k j dims b ++ relayBody b
  | .split h k => splitHead h k ++ splitBody k
  | .reserved _ n => List.replicate n 0
  | .rdReq _ | .wrAck | .refuse | .peerLost => []

/-- A message: its 16-byte header and its body (R325). -/
def msgBytes (m : Msg) : List Byte :=
  wordBytes [mtype m.body * 2 ^ 58 + m.dst.toNat * 2 ^ 32 + m.org.toNat * 2 ^ 16 + wireLen m.body % 2 ^ 16,
    m.tag.toNat * 2 ^ 48 + m.addr.toNat] ++ bodyBytes m.body

/-! ## Flits -/

/-- KIND (R323). -/
def TxKind.code : TxKind → Nat
  | .idle _ => 0 | .data _ _ _ _ => 1 | .ctrl _ => 2 | .tsync _ => 3 | .notice _ _ => 4 | .ident _ => 5

/-- VC, TSEQ and DOWN of a flit; a CTRL flit is one of HCTL (R324). -/
def TxKind.vc : TxKind → Nat | .data v _ _ _ => v.val | .ctrl _ => 2 | _ => 0
def TxKind.tseq : TxKind → Nat | .data _ t _ _ => t.toNat | _ => 0
def TxKind.down : TxKind → Bool | .idle d => d | _ => false

/-- The payload (R323). -/
def TxKind.payload : TxKind → List Byte
  | .idle _ => []
  | .data _ _ _ bs => bs
  | .ctrl c => Config.ctrlPayload c
  | .tsync t => Config.tsyncPayload t
  | .notice cause ptb => BitVec.ofNat 8 cause :: List.replicate 7 0 ++ leBytes ptb.toNat 8
  | .ident i => Config.identPayload i

/-- The four header words of a flit (R322), with the CRC. -/
def flitHeader (h : FlitHead) (k : TxKind) (crc : Nat) : List Byte :=
  wordBytes [k.code * 2 ^ 60 + k.vc * 2 ^ 58 + (if k.down then 2 ^ 57 else 0) + (if h.nak then 2 ^ 56 else 0)
      + h.seq.toNat * 2 ^ 44 + h.ack.toNat * 2 ^ 32 + leNat (h.credit.toList),
    k.tseq * 2 ^ 48 + min 480 k.payload.length * 2 ^ 32, 0, crc]

/-- The CRC-32C over the 512 bytes of a flit, with its own field zero (R322). -/
def flitCrc (bs : List Byte) : W32 := crc32c (bs.take 24 ++ List.replicate 4 0 ++ bs.drop 28)

/-- The 512 bytes of a flit. -/
def flitBytes (h : FlitHead) (k : TxKind) : List Byte :=
  let body := padTo 480 k.payload
  flitHeader h k (flitCrc (flitHeader h k 0 ++ body)).toNat ++ body

/-- A header word of a flit. -/
def flitWord (bs : List Byte) (i : Nat) : Nat := leNat ((bs.drop (8 * i)).take 8)

/-- A received flit passes: its CRC holds, and its KIND is not reserved (R323). -/
def flitGood (bs : List Byte) : Bool := flitWord bs 3 % 2 ^ 32 = (flitCrc bs).toNat && flitWord bs 0 / 2 ^ 60 < 6

/-- What the receiver learns of the 512 bytes of a flit (R322), and of the codewords it lay in (R319): the header that a flit
command carries. -/
def headOf (bs : List Byte) (corrected lost : Nat) : FlitHead :=
  let w := flitWord bs 0
  ⟨flitGood bs, corrected, lost, BitVec.ofNat 12 (w / 2 ^ 44), BitVec.ofNat 12 (w / 2 ^ 32), (w / 2 ^ 56) % 2 = 1,
    Vector.ofFn (fun (v : Fin 4) => BitVec.ofNat 8 (w / 2 ^ (8 * v.val)))⟩

/-- A flit passes its CRC and overlaps no uncorrectable codeword (R319, R327). -/
def goodFlit (h : FlitHead) : Bool := h.ok && h.lost = 0

/-- The lane of a symbol of a codeword, of a direction that runs on these wavelengths: the 544 symbols are dealt round-robin to the
active lanes, fibre-major (R319). -/
def symbolLane (waves : List (Fin 8)) (i : Nat) : Option (Fin 8 × Fin 8) :=
  let lanes := (List.range 8).flatMap (fun f => waves.map (fun w => (Fin.ofNat 8 f, w)))
  lanes[i % lanes.length]?

end Sys2Proof.Machine
end

