-- ==== Sys2Proof/Machine/Wake.lean ====
section
/-! DEFINITION. Refused and aborted power-state entries (R484), and the wakes that abort an entry or begin an exit (R481,
R482). -/

namespace Sys2Proof.Machine
open Sys2Proof

def State.modPsc (s : State) (f : Psc → Psc) : State := { s with psc := f s.psc }

/-- TARGET of a refusal (PSC_REFUSE_LOG). -/
def PState.code : PState → Nat | .run => 0 | .sleep => 1 | .deep => 2 | .off => 3

/-- Refusers (R476). -/
def rfContext : Nat := 1
def rfCrossing : Nat := 2
def rfBuffer : Nat := 3
def rfRelay : Nat := 4
def rfHost : Nat := 5
def rfFlash : Nat := 6
def rfGauntlet : Nat := 7
def rfCommit : Nat := 8
def rfWake : Nat := 9
def rfLink : Nat := 10
def rfUpdate : Nat := 11
def rfThermal : Nat := 12
def rfPhoto : Nat := 13

/-- An entry is refused at its check, or aborted (R484): counted, logged, and reported at most once a second; DWELL_MS runs anew (R475). -/
def State.refuseEntry (s : State) (target : PState) (abort : Bool) (refuser inst : Nat) : State :=
  let s := (s.bump (Reg.PSC_REFUSE_CNT (refuser - 1)) 1).modPsc (fun p => { p with dwellAt := s.ptb })
  let head := s.fld Reg.PSC_REFUSE_HEAD 3 0
  let w := 2 ^ 31 + (if abort then 2 ^ 30 else 0) + target.code * 2 ^ 28 + refuser * 2 ^ 24 + inst % 256 * 2 ^ 16
    + s.ptb.toNat / 1024 % 65536
  let s := (s.setAct (Reg.PSC_REFUSE_LOG head) (BitVec.ofNat 32 w)).setFld Reg.PSC_REFUSE_HEAD 3 0 (head + 1)
  let due := match s.psc.refusedAt with | some t => decide (1000000000 ≤ (s.ptb - t).toNat) | none => true
  if due then (s.event .pscRefused [.small 8 target.code, .small 8 refuser]).modPsc (fun p => { p with refusedAt := some s.ptb }) else s

/-- An entry in progress is aborted: every clock runs on, and the part stays in Run (R477). -/
def State.abortEntry (s : State) (refuser inst : Nat) : State :=
  match s.psc.entry with
  | some t => (s.modPsc (fun p => { p with entry := none })).refuseEntry t true refuser inst
  | none => s

/-- A wake that Sleep sees, and Deep sleep too if `deep` (R481): it aborts an entry in progress, or begins the exit. -/
def State.wakeBy (s : State) (deep : Bool) : State :=
  if s.psc.entry.isSome then s.abortEntry rfWake 0 else
  match s.psc.state with
  | .sleep => s.modPsc (fun p => { p with exiting := true })
  | .deep => if deep then s.modPsc (fun p => { p with exiting := true }) else s
  | _ => s

/-- The part is awake and no entry holds its queues (R477). -/
def State.awake (s : State) : Bool := s.psc.state = .run && s.psc.entry.isNone

/-- The part is in Sleep or Deep sleep. -/
def State.asleep (s : State) : Bool := s.psc.state = .sleep || s.psc.state = .deep

/-- A core, stack or port is usable, by its index u of R510, once the gauntlet of this start has run: the mark lasts until the next
start (R520, R522). -/
def State.usableUnit (s : State) (u : Nat) : Bool :=
  s.fld Reg.GLB_SR_HDR 5 4 = 0 ||
    (if u < 8 then bit (s.fld Reg.GLB_SR_UNITS0 23 16) u else if u < 24 then bit (s.fld Reg.GLB_SR_UNITS0 15 0) (u - 8)
     else bit (s.fld Reg.GLB_SR_UNITS1 15 0) (u - 24))

/-! ## Access to the registers of BAR0 (R40, R445, R498) -/

/-- A function exists: the PF always, VF v while NumVFs is at least v (R374). -/
def State.fnExists (s : State) (f : FnId) : Bool := f.val = 0 || decide (f.val ≤ s.fld Reg.HIF_STATUS 21 18)

/-- The partition a VF serves (R374). -/
def partOfFn (f : FnId) : Option CoreId := if f.val = 0 then none else some (Fin.ofNat 8 (f.val - 1))

/-- The package is in warm-up mode (R498). -/
def State.inWarmUp (s : State) : Bool := s.fld Reg.GLB_STATUS 26 26 = 1

/-- HIF_BAD_ACCESS with the VF number, 0 for the PF, and the offset (R40; notes/assumptions/80). -/
def State.badAccess (s : State) (f : FnId) (off : Nat) : State := s.hifEvent .hifBadAccess f [.small 4 f.val, .word off]

/-- Pages that answer in warm-up mode (R498). A part whose life-cycle state lets it test every unit in that mode answers in the
GNT block as well (notes/assumptions/42). -/
def State.warmPage (s : State) : PageKind → Bool
  | .glb | .clk | .crn | .cfg | .hng | .smb | .psc => true
  | .gnt => s.fuses.life.val = 1 || s.fuses.life.val = 4
  | _ => false

/-- Pages that answer before the start record is published (R445). -/
def startPage : PageKind → Bool
  | .glb | .clk | .hng => true
  | _ => false

/-- A VF's view holds an offset (R40): GLB, CLK, its MSI-X Table and PBA, its partition's part of SCH, and the regions of its cores.
An entry of another partition in SCH is not in the view, so an access to it raises HIF_BAD_ACCESS too
(notes/assumptions/80). -/
def State.vfView (s : State) (p : CoreId) (off : Nat) : Bool :=
  let o := homeOff off
  if 0x1000000 ≤ o && o < 0x2000000 then s.partOf (Fin.ofNat 8 ((o - 0x1000000) / 0x200000)) = some p else
  match pageOf o with
  | some .glb | some .clk => true
  | some .sch =>
    let b := s.fld (Reg.SCH_PCFG p) 13 8
    let n := s.fld (Reg.SCH_PCFG p) 4 0
    let k := o % 0x10000
    (decide (0x4000 ≤ k) && decide (k < 0x6000)) || (decide (k < 0x80) && k / 0x10 = p.val)
      || (s.fld (Reg.SCH_PCFG p) 31 31 = 1 && decide (0x100 + 0x40 * b ≤ k) && decide (k < 0x100 + 0x40 * (b + n)))
  | _ => false

/-- A register with commit-shadowed fields. -/
def hasRws (off : Nat) : Bool := match regAt off with | some r => r.2.1.fields.any (fun x => x.acc = .rws) | none => false

/-- What an access to an offset meets: no answer; a block that reads all ones and discards writes; HIF_BAD_ACCESS; or the register. -/
inductive Gate where
  | absent
  | ones
  | deny
  | allowed
  deriving DecidableEq, Repr

/-- The answer to a function's access at an offset. A VF that writes GLB, CLK or an RWS field is refused (R40). -/
def State.gate (s : State) (f : FnId) (off : Nat) (write : Bool) : Gate :=
  let page := pageOf (homeOff off)
  if s.psc.state = .off || !s.fnExists f then .absent
  else if s.inWarmUp then
    if f.val != 0 then .absent
    else match page with | some pk => if s.warmPage pk then .allowed else .ones | none => .allowed
  else if s.fld Reg.GLB_STATUS 25 25 = 0 then
    match page with | some pk => if startPage pk then .allowed else .ones | none => .allowed
  else
    match partOfFn f with
    | none => .allowed
    | some p =>
      if !s.vfView p off then .deny
      else if write && (page = some .glb || page = some .clk || hasRws (homeOff off)) then .deny
      else .allowed

/-- An earlier write to the block of an offset is held: writes to one block are applied in the order received (R47). -/
def State.writeAhead (s : State) (off : Nat) : Bool := s.posted.any (fun w => w.2.1 / 0x10000 = off / 0x10000)

/-- A write of a register by a function: while the part sleeps it is a wake level, and applied after the exit (R483); where the
register answers it has the effect given. -/
def State.pfWrite (s : State) (f : FnId) (off : Nat) (v : W32) (g : State → State) : State :=
  if s.asleep then (s.modPsc (fun p => { p with heldWr := p.heldWr ++ [(f, off, v)] })).wakeBy true else
  match s.gate f off true with
  | .absent | .ones => s
  | .deny => s.badAccess f off
  | .allowed => if s.writeAhead off then { s with posted := s.posted ++ [(f, homeOff off, v)] } else g s

/-- A message that a sleeping fabric die holds until the exit (R478). -/
def wakes : MsgBody → Bool
  | .rdReq _ | .wr _ _ => true
  | .relay _ _ _ (.data _ _) | .relay _ _ _ (.rows _ _) => true
  | .split _ _ => true
  | _ => false

end Sys2Proof.Machine
end

