-- ==== Sys2Proof/Machine/Links.lean ====
section
/-! DEFINITION. Sending over the links: the cube mask and the routes (R328, R329), the queues by dimension and virtual
channel (R324, R326), and the requests that await a reply (R339). -/

namespace Sys2Proof.Machine
open Sys2Proof

def vcColl : Fin 4 := 0
def vcDisp : Fin 4 := 1
def vcHctl : Fin 4 := 2
def vcSplit : Fin 4 := 3

/-- LNK_STATUS.STATE (R334): 0 OFF, 1 TRAINING, 2 FENCED, 3 UP, 4 SHED, 5 LOST, 6 MISMATCH, 7 DISABLED. -/
def State.portState (s : State) (p : PortId) : Nat := s.fld (Reg.LNK_STATUS p) 31 28
def State.setPortState (s : State) (p : PortId) (v : Nat) : State := s.setFld (Reg.LNK_STATUS p) 31 28 v
def State.port (s : State) (p : PortId) : Port := vget s.ports p
def State.modPort (s : State) (p : PortId) (f : Port → Port) : State := { s with ports := vmod s.ports p f }
def State.dim (s : State) (d : PortId) : Dim := vget s.dims d
def State.modDim (s : State) (d : PortId) (f : Dim → Dim) : State := { s with dims := vmod s.dims d f }

def allPorts : List PortId := (List.range 16).map (Fin.ofNat 16)

/-- The dimension a port is mapped to (R328). -/
def State.portDim (s : State) (p : PortId) : Option PortId :=
  if s.fld (Reg.LNK_PORTMAP p) 4 4 = 1 then some (Fin.ofNat 16 (s.fld (Reg.LNK_PORTMAP p) 3 0)) else none

/-- The ports of a dimension, lowest first, and those that are UP. -/
def State.dimPorts (s : State) (d : PortId) : List PortId := allPorts.filter (fun p => s.portDim p = some d)
def State.upPorts (s : State) (d : PortId) : List PortId := (s.dimPorts d).filter (fun p => s.portState p = 3)

/-- A dimension in the cube mask (R328). -/
def State.inCube (s : State) (d : PortId) : Bool := !(s.dimPorts d).isEmpty

/-- The dimensions in which a package ID differs from this package's, ascending. -/
def State.differs (s : State) (dst : BitVec 16) : List PortId := allPorts.filter (fun d => (s.pkg ^^^ dst).getLsbD d)

/-- Where a message to another package leaves (R329): its dimension; or, when it cannot be delivered, the dimension
concerned. -/
def State.route (s : State) (dst : BitVec 16) : Except PortId PortId :=
  let ds := s.differs dst
  let bad := (ds.find? (fun d => !s.inCube d || (s.upPorts d).isEmpty)).getD 0
  match ds.head? with
  | none => .error 0
  | some d => if ds.all s.inCube && !(s.upPorts d).isEmpty then .ok d else .error bad

/-- A message that cannot be delivered (R329): counted at the dimension's lowest port, and LNK_NO_ROUTE raised for the
first of its dimension and context. -/
def State.noRoute (s : State) (d : PortId) (dst : BitVec 16) (x : Option CtxId) : State :=
  let s := match (s.dimPorts d).head? with | some p => s.bump (Reg.LNK_PEER_LOST p) 1 | none => s
  if s.noRoutes.contains (d.val, x) then s else
  let s := { s with noRoutes := (d.val, x) :: s.noRoutes }
  s.raiseRec .lnkNoRoute false ⟨x, none, none⟩ 0 [.small 4 d, .small 16 dst.toNat]

/-- A message for this package reaches its unit's inbox; a request or data wakes the part from Sleep (R478). -/
def State.deliver (s : State) (p : Option PortId) (vc : Fin 4) (m : Msg) : State :=
  let s : State := { s with inbox := s.inbox ++ [⟨p, vc, m⟩] }
  if wakes m.body then s.wakeBy false else s

/-- A message that answers one. -/
def answers : MsgBody → Bool
  | .rdRsp _ | .wrAck | .refuse | .peerLost => true
  | .relay _ _ _ (.ack _) | .relay _ _ _ (.refuse _) => true
  | .split _ .ack | .split _ .sealAck | .split _ (.readRsp _) | .split _ .refuse => true
  | _ => false

/-- Queue a message on a virtual channel (R326, R329): the state after, and whether it could be sent. A message to this
package goes through the fabric; a reply that cannot be delivered is discarded (R339). -/
def State.sendMsg (s : State) (vc : Fin 4) (m : Msg) (x : Option CtxId) : State × Bool :=
  if m.dst = s.pkg then (s.deliver none vc m, true) else
  match s.route m.dst with
  | .error d => (if answers m.body then s else s.noRoute d m.dst x, false)
  | .ok d => (s.modDim d (fun q => { q with out := vmod q.out vc (· ++ [m]) }), true)

/-- The lowest tag from 1 that no outstanding request has; a message that is no request carries 0 (notes/assumptions/17). -/
def State.freeTag (s : State) : BitVec 16 :=
  BitVec.ofNat 16 (((List.range (s.outReq.length + 1)).find? (fun t => !s.outReq.any (fun r => r.tag.toNat = t + 1))).getD 0 + 1)

/-- Send a request whose reply carries its tag (R325, R339). -/
def State.sendReq (s : State) (vc : Fin 4) (dst : BitVec 16) (addr : BitVec 48) (b : MsgBody) (who : Requester)
    (x : Option CtxId) : State × Bool :=
  let t := s.freeTag
  let r := s.sendMsg vc ⟨dst, s.pkg, t, addr, b⟩ x
  if r.2 then
    ({ r.1 with outReq := ⟨t, dst, (match s.route dst with | .ok d => d.val | .error _ => 16), who, x⟩ :: r.1.outReq }, true)
  else r

/-- Send a message that has no reply. -/
def State.sendNote (s : State) (vc : Fin 4) (dst : BitVec 16) (b : MsgBody) (x : Option CtxId) : State :=
  (s.sendMsg vc ⟨dst, s.pkg, 0, 0, b⟩ x).1

/-- The request a reply answers, and the state without it. -/
def State.takeReq (s : State) (tag : BitVec 16) : Option OutReq × State :=
  (s.outReq.find? (fun r => r.tag = tag), { s with outReq := s.outReq.filter (fun r => r.tag != tag) })

/-- A context completes a request with PEER_LOST, or a mask of it names a lost port: it stops in HOLD (R340). -/
def State.affected (s : State) (x : CtxId) : State := s.requestHold x .partnerLost

end Sys2Proof.Machine
end

