-- ==== Sys2Proof/Machine/Memory.lean ====
section
/-! DEFINITION. The memory system (chapter 08): where a line lies, the buffer in front of it, windows, the page-table walk
and its caches, and the watch tables of R243. -/

namespace Sys2Proof.Machine
open Sys2Proof

/-! ## Placement (R256 to R258) -/

/-- The cell of a line: its slot and its group. -/
structure Cell4 where
  slot : Nat
  g : Nat
  deriving DecidableEq, Repr

def memLimit (s : State) : Nat := s.pair Reg.MEM_LIMIT_LO

/-- The slot that the hash of R256 gives. -/
def hashSlot (l g : Nat) : Nat := l % 1024 ^^^ g % 1024 ^^^ g / 1024 % 1024 ^^^ g / 2 ^ 20 % 4 * 256

/-- The live slots, ascending (R258). -/
def liveSlots (dead : List Nat) : List Nat := (List.range 1024).filter (fun t => !dead.contains t)

/-- The cell of a physical address (R256, R258). -/
def cellOfPa (dead : List Nat) (pa : Nat) : Cell4 :=
  let l := pa / 256
  let g := l / 1024
  let t := hashSlot l g
  match dead.findIdx? (· = t) with
  | none => ⟨t, g⟩
  | some k =>
    let n := dead.length
    let j := g * n + k
    let top := 2 ^ 22 - n * 4096
    ⟨((liveSlots dead)[j % (1024 - n)]?).getD 0, top + j / (1024 - n)⟩

def Cell4.stack (x : Cell4) : PortId := Fin.ofNat 16 (x.slot / 64)
def Cell4.chan (x : Cell4) : Nat := x.slot / 2
def Cell4.bg (x : Cell4) : Nat := x.g / 4 % 4 ^^^ x.g / 2 ^ 12 % 4
def Cell4.bank (x : Cell4) : Nat := x.g / 16 % 4 ^^^ x.g / 2 ^ 14 % 4
def Cell4.sid (x : Cell4) : Nat := x.g / 64 % 4
def Cell4.row (x : Cell4) : Nat := x.g / 256 % 2 ^ 14
/-- The bank group that the quotas count (R257). -/
def Cell4.bankGroup (x : Cell4) : Nat := x.slot * 4 + x.bg
/-- A key for a bank, and for a row of it. -/
def Cell4.bankKey (x : Cell4) : Nat := ((x.slot * 4 + x.sid) * 4 + x.bg) * 4 + x.bank
def Cell4.rowKey (x : Cell4) : Nat := x.bankKey * 2 ^ 14 + x.row
/-- The set of the buffer (chapter 08). -/
def Cell4.set (x : Cell4) : Nat := x.slot * 16 + x.g % 16
/-- The fabric die that homes the cell: two stacks a die (R14, R256). -/
def Cell4.die (x : Cell4) : CoreId := Fin.ofNat 8 (x.slot / 128)

def State.cell (s : State) (pa : Nat) : Cell4 := cellOfPa s.dead pa

/-! ## Rows (R270) -/

def rowAt : Nat → DramRow := fun _ => ⟨.good, 0, false⟩
def State.row (s : State) (key : Nat) : DramRow := smGet rowAt s.rows key
def State.setRow (s : State) (key : Nat) (r : DramRow) : State := { s with rows := smSet rowAt s.rows key r }

def notBad : Nat → Bool := fun _ => false
/-- A line reads as poisoned: marked so, or on a blocked row (R269, R271). -/
def State.isPoisoned (s : State) (pa : Nat) : Bool :=
  smGet notBad s.poisoned (pa / 256) || (s.row (s.cell pa).rowKey).st = .retired
def State.markPoison (s : State) (pa : Nat) (b : Bool) : State :=
  { s with poisoned := smSet notBad s.poisoned (pa / 256) b }

/-! ## The watch tables (R243) -/

/-- A write to a line, by a unit, is checked against the watch table of its die: STR_STALE counts each detection, and
STR_STALE_PREFETCH is raised once for a run of a slot. -/
def State.noteWrite (s : State) (pa unit : Nat) : State :=
  ((vget s.watch (s.cell pa).die).filter (fun e => e.line = pa / 256)).foldl (fun s e =>
    let s := s.bump (Reg.STR_STALE e.core) 1
    let ev (s : State) : State := s.raiseRec .strStalePrefetch false ⟨some e.ctx, some e.core, none⟩ 0
      [.small 5 e.slot, .word e.va, .word (e.line * 256), .small 8 unit, .word s.ptb.toNat]
    if e.gth then
      let j : Fin 8 := Fin.ofNat 8 e.slot
      if (vget (s.core e.core).gth j).stale then s
      else (ev s).modCore e.core (fun k => { k with gth := vmod k.gth j (fun z => { z with stale := true }) })
    else
      let j : Fin 32 := Fin.ofNat 32 e.slot
      if (vget (s.core e.core).str j).stale then s
      else (ev s).modCore e.core (fun k => { k with str := vmod k.str j (fun z => { z with stale := true }) })) s

/-! ## Line requests charged to contexts (R413) -/

/-- A line request of an engine of a context to a line of HBM. -/
def State.noteLine (s : State) (x : CtxId) (pa : Nat) : State :=
  let k := 64 * (s.cell pa).stack.val + x.val
  { s with lineReqs := smSet (fun _ => 0) s.lineReqs k (smGet (fun _ => 0) s.lineReqs k + 1) }

/-- Of the context bound to a core. -/
def State.noteCoreLine (s : State) (c : Option CoreId) (pa : Nat) : State :=
  match c with
  | some c => (match (s.core c).ctx with | some x => s.noteLine x pa | none => s)
  | none => s

/-! ## The buffer in front of each pseudo-channel (R265 to R267) -/

/-- The bytes of a line, an entry's valid bytes over DRAM (R266). -/
def State.lineNow (s : State) (pa : Nat) : List Byte :=
  let base := pa / 256 * 256
  match s.buf.find? (fun e => e.line = pa / 256) with
  | none => Mem.bytes s.dram base 256
  | some e => (List.range 256).map (fun i =>
    match e.bytes.find? (fun b => b.1 = i) with | some b => b.2 | none => Mem.byte s.dram (base + i))

/-- DRAM with an entry's valid bytes written; a whole line replaces a poisoned one (R269), and a blocked row discards the
write and counts it (R271). -/
def State.writeBack (s : State) (e : BufEntry) : State :=
  let x := s.cell (e.line * 256)
  if (s.row x.rowKey).st = .retired then s.bump (Reg.MEM_BLOCKED x.stack) 1 else
  let s := if e.bytes.length = 256 then s.markPoison (e.line * 256) false else s
  { s with dram := e.bytes.foldl (fun m b => Mem.setByte m (e.line * 256 + b.1) b.2) s.dram }

/-- The buffer without the entry of a line. -/
def State.dropEntry (s : State) (line : Nat) : State := { s with buf := s.buf.filter (fun e => e.line != line) }

/-- An entry put in as the most recently used; a set with more than 16 loses its least recently used entry, one that
keep allocated only when there is no other, and a dirty one is written back (R266, R267). -/
def State.putEntry (s : State) (e : BufEntry) : State :=
  let s := { (s.dropEntry e.line) with buf := (s.dropEntry e.line).buf ++ [e] }
  let set := (s.cell (e.line * 256)).set
  let mine : List BufEntry := s.buf.filter (fun f => (s.cell (f.line * 256)).set = set && f.line != e.line)
  if mine.length < 16 then s else
  match (match mine.find? (fun f => !f.keep) with | some f => some f | none => mine.head?) with
  | none => s
  | some v => (if v.dirty then s.writeBack v else s).dropEntry v.line

/-- Valid bytes of an entry with more bytes over them. -/
def mergeBytes (old new : List (Nat × Byte)) : List (Nat × Byte) :=
  new ++ old.filter (fun b => !new.any (fun n => n.1 = b.1))

/-- A read of a line (R265 to R267): its bytes, whether it is poisoned, and the buffer after it. -/
def State.lineRead (s : State) (pa : Nat) (cached : Bool) (hint : Nat) : List Byte × Bool × State :=
  let bytes := s.lineNow pa
  let bad := s.isPoisoned pa
  let line := pa / 256
  let s := if !cached then s else
    match s.buf.find? (fun e => e.line = line) with
    | some e => if hint = 2 then s.dropEntry line else s.putEntry e
    | none => if hint = 1 && !bad then s.putEntry ⟨line, (List.range 256).zip bytes, false, true⟩ else s
  (bytes, bad, s)

/-- Write a whole line to DRAM and drop its entry. -/
def State.dramLine (s : State) (line : Nat) (bs : List (Nat × Byte)) : State :=
  (s.writeBack ⟨line, bs, true, false⟩).dropEntry line

/-- A write of bytes of a line, by offset (R265 to R267, R271), by a unit: on a blocked row discarded and counted. -/
def State.lineWrite (s : State) (pa : Nat) (cached : Bool) (hint : Nat) (bs : List (Nat × Byte)) (unit : Nat) : State :=
  if bs.isEmpty then s else
  let x := s.cell pa
  if (s.row x.rowKey).st = .retired then s.bump (Reg.MEM_BLOCKED x.stack) 1 else
  let s := s.noteWrite pa unit
  let line := pa / 256
  let whole := (List.range 256).all (fun i => bs.any (fun b => b.1 = i))
  let s := if whole then s.markPoison pa false else s
  let old := s.buf.find? (fun e => e.line = line)
  if cached && old.isSome then
    match old with
    | some e => s.putEntry { e with bytes := mergeBytes e.bytes bs, dirty := true }
    | none => s
  else if cached && hint = 1 then s.putEntry ⟨line, bs, true, true⟩
  else if whole then s.dramLine line bs
  else
    let e : BufEntry := match old with | some e => { e with bytes := mergeBytes e.bytes bs, dirty := true } | none => ⟨line, bs, true, false⟩
    if e.bytes.length = 256 || s.fld Reg.MEM_CFG 9 0 = 0 then s.dramLine line e.bytes else s.putEntry e

/-! ## Windows (R263, R264) -/

/-- Why an access is refused (R261, R263, R274). -/
inductive Refused where
  | noWindow | permission | pteInvalid | paRange | remoteRefused
  deriving DecidableEq, Repr

def Refused.code : Refused → Nat | .noWindow => 1 | .permission => 2 | .pteInvalid => 3 | .paRange => 4 | .remoteRefused => 5

def State.winBase (s : State) (i : Nat) : Nat := (s.pair (Reg.MEM_WIN_BASE_LO i)) % 2 ^ 57
def State.winSize (s : State) (i : Nat) : Nat := (s.act (Reg.MEM_WIN_SIZE i)).toNat * 65536
def State.winTarget (s : State) (i : Nat) : Nat := s.pair (Reg.MEM_WIN_TARGET_LO i)
def State.winCached (s : State) (i : Nat) : Bool := s.fld (Reg.MEM_WIN_ATTR i) 28 28 = 1

/-- The window of a partition that holds an address (R263). -/
def State.findWin (s : State) (p : CoreId) (va : Nat) : Option Nat :=
  (List.range 64).find? (fun i =>
    (let k := s.memWinKind i; 1 ≤ k && k ≤ 4) && s.memWinPart i == p && s.winBase i ≤ va && va < s.winBase i + s.winSize i)

/-- The SHADOW window of a speculation window that pairs with a LOCAL window (R264). -/
def State.shadowWin (s : State) (p : CoreId) (w : Fin 2) (i : Nat) : Option Nat :=
  (List.range 64).find? (fun j => s.memWinKind j == 2 && s.memWinPart j == p && s.fld (Reg.MEM_WIN_ATTR j) 24 24 == w
    && s.fld (Reg.MEM_WIN_ATTR j) 23 18 == i)

/-- Windows that a core of a partition has committed and that the partition has not yet resolved, the last one first
(R264). -/
def State.committedWins (s : State) (p : CoreId) (c : CoreId) : List (Fin 2) :=
  let l := (s.core c).lastCommit
  [l, otherWin l].filter (fun w =>
    let r := s.specRes p w
    r.committed.contains c && r.discarded.isEmpty && !r.mixed)

/-- The address that an access of a core to LOCAL window i reaches: in the shadow of a window that it has committed, until
the exchange is made (R264). -/
def State.homeAddr (s : State) (p : CoreId) (c : CoreId) (i va : Nat) : Nat :=
  match (s.committedWins p c).findSome? (fun w => s.shadowWin p w i) with
  | some j => va - s.winBase i + s.winBase j
  | none => va

/-- The address an access of a core reaches (R264): redirected while its window is open, or until an exchange is made. -/
def State.specAddr (s : State) (p : CoreId) (c : CoreId) (win : Option (Fin 2)) (write : Bool) (va : Nat) :
    Except EvName Nat :=
  match s.findWin p va with
  | none => .ok va
  | some i =>
    if s.memWinKind i != 1 then .ok va else
    match win with
    | some w =>
      match s.shadowWin p w i with
      | some j => .ok (va - s.winBase i + s.winBase j)
      | none => if write then .error .xSpecWrite else .ok (s.homeAddr p c i va)
    | none => .ok (s.homeAddr p c i va)

/-! ## Uncorrectable lines (R269) -/

/-- An uncorrectable read: counted in MEM_UE of its stack and, unless it is a stream's or gather's fault, raised as an
event with the physical address. -/
def State.countUe (s : State) (pa : Nat) : State := s.bump (Reg.MEM_UE (s.cell pa).stack) 1
def State.ueEvent (s : State) (pa : Nat) : State := (s.countUe pa).event .memUncorrectable [.word pa]

/-! ## Translation (R260 to R262) -/

/-- Which translation cache an access goes through (R261). -/
inductive Agent where
  | core (c : CoreId)
  | die (n : CoreId)
  | host
  deriving DecidableEq, Repr

def Agent.core? : Agent → Option CoreId | .core c => some c | _ => none

def State.tlb (s : State) : Agent → List Tlb
  | .core c => vget s.tlbCore c
  | .die n => vget s.tlbDie n
  | .host => s.tlbHost
def State.setTlb (s : State) (a : Agent) (l : List Tlb) : State :=
  match a with
  | .core c => { s with tlbCore := vset s.tlbCore c l }
  | .die n => { s with tlbDie := vset s.tlbDie n l }
  | .host => { s with tlbHost := l }

/-- How a walk ends (R261). -/
inductive Walk where
  | absent
  | refused (r : Refused)
  | leaf (t : Tlb)
  deriving DecidableEq, Repr

/-- The virtual-address bits and the table size of a level (R260). -/
def levelIndex (level va : Nat) : Nat :=
  match level with
  | 0 => va / 2 ^ 48 % 512 | 1 => va / 2 ^ 39 % 512 | 2 => va / 2 ^ 30 % 512 | 3 => va / 2 ^ 21 % 512 | _ => va / 2 ^ 16 % 32
/-- Page size in bits of a leaf at a level. -/
def levelBits : Nat → Nat | 2 => 30 | 3 => 21 | _ => 16

/-- A step of the walk at a level with so many levels to go; each entry is read through the buffer with the keep hint, and a
poisoned one is an uncorrectable read (R269). -/
def State.walkFrom (s : State) (p : CoreId) (va : Nat) (cached : Bool) : Nat → Nat → State × Walk
  | 0, _ => (s, .refused .pteInvalid)
  | fuel + 1, table =>
    let level := 4 - fuel
    let a := table + 8 * levelIndex level va
    if memLimit s ≤ a then (s, .refused .paRange) else
    let r := s.lineRead a cached 1
    let s := r.2.2
    if r.2.1 then (s.ueEvent (a / 256 * 256), .refused .pteInvalid) else
    let e := leNat ((r.1.drop (a % 256)).take 8)
    let addr := bitsOf e 47 8 * 256
    let isLeaf := bit e 62
    if !bit e 63 then (s, .absent)
    else
      let align := if isLeaf then 2 ^ levelBits level else if level = 3 then 256 else 4096
      let bad := bitsOf e 59 48 != 0 || bitsOf e 7 0 != 0 || (isLeaf && level < 2) || (!isLeaf && level = 4)
        || addr % align != 0
      if bad then (s.event .memPteInvalid [], .refused .pteInvalid)
      else if isLeaf then
        if memLimit s < addr + 2 ^ levelBits level then (s, .refused .paRange)
        else (s, .leaf ⟨p, va / 2 ^ levelBits level * 2 ^ levelBits level, levelBits level, addr, bit e 61, bit e 60⟩)
      else s.walkFrom p va cached fuel addr

/-- The size of a translation cache (R261). -/
def Agent.room : Agent → Nat | .core _ => 2048 | _ => 1024

/-- Translate an address of a LOCAL or SHADOW window: a cached translation, or a walk whose leaf is cached (R261). -/
def State.walk (s : State) (ag : Agent) (p : CoreId) (va : Nat) (cached : Bool) : State × Walk :=
  match (s.tlb ag).find? (fun t => t.part = p && t.va = va / 2 ^ t.bits * 2 ^ t.bits) with
  | some t => (s, .leaf t)
  | none =>
    let r := s.walkFrom p va cached 5 (s.pair (Reg.MEM_PT_ROOT_LO p) / 4096 * 4096 % 2 ^ 48)
    match r.2 with
    | .leaf t => (r.1.setTlb ag ((t :: r.1.tlb ag).take ag.room), .leaf t)
    | w => (r.1, w)

/-- Where an access of a partition to a line lands (R263, R264). -/
inductive Xlat where
  | at_ (pl : Place) (cached : Bool)
  | absent (host : Bool)
  | refused (r : Refused)
  deriving DecidableEq, Repr

/-- The PASID of a partition: that of its VF (R263, R275). -/
def State.pasid (s : State) (p : CoreId) : BitVec 20 := BitVec.ofNat 20 (s.fld (Reg.HIF_FN_AQ_CFG (p.val + 1)) 19 0)

/-- An untranslated host address of a partition under ATS (R275): by the cached translation of its page, or by one that the
host gives, which is then cached. -/
def State.ats (s : State) (p : CoreId) (a : Nat) : State × Nat :=
  let k := s.pasid p
  match s.atc.find? (fun e => e.pasid = k && e.page = a / 4096) with
  | some e => (s, e.host.toNat * 4096 + a % 4096)
  | none =>
    let h := Config.atsPage (s.atsChanged.filter (· = (k, a / 4096))).length k (a / 4096)
    ({ s with atc := s.atc ++ [⟨k, a / 4096, h⟩] }, h.toNat * 4096 + a % 4096)

/-- Translate one line of a partition's space (R261, R263, R275): the window's permissions come before the page's. -/
def State.translate (s : State) (ag : Agent) (p : CoreId) (va : Nat) (write : Bool) : State × Xlat :=
  match s.findWin p va with
  | none => (s, .refused .noWindow)
  | some i =>
    if s.fld (Reg.MEM_WIN_ATTR i) (if write then 17 else 16) (if write then 17 else 16) = 0 then (s, .refused .permission)
    else
      let off := va - s.winBase i
      match s.memWinKind i with
      | 3 => (s, .at_ (.remote (BitVec.ofNat 16 (s.fld (Reg.MEM_WIN_ATTR i) 15 0)) ((s.winTarget i + off) % 2 ^ 48)) (s.winCached i))
      | 4 =>
        let a := (s.winTarget i + off) % 2 ^ 64
        if s.hostAbsent.contains (p, a / 4096) then (s, .absent true)
        else
          let t := s.ats p a
          (t.1, .at_ (.host t.2) false)
      | _ =>
        let r := s.walk ag p va (s.winCached i)
        match r.2 with
        | .absent => (r.1, .absent false)
        | .refused c => (r.1, .refused c)
        | .leaf t =>
          if (if write then t.w else t.r) then (r.1, .at_ (.hbm (t.pa + va % 2 ^ t.bits)) (s.winCached i))
          else (r.1, .refused .permission)

/-! ## Byte ranges, line by line -/

/-- The lines of a byte range: address, offset of the first byte and number of bytes of each. -/
def lineParts (a n : Nat) : List (Nat × Nat × Nat) :=
  if n = 0 then [] else
  (List.range ((a + n - 1) / 256 - a / 256 + 1)).map (fun i =>
    let l := (a / 256 + i) * 256
    let lo := max a l
    (l, lo - l, min (a + n) (l + 256) - lo))

/-- Read n bytes at a physical address, below MEM_LIMIT (relay, split and remote accesses): the bytes, and a poisoned
line if there is one. -/
def State.physRead (s : State) (pa n : Nat) (cached : Bool) (hint : Nat) : State × List Byte × Option Nat :=
  (lineParts pa n).foldl (fun r l =>
    let x := r.1.lineRead l.1 cached hint
    (x.2.2, r.2.1 ++ (x.1.drop l.2.1).take l.2.2, if x.2.1 && r.2.2.isNone then some l.1 else r.2.2)) (s, [], none)

/-- Write bytes at a physical address. -/
def State.physWrite (s : State) (pa : Nat) (bs : List Byte) (cached : Bool) (hint unit : Nat) : State :=
  (lineParts pa bs.length).foldl (fun s l =>
    s.lineWrite l.1 cached hint (((List.range l.2.2).map (· + l.2.1)).zip ((bs.drop (l.1 + l.2.1 - pa)).take l.2.2)) unit) s

end Sys2Proof.Machine
end

