-- ==== Sys2Proof/Machine/Repair.lean ====
section
/-! DEFINITION. Errors of HBM lines and the repair of rows (R269 to R271). -/

namespace Sys2Proof.Machine
open Sys2Proof

/-- The line of the lowest physical address that lies on a cell, its slot and group given (the inverse of R256 and of
R258). -/
def lineAt (dead : List Nat) (slot g : Nat) : Option Nat :=
  let n := dead.length
  let top := 2 ^ 22 - n * 4096
  let home (t g : Nat) : Nat := g * 1024 + hashSlot t g % 1024
  if g < top || n = 0 then some (home slot g)
  else
    -- The relocated lines: index j counts the lines of dead slots by group.
    let j := (g - top) * (1024 - n) + (liveSlots dead).findIdx (· = slot)
    match dead[j % n]? with
    | some t => if j / n < top then some (home t (j / n)) else none
    | none => none

/-- The four lines of a row: its cells with the two low bits of the group free. -/
def rowLines (dead : List Nat) (x : Cell4) : List Nat :=
  (List.range 4).filterMap (fun i => lineAt dead x.slot (x.g / 4 * 4 + i))

/-- The frames that hold a line of a row (R271). -/
def rowFrames (dead : List Nat) (x : Cell4) : List Nat := ((rowLines dead x).map (fun l => l / 8192)).eraseDups

/-- Add a record to the repair log; a full log raises MEM_LOG_FULL and takes none. -/
def State.logRepair (s : State) (r : RepairRec) : State :=
  if s.repairLog.length < 4096 then { s with repairLog := s.repairLog ++ [r] } else s.event .memLogFull []

/-- Retire a frame (R271): once, on the list and in the log, with its event. -/
def State.retireFrame (s : State) (chan frame : Nat) : State :=
  if s.retired.contains frame then s else
  (({ s with retired := s.retired ++ [frame] } : State).logRepair (.frame chan (frame * 2 ^ 21))).event .memFrameRetired [.word (frame * 2 ^ 21)]

/-- A row has failed (R270): soft repair onto a fresh spare of its bank, or retirement of the row and its frames. -/
def State.failRow (s : State) (pa : Nat) : State :=
  let x := s.cell pa
  let key := x.rowKey
  let r := s.row key
  if r.st = .retired then s else
  let used := smGet (fun _ => 0) s.spares x.bankKey
  if used < (Config.bankSpares x.bankKey).val then
    let s := { s with spares := smSet (fun _ => 0) s.spares x.bankKey (used + 1) }
    let s := s.setRow key ⟨.soft, 0, true⟩
    (s.logRepair (.row key used)).event .memRowRepaired []
  else
    let s := (s.setRow key ⟨.retired, r.ce, false⟩).logRepair (.retired key)
    (rowFrames s.dead x).foldl (fun s f => s.retireFrame x.chan f) s

/-- What an access or a scrub of a line meets (R269): corrected errors counted in MEM_CE and in the row, which fails at
ROW_CE_LIMIT; an uncorrectable segment poisons the line and fails the row. -/
def State.lineEcc (s : State) (pa : Nat) (e : Ecc) : State :=
  let x := s.cell pa
  match e with
  | .clean => s
  | .corrected n =>
    if n = 0 then s else
    let s := s.bump (Reg.MEM_CE x.stack) n
    let r := s.row x.rowKey
    let limit := max 1 (s.fld Reg.MEM_CFG 23 20)
    let s := s.setRow x.rowKey { r with ce := r.ce + n }
    if limit ≤ r.ce + n then s.failRow pa else s
  | .uncorrectable => (s.markPoison pa true).failRow pa

end Sys2Proof.Machine
end

