-- ==== Sys2Proof/Machine/MemCmds.lean ====
section
/-! DEFINITION. What the memory system does by itself and at register writes: idle write-back (R266), scrub and soft repair
(R269, R270), invalidation (R262), flush (R268) and ATS (R275). -/

namespace Sys2Proof.Machine
open Sys2Proof

/-- A partly written entry has stood untouched for WCB_IDLE_US (R266): written back and freed. Entries of keep stay. -/
def execWcbIdleWriteback (line : Nat) (s : State) : Out :=
  match s.buf.find? (fun e => e.line = line) with
  | some e => if e.keep || !e.dirty then .next s else .next ((s.writeBack e).dropEntry line)
  | none => .next s

/-- The scrub reads a line below MEM_LIMIT (R269); the scrub of the first line begins a scrub period, in which a row's
corrected errors count from zero. -/
def execScrub (pa : Nat) (e : Ecc) (s : State) : Out :=
  if s.fld Reg.MEM_CFG 31 24 = 0 || memLimit s ≤ pa then .next s else
  let s := if pa / 256 = 0 then
    { s with rows := s.rows.filterMap (fun kv =>
        let r : DramRow := { kv.2 with ce := 0 }
        if r = rowAt kv.1 then none else some (kv.1, r)) } else s
  let s := s.lineEcc pa e
  .next (if s.isPoisoned pa then s.ueEvent (pa / 256 * 256) else s)

/-- A soft repair has copied its row (R270). -/
def execSoftRepairComplete (pa : Nat) (s : State) : Out :=
  let key := (s.cell pa).rowKey
  .next (if (s.row key).copying then s.setRow key { s.row key with copying := false } else s)

/-! ## Invalidation (R262) -/

/-- Range of a size code in bytes; none is the whole partition. -/
def invalBytes : Nat → Option Nat | 0 => some (2 ^ 16) | 1 => some (2 ^ 21) | 2 => some (2 ^ 30) | _ => none

/-- Whether an invalidation covers a range of addresses. -/
def InvalReq.covers (r : InvalReq) (va n : Nat) : Bool :=
  match invalBytes r.size with
  | none => true
  | some b => decide (r.va / b * b < va + n) && decide (va < r.va / b * b + b)

/-- A line request that an invalidation still waits for: translated, of the partition, in its range. -/
def State.invalBusy (s : State) (r : InvalReq) : Bool :=
  let busy (z : Slot) : Bool := (s.ctx z.cur.org.ctx).part = r.part
    && z.reqs.any (fun l => l.st != .window && (match l.place with | .hbm _ => true | _ => false) && r.covers l.tva 256)
  s.cores.toList.any (fun k => k.str.toList.any busy || k.gth.toList.any busy)

/-- A write of MEM_INVAL_HI starts an invalidation, or waits behind the one in progress. -/
def State.writeInval (s : State) (v : W32) : State :=
  { s with inval := s.inval ++ [⟨Fin.ofNat 8 (fieldOf v 31 29),
      fieldOf v 24 0 * 2 ^ 32 + s.fld Reg.MEM_INVAL_LO 31 16 * 2 ^ 16, fieldOf v 28 27, none⟩] }

def execMemInvalWrite (v : W32) (s : State) : Out := .next (s.pfWrite 0 Reg.MEM_INVAL_HI v (·.writeInval v))

/-- The invalidation in progress ends: every translation cache has dropped what it covers, and every access translated
through it has completed. -/
def execMemInvalComplete (s : State) : Out :=
  match s.inval with
  | [] => .next s
  | r :: t =>
    if s.invalBusy r then .next s else
    let keep (l : List Tlb) : List Tlb := l.filter (fun e => e.part != r.part || !r.covers e.va (2 ^ e.bits))
    let s := { s with inval := t, tlbCore := s.tlbCore.map keep, tlbDie := s.tlbDie.map keep, tlbHost := keep s.tlbHost }
    match r.who with
    | some w => .next (s.cmdStatus w.1 w.2.1 w.2.2 stOk)
    | none => .next s

/-! ## Flush (R268) -/

/-- A write of 1 to MEM_FLUSH.BUSY starts a write-back of every buffer. -/
def State.writeFlush (s : State) (v : W32) : State := if v.getLsbD 0 then { s with flushing := true } else s
def execMemFlushWrite (v : W32) (s : State) : Out := .next (s.pfWrite 0 Reg.MEM_FLUSH v (·.writeFlush v))

/-- Every entry that holds data not in DRAM, written back. -/
def State.flushAll (s : State) : State :=
  let s := (s.buf.filter (·.dirty)).foldl State.writeBack s
  { s with buf := s.buf.map (fun e => { e with dirty := false }) }

/-- The last write-back of a flush is accepted. -/
def execMemFlushComplete (s : State) : Out :=
  if s.flushing then .next { s.flushAll with flushing := false } else .next s

/-- The host changes the translation of a page of a partition's HOST windows and invalidates it by ATS (R275): the cached
translation is dropped, and the page is then present or absent. -/
def execAtsInvalidation (p : CoreId) (page : Nat) (present : Bool) (s : State) : Out :=
  let rest := s.hostAbsent.filter (fun a => a != (p, page))
  .next { s with
    atc := s.atc.filter (fun e => !(e.pasid = s.pasid p && e.page = page)), atsChanged := (s.pasid p, page) :: s.atsChanged
    hostAbsent := if present then rest else (p, page) :: rest }

end Sys2Proof.Machine
end

