-- ==== Sys2Proof/Machine/Queue.lean ====
section
/-! DEFINITION. The host port's doorbells and command queues (R376 to R383): which entry starts, the commands that move data,
send arrivals, wait and manage queues, and their completion. -/

namespace Sys2Proof.Machine
open Sys2Proof

/-! ## Doorbells (R376, R382) -/

/-- The first stray doorbell of a function since its last QCREATE. -/
def State.strayBell (s : State) (f : FnId) : State :=
  if (s.fn f).strayRaised then s else (s.hifEvent .hifDoorbellStray f []).modFn f (fun n => { n with strayRaised := true })

/-- A function's doorbells discard writes: it does not exist, the part is off, or it is in warm-up mode (R498). -/
def State.bellShut (s : State) (f : FnId) : Bool := !s.fnExists f || s.psc.state = .off || s.inWarmUp

/-- The host writes TAIL of a queue; `whole` says that the write is 32 bits wide. -/
def execDoorbellTailWrite (f : FnId) (q : Fin 64) (v : W32) (whole : Bool) (s : State) : Out :=
  if s.bellShut f then .next s
  else if !whole then .next ((s.wakeBy true).badAccess f (q.val * 0x1000))
  else
    let s := s.wakeBy true
    let s := s.modFn f (fun n => { n with bells := smSet (fun _ => 0) n.bells q v })
    match s.queue f q with
    | none => .next (s.strayBell f)
    | some x =>
      if x.deleting then .next (s.strayBell f)
      else if x.error then .next s
      else if 2 ^ x.log2 < (v - x.head).toNat || (v - x.tail).msb then
        .next ((s.setQueue f q (some { x with error := true })).hifEvent .hifQueueError f [])
      else .next (s.setQueue f q (some { x with tail := v }))

/-- The host writes EQ_HEAD (R376): slots become free, and a count of dropped records is reported (R385). -/
def execEqHeadWrite (f : FnId) (v : W32) (whole : Bool) (s : State) : Out :=
  if s.bellShut f then .next s
  else if !whole then .next ((s.wakeBy true).badAccess f 8)
  else .next (((s.wakeBy true).modFn f (fun n => { n with eqHead := v })).eqFlush f)

/-- What a 32-bit read of a function's BAR4 returns (R376): the value last written to TAIL of the page's queue or to EQ_HEAD; zero
elsewhere. The table has no row for such a read (notes/assumptions/84). -/
def State.bar4Word (s : State) (f : FnId) (off : Nat) : W32 :=
  if off % 0x1000 = 0 && off < 64 * 0x1000 then smGet (fun _ => 0) (s.fn f).bells (off / 0x1000)
  else if off = 8 then (s.fn f).eqHead else 0

/-- The end of a moderation interval (R385): a record held back is signalled, which begins the next interval. -/
def execEqModerationExpire (f : FnId) (t : W64) (s : State) : Out :=
  let n := s.fn f
  if !n.modBusy || t.toNat < n.modAt.toNat + s.fld (Reg.HIF_FN_EQ_CFG f) 15 0 * 1000 then .next s else
  let s := s.atTime t
  if n.modHeld then .next ((s.modFn f (fun n => { n with modHeld := false, modAt := s.ptb })).sendVector f 0)
  else .next (s.modFn f (fun n => { n with modBusy := false }))

/-! ## Starting an entry (R378, R381) -/

/-- Commands that run on every queue of every function. -/
def State.running (s : State) : Nat :=
  (s.fns.toList.map (fun n => (n.queues.map (fun kv => match kv.2 with | some x => x.running.length | none => 0)).sum)).sum

/-- Host address of entry n of a queue. -/
def Queue.entryAt (x : Queue) (n : W32) : Nat := x.base + n.toNat % 2 ^ x.log2 * 64

/-- The next entry of a queue that may start now: its words. Entries are held during a power-state entry and asleep (R477). -/
def State.nextEntry (s : State) (f : FnId) (q : Nat) : Option (Queue × List W64) :=
  match s.queue f q with
  | none => none
  | some x =>
    if x.error || x.deleting || x.next = x.tail || 16 ≤ s.running || !s.fnExists f || !s.awake then none else
    let w := Mem.words s.host (x.entryAt x.next) 8
    if wbits w 0 54 54 = 0 && x.running.any (fun r => r.idx = x.next - 1) then none else some (x, w)

/-- Words 1 to 6 hold nothing outside the named fields, and word 0 and word 7 nothing reserved (R378, R379). -/
def cmdFields (w : List W64) (named : List (Nat × Nat × Nat)) : Bool :=
  wbits w 0 53 32 = 0 && (word w 7).toNat = 0
    && [1, 2, 3, 4, 5, 6].all (fun i =>
      let mask := (named.filter (fun n => n.1 = i)).foldl (fun m n => m ||| maskOf n.2.1 n.2.2) 0
      (word w i).toNat &&& mask = (word w i).toNat)

/-- The next entry of a queue starts, when it has an opcode (R381): its named fields are checked, and the body gives its
effect and its status, none while it waits. -/
def State.startCmd (s : State) (f : FnId) (q : Nat) (opc : Nat) (named : List (Nat × Nat × Nat))
    (body : State → RunCmd → State × Option (BitVec 8)) : Out :=
  match s.nextEntry f q with
  | none => .next s
  | some (x, w) =>
    if wbits w 0 63 56 != opc then .next s else
    let r : RunCmd := ⟨x.next, w, s.ptb, 0, none⟩
    let s := s.setQueue f q (some { x with next := x.next + 1, running := x.running ++ [r] })
    if !cmdFields w named then .next (s.cmdStatus f q r.idx stBadField)
    else
      let b := body s r
      match b.2 with
      | some st => .next (b.1.cmdStatus f q r.idx st)
      | none => .next b.1

def execQueueNop (f : FnId) (q : Fin 64) (s : State) : Out := s.startCmd f q 0x00 [] (fun s _ => (s, some stOk))

/-! ## COPY and FILL (R379, R383) -/

/-- A transfer of bytes by the host port: done, failed with a status, or through a REMOTE window at a package's address. -/
inductive HostAcc (α : Type) where
  | ok (a : α)
  | fail (st : BitVec 8)
  | remote (pkg : BitVec 16) (pa : Nat)

/-- Where a DEVICE address of a partition lands: a HOST or SHADOW window is refused (R380). -/
def State.hostXlat (s : State) (p : CoreId) (va : Nat) (write : Bool) : State × HostAcc (Nat × Bool) :=
  match s.findWin p va with
  | none => (s, .fail stFault)
  | some i =>
    if s.memWinKind i = 2 || s.memWinKind i = 4 then (s, .fail stFault) else
    let t := s.translate .host p va write
    match t.2 with
    | .at_ (.hbm pa) c => (t.1, .ok (pa, c))
    | .at_ (.remote pkg pa) _ => (t.1, .remote pkg pa)
    | _ => (t.1, .fail stFault)

/-- Where an address of a space code lands: host memory, or HBM with its buffer mode. -/
def State.hostPlace (s : State) (f : FnId) (space a : Nat) (write : Bool) : State × HostAcc (Option (Nat × Bool)) :=
  if space = 0 then (s, .ok none)
  else if space = 1 then
    match partOfFn f with
    | none => (s, .fail stDenied)
    | some p =>
      let r := s.hostXlat p a write
      (r.1, match r.2 with | .ok x => .ok (some x) | .fail e => .fail e | .remote g b => .remote g b)
  else if f.val != 0 then (s, .fail stDenied)
  else if memLimit s ≤ a then (s, .fail stFault)
  else (s, .ok (some (a, false)))

/-- Read n bytes that lie in one line. -/
def State.hostRead (s : State) (f : FnId) (space a n : Nat) : State × HostAcc (List Byte) :=
  let r := s.hostPlace f space a false
  match r.2 with
  | .fail e => (r.1, .fail e)
  | .remote g b => (r.1, .remote g b)
  | .ok none => (r.1, .ok (Mem.bytes r.1.host a n))
  | .ok (some (pa, c)) =>
    let x := r.1.lineRead (pa / 256 * 256) c 1
    if x.2.1 then (x.2.2.ueEvent (pa / 256 * 256), .fail stUncorrectable) else (x.2.2, .ok ((x.1.drop (pa % 256)).take n))

/-- Write bytes that lie in one line, by the host port. -/
def State.hostWrite (s : State) (f : FnId) (space a : Nat) (bs : List Byte) : State × HostAcc Unit :=
  let r := s.hostPlace f space a true
  match r.2 with
  | .fail e => (r.1, .fail e)
  | .remote g b => (r.1, .remote g b)
  | .ok none => ({ r.1 with host := Mem.setBytes r.1.host a bs }, .ok ())
  | .ok (some (pa, c)) =>
    (r.1.lineWrite (pa / 256 * 256) c 1 (((List.range bs.length).map (· + pa % 256)).zip bs) unitOther, .ok ())

/-- One more request of the links that a running command waits for. -/
def State.owe (s : State) (f : FnId) (q : Nat) (idx : W32) : State :=
  s.modQueue f q (fun x => { x with running := x.running.map (fun r => if r.idx = idx then { r with owed := r.owed + 1 } else r) })

/-- Bytes of a command reach their destination; through a REMOTE window as a WR (R339). -/
def State.copyPut (s : State) (f : FnId) (q : Nat) (idx : W32) (space a : Nat) (bs : List Byte) : State × Option (BitVec 8) :=
  let r := s.hostWrite f space a bs
  match r.2 with
  | .ok _ => (r.1, none)
  | .fail e => (r.1, some e)
  | .remote g b =>
    let t := r.1.sendReq vcDisp g (BitVec.ofNat 48 (b / 256 * 256))
      (.wr 1 (((List.range bs.length).map (· + b % 256)).zip bs)) (.copy f q idx none) none
    if t.2 then (t.1.owe f q idx, none) else (t.1, some stPeerLost)

/-- Bytes up to the end of the line of either address. -/
def chunkLen (a b n : Nat) : Nat := min n (min (256 - a % 256) (256 - b % 256))

/-- A COPY line by line, up to the first that fails. -/
def State.copyLoop (s : State) (f : FnId) (q : Nat) (idx : W32) (sp dp : Nat) : Nat → Nat → Nat → Nat → State × Option (BitVec 8)
  | 0, _, _, _ => (s, none)
  | fuel + 1, a, b, n =>
    if n = 0 then (s, none) else
    let k := chunkLen a b n
    let r := s.hostRead f sp a k
    let t : State × Option (BitVec 8) := match r.2 with
      | .ok bs => r.1.copyPut f q idx dp b bs
      | .fail e => (r.1, some e)
      | .remote g pa =>
        let t := r.1.sendReq vcDisp g (BitVec.ofNat 48 (pa / 256 * 256)) (.rdReq 1)
          (.copy f q idx (some (Fin.ofNat 4 dp, b, pa % 256, k))) none
        if t.2 then (t.1.owe f q idx, none) else (t.1, some stPeerLost)
    match t.2 with
    | some e => (t.1, some e)
    | none => t.1.copyLoop f q idx sp dp fuel (a + k) (b + k) (n - k)

/-- The status of a COPY or FILL once its lines have been handled: none while requests of the links are out. -/
def State.copyEnd (s : State) (f : FnId) (q : Nat) (idx : W32) : Option (BitVec 8) :=
  match s.queue f q with
  | some x => if x.running.any (fun r => r.idx = idx && r.owed != 0) then none else some stOk
  | none => some stOk

/-- COPY. `hostErr`: the host refuses an access (R380). -/
def execCopy (f : FnId) (q : Fin 64) (hostErr : Bool) (s : State) : Out :=
  s.startCmd f q 0x01 [(1, 63, 0), (2, 63, 0), (3, 43, 0)] (fun s r =>
    let a := (word r.words 1).toNat
    let b := (word r.words 2).toNat
    let n := wbits r.words 3 39 0
    let sp := wbits r.words 3 41 40
    let dp := wbits r.words 3 43 42
    if sp = 3 || dp = 3 then (s, some stBadField)
    else if n = 0 then (s, some stOk)
    else if a % 4 != 0 || b % 4 != 0 || n % 4 != 0 then (s, some stBadField)
    else if hostErr && (sp = 0 || dp = 0) then (s, some stHostError)
    else
      let t := s.copyLoop f q r.idx sp dp n a b n
      match t.2 with
      | some e => (t.1, some e)
      | none => (t.1, t.1.copyEnd f q r.idx))

/-- A FILL line by line: byte i of the destination is byte i mod 8 of the pattern. -/
def State.fillLoop (s : State) (f : FnId) (q : Nat) (idx : W32) (dp : Nat) (pat : List Byte) :
    Nat → Nat → Nat → Nat → State × Option (BitVec 8)
  | 0, _, _, _ => (s, none)
  | fuel + 1, i, b, n =>
    if n = 0 then (s, none) else
    let k := chunkLen b b n
    let t := s.copyPut f q idx dp b ((List.range k).map (fun j => (pat[(i + j) % 8]?).getD 0))
    match t.2 with
    | some e => (t.1, some e)
    | none => t.1.fillLoop f q idx dp pat fuel (i + k) (b + k) (n - k)

def execFill (f : FnId) (q : Fin 64) (hostErr : Bool) (s : State) : Out :=
  s.startCmd f q 0x02 [(2, 63, 0), (3, 39, 0), (3, 43, 42), (4, 63, 0)] (fun s r =>
    let b := (word r.words 2).toNat
    let n := wbits r.words 3 39 0
    let dp := wbits r.words 3 43 42
    if dp = 3 then (s, some stBadField)
    else if n = 0 then (s, some stOk)
    else if b % 4 != 0 || n % 4 != 0 then (s, some stBadField)
    else if hostErr && dp = 0 then (s, some stHostError)
    else
      let t := s.fillLoop f q r.idx dp (leBytes (word r.words 4).toNat 8) n 0 b n
      match t.2 with
      | some e => (t.1, some e)
      | none => (t.1, t.1.copyEnd f q r.idx))

/-! ## Arrivals, waits, time and invalidation (R379, R383) -/

/-- A function may name a hurdle: the PF any, a VF those owned by a context of its partition. -/
def State.mayName (s : State) (f : FnId) (hid : Hid) : Bool :=
  match partOfFn f with
  | none => true
  | some p =>
    let x := (s.hurdle hid).owner
    s.fld (Reg.SCH_PCFG p) 13 8 ≤ x && x < s.fld (Reg.SCH_PCFG p) 13 8 + s.fld (Reg.SCH_PCFG p) 4 0

def execArrive (f : FnId) (q : Fin 64) (s : State) : Out :=
  s.startCmd f q 0x03 [(4, 11, 0), (4, 31, 16), (5, 31, 0)] (fun s r =>
    let hid : Hid := BitVec.ofNat 12 (wbits r.words 4 11 0)
    let n := wbits r.words 4 31 16
    if n = 0 then (s, some stOk)
    else if !s.mayName f hid then (s, some stDenied)
    else if (s.hurdle hid).state = .poisoned then (s, some stPoisoned)
    else
      let a : Arrival := ⟨hid, baton s.pkg.toNat 0 unitOther (wbits r.words 5 15 0) (wbits r.words 5 31 16) 0, .host f q r.idx⟩
      ({ s with arrivals := s.arrivals ++ List.replicate n a }, none))

def execWait (f : FnId) (q : Fin 64) (s : State) : Out :=
  s.startCmd f q 0x04 [(4, 11, 0), (5, 31, 0), (6, 31, 0)] (fun s r =>
    let hid : Hid := BitVec.ofNat 12 (wbits r.words 4 11 0)
    if !s.mayName f hid then (s, some stDenied)
    else
      match (wakeCmd hid (s.hurdle hid) r).status with
      | some st => (s, some st)
      | none => (s, if wbits r.words 6 31 0 = 0 then some stTimeout else none))

/-- A WAIT reaches LIMIT_US. -/
def execWaitLimitExpire (f : FnId) (q : Fin 64) (idx : W32) (t : W64) (s : State) : Out :=
  match s.queue f q with
  | none => .next s
  | some x =>
    match x.running.find? (fun r => r.idx = idx && r.status.isNone && wbits r.words 0 63 56 = 4) with
    | none => .next s
    | some r =>
      let limit := wbits r.words 6 31 0
      if limit = 0xFFFFFFFF || t.toNat < r.since.toNat + limit * 1000 then .next s
      else .next ((s.atTime t).cmdStatus f q idx stTimeout)

/-- TIMESTAMP. -/
def execTimestamp (f : FnId) (q : Fin 64) (hostErr : Bool) (s : State) : Out :=
  s.startCmd f q 0x05 [(2, 63, 0)] (fun s r =>
    let a := (word r.words 2).toNat
    if a % 8 != 0 then (s, some stBadField)
    else if hostErr then (s, some stHostError)
    else ({ s with host := Mem.writeN s.host a s.ptb.toNat 8 }, some stOk))

/-- INVAL: as MEM_INVAL for the function's partition; the PF has none. -/
def execInval (f : FnId) (q : Fin 64) (s : State) : Out :=
  s.startCmd f q 0x06 [(1, 63, 0), (4, 1, 0)] (fun s r =>
    match partOfFn f with
    | none => (s, some stBadField)
    | some p =>
      ({ s with inval := s.inval ++ [⟨p, (word r.words 1).toNat % 2 ^ 57, wbits r.words 4 1 0, some (f, q.val, r.idx)⟩] }, none))

/-! ## Queue management (R382) -/

def newQueue (base log2 headAddr : Nat) : Queue := ⟨base, log2, headAddr, 0, 0, 0, 0, [], [], [], false, false⟩

def execQcreate (f : FnId) (q : Fin 64) (s : State) : Out :=
  s.startCmd f q 0x08 [(1, 63, 0), (2, 63, 0), (4, 5, 0), (4, 12, 8)] (fun s r =>
    let id := wbits r.words 4 5 0
    let log2 := wbits r.words 4 12 8
    let base := (word r.words 1).toNat
    let head := (word r.words 2).toNat
    if q.val != 0 then (s, some stBadOpcode)
    else if id = 0 || s.fld (Reg.HIF_FN_QSTATE f) 6 0 ≤ id || (s.queue f id).isSome || log2 < 4 || 16 < log2
        || base % 4096 != 0 || head % 8 != 0 then (s, some stBadField)
    else ((s.setQueue f id (some (newQueue base log2 head))).modFn f (fun n =>
      { n with strayRaised := false, bells := smSet (fun _ => 0) n.bells id 0 }), some stOk))

def execQdelete (f : FnId) (q : Fin 64) (s : State) : Out :=
  s.startCmd f q 0x09 [(4, 5, 0)] (fun s r =>
    let id := wbits r.words 4 5 0
    if q.val != 0 then (s, some stBadOpcode)
    else if id = 0 || (s.queue f id).isNone then (s, some stBadField)
    else (s.modQueue f id (fun x => { x with deleting := true }), none))

/-! ## Completion (R378, R380, R381) -/

/-- Word 7 of an entry as the part writes it. -/
def State.doneWord (s : State) (st : BitVec 8) : Nat := 2 ^ 63 + st.toNat * 2 ^ 48 + s.ptb.toNat % 2 ^ 48

/-- The vector of a queue (R390). -/
def State.queueVector (s : State) (f : FnId) (q : Nat) : Nat :=
  if f.val = 0 then s.fld (Reg.HIF_PF_QVEC q) 5 0 else 1 + q

/-- The count of entries completed in order, from a head and the entries completed beyond it. -/
def advance (head : W32) (done : List W32) : Nat → W32 × List W32
  | 0 => (head, done)
  | fuel + 1 => if done.contains head then advance (head + 1) (done.filter (· != head)) fuel else (head, done)

/-- An entry completes: its status is written, then the head report, then the vectors of the entries it covers. -/
def State.finishCmd (s : State) (f : FnId) (q : Nat) (x : Queue) (idx : W32) (irq : Bool) (st : BitVec 8) : State :=
  let s := { s.beat 7 (64 * f.val + q) with host := Mem.writeN s.host (x.entryAt idx + 56) (s.doneWord st) 8 }
  let h := advance x.head (x.done ++ [idx]) (x.done.length + 1)
  let irqs := if irq then x.irqs ++ [idx] else x.irqs
  let covered := irqs.filter (fun i => decide ((h.1 - i - 1).toNat < 2 ^ 31))
  let x := { x with head := h.1, reported := x.reported + (h.1 - x.head).setWidth 64, done := h.2, irqs := irqs.filter (fun i => !covered.contains i)
                    running := x.running.filter (fun r => r.idx != idx) }
  let s := { (s.setQueue f q (some x)) with host := Mem.writeN s.host x.headAddr x.reported.toNat 8 }
  covered.foldl (fun s _ => s.sendVector f (s.queueVector f q)) s

/-- ABORTED in every entry from HEAD to the last TAIL written; the head report, and the vectors of the entries it covers; the queue
is removed (R381, R382). -/
def State.removeQueue (s : State) (f : FnId) (q : Nat) (x : Queue) : State :=
  let es := (List.range (x.tail - x.head).toNat).map (fun i => x.head + BitVec.ofNat 32 i)
  let irqs := es.filter (fun i => x.irqs.contains i || (!x.done.contains i && Mem.readN s.host (x.entryAt i) 8 / 2 ^ 55 % 2 = 1))
  let h := es.foldl (fun m i => Mem.writeN m (x.entryAt i + 56) (s.doneWord stAborted) 8) s.host
  let n := x.reported + (x.tail - x.head).setWidth 64
  let s := ({ s with host := Mem.writeN h x.headAddr n.toNat 8 }).setQueue f q none
  irqs.foldl (fun s _ => s.sendVector f (s.queueVector f q)) s

/-- The status a command that has waited now completes with: ARRIVE once its arrivals are registered, QDELETE once its
queue's running commands are complete. -/
def State.settleCmd (s : State) (f : FnId) (q : Nat) (r : RunCmd) : State × Option (BitVec 8) :=
  if r.owed != 0 then (s, none) else
  match r.status with
  | some st => (s, some st)
  | none =>
    let opc := wbits r.words 0 63 56
    if opc = 1 || opc = 2 then (s, some stOk)
    else if opc = 3 then
      (s, if s.arrivals.any (fun a => a.src = .host f q r.idx) then none else some stOk)
    else if opc = 9 then
      match s.queue f (wbits r.words 4 5 0) with
      | none => (s, some stBadField)
      | some y => if y.running.isEmpty then (s.removeQueue f (wbits r.words 4 5 0) y, some stOk) else (s, none)
    else (s, none)

/-- Opcodes that R379, R401 and the split commands do not give. -/
def reservedOpc (o : Nat) : Bool := !((o ≤ 6) || o = 8 || o = 9 || (0x10 ≤ o && o ≤ 0x16) || (0x20 ≤ o && o ≤ 0x22))

/-- A command of a queue completes. An entry with a reserved opcode completes as it starts. -/
def execCommandComplete (f : FnId) (q : Fin 64) (idx : W32) (s : State) : Out :=
  match s.queue f q with
  | none => .next s
  | some x =>
    match x.running.find? (fun r => r.idx = idx) with
    | some r =>
      let t := s.settleCmd f q r
      match t.2, t.1.queue f q with
      | some st, some x => .next (t.1.finishCmd f q x idx (wbits r.words 0 55 55 = 1) st)
      | _, _ => .next s
    | none =>
      match s.nextEntry f q with
      | some (x, w) =>
        if x.next = idx && reservedOpc (wbits w 0 63 56) then
          let x := { x with next := x.next + 1 }
          .next ((s.setQueue f q (some x)).finishCmd f q x idx (wbits w 0 55 55 = 1) stBadOpcode)
        else .next s
      | none => .next s

end Sys2Proof.Machine
end

