-- ==== Sys2Proof/Machine/Control.lean ====
section
/-! DEFINITION. The C class (R180), cheap points (R152, R153) and what follows them. END stands in
Machine/Hang.lean. -/

namespace Sys2Proof.Machine
open Sys2Proof

/-- The target PC + IMM, modulo 2^30. -/
def State.target (s : State) (c : CoreId) (q : SeqId) (w : CT) : Off := (s.seq c q).pc + (immS w.imm).setWidth 30

def execNop (c : CoreId) (q : SeqId) (w : CT) (s : State) : Out := s.issueCT c q w false (fun s _ => .retire s)

/-- PC := PC + IMM; a target that is no multiple of 8 is X_ALIGN at the branch. -/
def execBr (c : CoreId) (q : SeqId) (w : CT) (s : State) : Out :=
  s.issueCT c q w false (fun s _ =>
    if (s.target c q w).toNat % 8 = 0 then .jump s (s.target c q w) else .fault .xAlign [])

/-- s[D] := PC + 8, then the branch. -/
def execCall (c : CoreId) (q : SeqId) (w : CT) (s : State) : Out :=
  s.issueCT c q w false (fun s _ =>
    if (s.target c q w).toNat % 8 = 0 then
      .jump (s.modSeq c q (fun z => z.ws w.d ((z.pc + 8).setWidth 64))) (s.target c q w)
    else .fault .xAlign [])

/-- PC := s[A][29:0]. -/
def execJr (c : CoreId) (q : SeqId) (w : CT) (s : State) : Out :=
  s.issueCT c q w false (fun s _ =>
    let t : Off := ((s.seq c q).rs w.a).setWidth 30
    if t.toNat % 8 = 0 then .jump s t else .fault .xAlign [])

/-- A sequencer at a cheap point (R153, R165): a stop in progress takes effect there. -/
def stopHere (z : Seq) : Seq :=
  if z.state = .stopping then { z with state := if z.stopHold then .held else .stopped } else z

/-- What follows when sequencers of a context have stopped: the windows are discarded on cores whose three sequencers
have stopped (R155), and a HOLD takes effect (R158). -/
def State.settle (s : State) (x : CtxId) : State := ((s.settleStop x).settleHold x).settleEnd x

/-- The outcome with what follows a stop. -/
def settleOut (s : State) (c : CoreId) : State :=
  match (s.core c).ctx with
  | some x => s.settle x
  | none => s

/-- Live-range pointer := PC + IMM, then the cheap point. -/
def execCheap (c : CoreId) (q : SeqId) (w : CT) (s : State) : Out :=
  match s.issueCT c q w false (fun s _ =>
    if (s.target c q w).toNat % 8 = 0 then
      retireSeq s c q (fun z => stopHere { z with lrp := some (s.target c q w) })
    else .fault .xAlign []) with
  | .next t => .next (if s.canIssue c q then settleOut t c else t)
  | o => o

end Sys2Proof.Machine
end

