-- ==== Sys2Proof/Machine/Streams.lean ====
section
/-! DEFINITION. The issue of TSTREAM, TREARM, TCANCEL, TSTAT, TGATHER and XRCHECK (R189 to R192, R215): quotas, allocation
and reclaim (R136, R238), descriptors (R217, R247). -/

namespace Sys2Proof.Machine
open Sys2Proof

/-! ## Slots of the two engines -/

/-- A slot of the stream engine, or an index stream of the gather engine. -/
def State.slot (s : State) (c : CoreId) (gth : Bool) (j : Nat) : Slot :=
  if gth then vget (s.core c).gth (Fin.ofNat 8 j) else vget (s.core c).str (Fin.ofNat 32 j)
def State.setSlot (s : State) (c : CoreId) (gth : Bool) (j : Nat) (z : Slot) : State :=
  s.modCore c (fun k => if gth then { k with gth := vset k.gth (Fin.ofNat 8 j) z } else { k with str := vset k.str (Fin.ofNat 32 j) z })
def State.modSlot (s : State) (c : CoreId) (gth : Bool) (j : Nat) (f : Slot → Slot) : State := s.setSlot c gth j (f (s.slot c gth j))
def slotCount (gth : Bool) : Nat := if gth then 8 else 32

/-- Tags a slot holds (R229): a request holds one from its grant until it completes. -/
def Slot.tags (z : Slot) : Nat := (z.reqs.filter (fun r => r.st != .window)).length

/-- The quota of a sequencer (R136, SEQ_QUOTA). -/
def State.slotQuota (s : State) (c : CoreId) (q : SeqId) (gth : Bool) : Nat :=
  match q, gth with
  | .F, false => s.fld (Reg.SEQ_QUOTA c) 4 0
  | .B, false => s.fld (Reg.SEQ_QUOTA c) 9 5
  | .U, false => s.fld (Reg.SEQ_QUOTA c) 14 10
  | .F, true => s.fld (Reg.SEQ_QUOTA c) 19 16
  | .B, true => s.fld (Reg.SEQ_QUOTA c) 23 20
  | .U, true => s.fld (Reg.SEQ_QUOTA c) 27 24

def State.slotsOf (s : State) (c : CoreId) (q : SeqId) (gth : Bool) : List Nat :=
  (List.range (slotCount gth)).filter (fun j => (s.slot c gth j).state != .idle && (s.slot c gth j).holder = some q)

/-- Entries of the watch table of a slot's lines, dropped when it leaves DONE (R243). -/
def State.unwatch (s : State) (c : CoreId) (gth : Bool) (j : Nat) : State :=
  { s with watch := s.watch.map (fun l => l.filter (fun e => !(e.core = c && e.gth = gth && e.slot = j))) }

/-- A slot that may be reclaimed: DONE, or CANCELLED with no tag held and no re-arm pending (R238). -/
def Slot.reclaimable (z : Slot) : Bool := z.state == .done || (z.state == .cancelled && z.reqs.isEmpty && z.pend.isNone)

/-- Reclaimable slots of a sequencer return to IDLE, the lowest first, while it holds as many slots as its quota or more
(R136, R238). -/
def State.reclaim (s : State) (c : CoreId) (q : SeqId) (gth : Bool) : State :=
  (s.slotsOf c q gth).foldl (fun s j =>
    if s.slotQuota c q gth ≤ (s.slotsOf c q gth).length && (s.slot c gth j).reclaimable then
      (s.unwatch c gth j).modSlot c gth j (fun z => { Slot.reset with faultVa := z.faultVa })
    else s) s

/-- A slot for a sequencer (R136, R238): the lowest IDLE one once it holds fewer than its quota, what can be reclaimed
being reclaimed; none where the instruction waits. -/
def State.allocSlot (s : State) (c : CoreId) (q : SeqId) (gth : Bool) : State × Option Nat :=
  let s := s.reclaim c q gth
  (s, if s.slotQuota c q gth ≤ (s.slotsOf c q gth).length then none
      else (List.range (slotCount gth)).find? (fun j => (s.slot c gth j).state = .idle))

/-! ## Descriptors -/

/-- The memory base (a[AR] + MOFF) mod 2^57 (R218, R247). -/
def memBase (z : Seq) (ar : BitVec 4) (moff : W64) : Nat := ((z.ra ar).toNat + moff.toNat) % 2 ^ 57

/-- The checks of a stream descriptor at issue (R217, R218). -/
def checkStream (d : List W64) (mb : Nat) : Option EvName :=
  let zero := zeroBits d [(0, 59, 30), (2, 63, 30), (3, 63, 56), (3, 42, 32), (4, 63, 56), (5, 63, 56), (5, 42, 32), (6, 63, 0),
    (7, 63, 0)]
  if 2 ≤ wbits d 0 63 62 || wbits d 0 61 60 = 3 || !zero || (wbits d 4 43 43 = 1 && wbits d 4 42 32 = 0) then some .xIllegal
  else if mb % 64 != 0 || wbits d 2 29 0 % 64 != 0 || wbits d 0 29 0 % 64 != 0 then some .xAlign
  else none

/-- A speculative stream to or from another package's memory waits at issue (R161). -/
def State.streamHeld (s : State) (x : CtxId) (win : Option (Fin 2)) (mb : Nat) : Bool :=
  win.isSome && (match s.findWin (s.ctx x).part mb with | some i => s.memWinKind i = 3 | none => false)

/-- What a slot is given: a descriptor with its memory base, and what fixes the side of its accesses (R160). -/
def State.rearm (s : State) (c : CoreId) (d : List W64) (mb : Nat) (o : Origin) : Rearm :=
  ⟨d, mb, o, o.win.bind (s.olderWin c), [], []⟩

/-- A descriptor taken by a slot: ARMED (R237). -/
def Slot.arm (z : Slot) (r : Rearm) : Slot :=
  { Slot.reset with state := .armed, holder := some r.org.seq, cur := r, faultVa := z.faultVa }

/-- Hand a stream descriptor to a new slot, and its number to s[D] (R189). -/
def State.newStream (s : State) (c : CoreId) (q : SeqId) (r : Rearm) (d : BitVec 5) : Issued :=
  if s.slotQuota c q false = 0 then .fault .xQuota [] else
  if s.streamHeld r.org.ctx r.org.win r.mbase then .wait (match r.org.win with | some w => s.specHeld c w | none => s) else
  match s.allocSlot c q false with
  | (s, none) => .wait s
  | (s, some j) =>
    retireSeq ((s.setSlot c false j ((s.slot c false j).arm r)).accepted c q) c q (fun z => z.ws d (BitVec.ofNat 64 j))

/-- The descriptor of a TSTREAM or TREARM, checked. -/
def State.streamDesc (s : State) (c : CoreId) (q : SeqId) (x : CtxId) (w : EA) (body : Rearm → Issued) : Issued :=
  s.withDesc c q w.sd w.doff.toNat 64 (fun d =>
    let mb := memBase (s.seq c q) w.ar (word d 1)
    match checkStream d mb with
    | some e => .fault e []
    | none => body (s.rearm c d mb (s.originE c q x w.hv w.hid w.sb)))

def execTstream (c : CoreId) (q : SeqId) (w : EA) (s : State) : Out :=
  s.issueEA c q w false (fun s x => s.streamDesc c q x w (fun r => s.newStream c q r w.xf))

/-- TREARM by the state of the slot named by s[D] (R190, R237, R239); otherwise as TSTREAM. -/
def execTrearm (c : CoreId) (q : SeqId) (w : EA) (s : State) : Out :=
  s.issueEA c q w false (fun s x => s.streamDesc c q x w (fun r =>
    let j := ((s.seq c q).rs w.xf).toNat % 32
    let z := s.slot c false j
    if z.state = .idle || z.holder != some q then s.newStream c q r w.xf
    else if s.streamHeld x r.org.win r.mbase then .wait (match r.org.win with | some w => s.specHeld c w | none => s)
    else
      let busy := z.state = .armed || z.state = .running || z.state = .halted || (z.state = .cancelled && !z.reqs.isEmpty)
      if busy then
        if z.pend.isSome then .fault .strRearmReject []
        else .retire ((s.setSlot c false j { z with pend := some r }).accepted c q)
      else .retire ((((s.unwatch c false j).setSlot c false j (z.arm r))).accepted c q)))

/-- Cancel a slot (R191, R237): no further request; issued reads are dropped when they return. -/
def Slot.cancel (z : Slot) : Slot :=
  match z.state with
  | .armed | .running | .halted =>
    { z with state := .cancelled, pend := none, halting := none, prg := false, reqs := z.reqs.filter (fun r => r.st != .window) }
  | .cancelled => { z with pend := none }
  | _ => z

def execTcancel (c : CoreId) (q : SeqId) (w : EA) (s : State) : Out :=
  s.issueEA c q w (w.sd != 0 || w.ar != 0 || w.doff != 0) (fun s x =>
    let j := ((s.seq c q).rs w.xf).toNat % 32
    let z := s.slot c false j
    let s := if z.holder = some q then s.setSlot c false j z.cancel else s
    .retire ((s.complete (s.originE c q x w.hv w.hid w.sb) unitStr).accepted c q))

def SlotState.code : SlotState → Nat | .idle => 0 | .armed => 1 | .running => 2 | .halted => 3 | .done => 4 | .cancelled => 5

/-- The status of a slot (R191, STR_SLOT). -/
def Slot.status (z : Slot) : Nat :=
  z.tags * 65536 + (if z.pend.isSome then 32 else 0) + ownerCode z.holder * 8 + z.state.code

/-- TSTAT: the status of slot s[A][4:0] to s[D]. -/
def execTstat (c : CoreId) (q : SeqId) (w : SR) (s : State) : Out :=
  s.issueSR c q w false (fun s _ =>
    retireSeq s c q (fun z => z.ws w.d (BitVec.ofNat 64 (s.slot c false ((z.rs w.a).toNat % 32)).status)))

/-! ## TGATHER and XRCHECK -/

/-- Index size in bytes (R247). -/
def idxBytes (d : List W64) : Nat := 2 * 2 ^ wbits d 0 59 58

/-- The checks of a gather descriptor at issue (R247): the descriptor with its offsets redirected (R160). The addresses of an
empty one are not checked (R54). -/
def State.checkGather (s : State) (c : CoreId) (q : SeqId) (win : Option (Fin 2)) (d : List W64) : Except EvName (List W64) :=
  let zero := zeroBits d [(0, 57, 30), (3, 63, 57), (4, 63, 54), (5, 29, 0), (6, 63, 56), (6, 42, 32), (7, 63, 0)]
  let count := wbits d 2 31 0
  let row := wbits d 2 63 32
  if 2 ≤ wbits d 0 63 62 || wbits d 0 61 60 = 3 || wbits d 0 59 58 = 3 || wbits d 5 31 30 = 3 || !zero then .error .xIllegal
  else if count = 0 || row = 0 then .ok d
  else if wbits d 0 29 0 % 8 != 0 || row % 64 != 0 || wbits d 3 56 0 % 64 != 0 || wbits d 4 29 0 % 64 != 0 then .error .xAlign
  else
    match s.checkExtents c q win [⟨wbits d 0 29 0, count * idxBytes d, false⟩,
        ⟨wbits d 4 29 0, (count - 1) * wbits d 4 53 30 * 64 + row, wbits d 0 63 62 = 0⟩] with
    | .error e => .error e
    | .ok as => .ok (putOff (putOff d 0 0 ((as[0]?).getD 0)) 4 0 ((as[1]?).getD 0))

/-- The gather engine's command queue has room (R251). -/
def State.gthRoom (s : State) (c : CoreId) : Bool := decide ((s.core c).gthQ.length < 16)

def execTgather (c : CoreId) (q : SeqId) (w : EA) (s : State) : Out :=
  s.issueEA c q w false (fun s x => s.withDesc c q w.sd w.doff.toNat 64 (fun d =>
    let mb := memBase (s.seq c q) w.ar (word d 1)
    let o := s.originE c q x w.hv w.hid w.sb
    match s.checkGather c q o.win d with
    | .error e => .fault e []
    | .ok d =>
      if s.slotQuota c q true = 0 then .fault .xQuota [] else
      if s.streamHeld x o.win mb then .wait (match o.win with | some w => s.specHeld c w | none => s) else
      if !s.gthRoom c then .wait s else
      match s.allocSlot c q true with
      | (s, none) => .wait s
      | (s, some j) =>
        let s := s.setSlot c true j ((s.slot c true j).arm (s.rearm c d mb o))
        let s := s.modCore c (fun k => { k with gthQ := k.gthQ ++ [.gather (Fin.ofNat 8 j)] })
        retireSeq (s.accepted c q) c q (fun z => z.ws w.xf (BitVec.ofNat 64 j))))

/-- The checks of an XRCHECK descriptor (R215). -/
def State.checkXr (s : State) (c : CoreId) (q : SeqId) (win : Option (Fin 2)) (d : List W64) : Except EvName (List W64) :=
  if !zeroBits d [(0, 63, 30), (1, 63, 30), (2, 63, 32), (3, 63, 30)] then .error .xIllegal
  else if wbits d 3 29 0 % 8 != 0 then .error .xAlign
  else
    let n := 4 * wbits d 2 31 0
    match s.checkExtents c q win [⟨wbits d 0 29 0, n, false⟩, ⟨wbits d 1 29 0, n, false⟩, ⟨wbits d 3 29 0, 8, true⟩] with
    | .error e => .error e
    | .ok as => .ok (putOff (putOff (putOff d 0 0 ((as[0]?).getD 0)) 1 0 ((as[1]?).getD 0)) 3 0 ((as[2]?).getD 0))

def execXrcheck (c : CoreId) (q : SeqId) (w : EF) (s : State) : Out :=
  s.issueE c q w (w.xf != 0) (fun s x => s.withDesc c q w.sd w.doff.toNat 32 (fun d =>
    let o := s.originE c q x w.hv w.hid w.sb
    match s.checkXr c q o.win d with
    | .error e => .fault e []
    | .ok d =>
      if !s.gthRoom c then .wait s else
      .retire (((s.rouse 3 c ((s.core c).lineHolds true)).modCore c (fun k => { k with gthQ := k.gthQ ++ [.xrcheck d o] })).accepted c q)))

end Sys2Proof.Machine
end

