-- ==== Sys2Proof/Machine/Lines.lean ====
section
/-! DEFINITION. The lines of index streams (R248) and the turn buffers of streams (R228). -/

namespace Sys2Proof.Machine
open Sys2Proof

/-! ## Index streams (R248) -/

/-- What an index names. -/
inductive RowAt where
  | row (v : Nat)
  | zeros
  | skip
  | outOfRange
  deriving DecidableEq, Repr

/-- Index j of an index stream, read from the core store. -/
def gatherRow (d : List W64) (m : Mem) (j : Nat) : RowAt :=
  let n := idxBytes d
  let v := m.readN (wbits d 0 29 0 + j * n) n
  let scatter := wbits d 0 63 62 = 1
  if v + 1 = 2 ^ (8 * n) then (if scatter then .skip else .zeros)
  else if wbits d 5 63 32 ≤ v then
    match wbits d 5 31 30 with
    | 0 => .outOfRange
    | 1 => .skip
    | _ => if scatter then .skip else .zeros
  else .row v

def gatherStore (d : List W64) (j : Nat) : Nat := wbits d 4 29 0 + j * wbits d 4 53 30 * 64

/-- The next line of row v of an index stream at a position. -/
def gatherLine (z : Slot) (g : GenPos) (v : Nat) : GenLine :=
  let row := wbits z.desc 2 63 32
  let m := (z.cur.mbase + v * wbits z.desc 3 56 0 + g.off) % 2 ^ 57
  let n := min (256 - m % 256) (row - g.off)
  let g' := if g.off + n = row then { g with row := g.row + 1, off := 0, made := g.made + 1 } else { g with off := g.off + n }
  ⟨m / 256 * 256, [⟨m % 256, n, .lin (gatherStore z.desc g.row + g.off), z.chunkOf true g.row⟩], z.chunkOf true g.row, g'⟩

/-- Rows of an index stream: none when COUNT or ROW_BYTES is zero (R54). -/
def Slot.rows (z : Slot) : Nat := if wbits z.desc 2 63 32 = 0 then 0 else wbits z.desc 2 31 0

/-! ## Turn buffers (R228) -/

def Piece.tile (p : Piece) : Option Nat := match p.dest with | .turn _ _ _ _ _ t | .placed _ _ _ t => some t | .lin _ => none

/-- LOAD tiles of a slot that hold a turn buffer: those with a request not complete, and one that is being generated. A
CANCELLED slot generates none. -/
def Slot.turnsHeld (z : Slot) : List Nat :=
  if z.isStore then [] else
  let open_ := z.reqs.flatMap (fun r => r.pieces.filterMap Piece.tile)
  let cur := if z.state = .cancelled then [] else if z.pos.k != 0 || (z.pos.off != 0 && (match z.prog[z.pos.pc]? with | some o => o.code == 5 | none => false))
    then [z.pos.tiles] else []
  (open_ ++ cur).eraseDups

/-- A slot's next operation needs a turn buffer and none is free. -/
def State.turnBlocked (s : State) (c : CoreId) (z : Slot) : Bool :=
  let needs := !z.isStore && (match z.prog[z.pos.pc]? with | some o => o.code == 5 | none => false)
    && !z.turnsHeld.contains z.pos.tiles
  needs && decide (2 ≤ ((s.core c).str.toList.map (fun y => y.turnsHeld.length)).sum)

end Sys2Proof.Machine
end

