-- ==== Sys2Proof/Machine/LineRun.lean ====
section
/-! DEFINITION. The work of the stream and gather engines: arming, generating, granting tags, serving and completing
lines (R221, R228 to R251). -/

namespace Sys2Proof.Machine
open Sys2Proof

/-! ## Names of the two engines -/

def engUnit (gth : Bool) : Nat := if gth then unitGth else unitStr
def evPageFault (gth : Bool) : EvName := if gth then .gthPageFault else .strPageFault
def evPageInvalid (gth : Bool) : EvName := if gth then .gthPageInvalid else .strPageInvalid
def evPerm (gth : Bool) : EvName := if gth then .gthPerm else .strPerm

/-! ## The end of a run (R231, R232, R237) -/

/-- Chunk n of a slot is complete with every earlier one (R232). -/
def Slot.chunkDone (z : Slot) (gth : Bool) (n : Nat) : Bool :=
  let unit := if gth then z.chunkLen gth else z.chunkLen gth * 64
  unit != 0 && (decide ((n + 1) * unit ≤ z.pos.made) || (z.pos.fin && decide (n * unit < z.pos.made)))
    && z.reqs.all (fun r => r.pieces.all (fun p => decide (n < p.chunk)))
    && (match z.failChunk with | some f => decide (n < f) | none => true)

/-- The chunks of requests that leave without being complete are not complete (R232). -/
def Slot.failing (z : Slot) (rs : List LineReq) : Slot :=
  { z with failChunk := ((rs.flatMap (fun r => r.pieces.map (·.chunk))) ++ z.failChunk.toList).min? }

/-- Send the arrivals of chunks that are complete, in order; a step completes at most so many. -/
def State.sendChunks (s : State) (c : CoreId) (gth : Bool) (j : Nat) : Nat → State
  | 0 => s
  | fuel + 1 =>
    let z := s.slot c gth j
    if z.chunkHv gth && z.chunkDone gth z.sent then
      let o := z.cur.org
      let s := s.sendArrival c ⟨z.chunkHid gth, s.coreBaton c (engUnit gth) o.mb.toNat o.gen.toNat, .ctx o.ctx o.win (.feed c)⟩
      (s.modSlot c gth j (fun z => { z with sent := z.sent + 1 })).sendChunks c gth j fuel
    else s

/-- The watch entries of a run lapse WATCH_US after its completion arrival (R243). -/
def State.startWatchTime (s : State) (c : CoreId) (gth : Bool) (j : Nat) : State :=
  let due := s.ptb + BitVec.ofNat 64 (s.fld (Reg.STR_CFG c) 16 1 * 1000)
  { s with watch := s.watch.map (fun l => l.map (fun e =>
      if e.core = c && e.gth = gth && e.slot = j && e.due.isNone then { e with due := some due } else e)) }

/-- The untranslated host address of an address of a partition (R263). -/
def State.hostAddr (s : State) (p : CoreId) (va : Nat) : Nat :=
  match s.findWin p va with | some i => (s.winTarget i + (va - s.winBase i)) % 2 ^ 64 | none => va

/-- A slot whose issued lines are complete halts (R244): HALTED, the event, and for host memory a page request (R245). -/
def State.haltNow (s : State) (c : CoreId) (gth : Bool) (j : Nat) (host : Bool) : State :=
  let z := s.slot c gth j
  let p := (s.ctx z.cur.org.ctx).part
  let s := if host then { s with pageReqs := s.pageReqs ++ [⟨s.pasid p, s.hostAddr p z.faultVa.toNat / 4096, c, gth, j⟩] } else s
  (s.setSlot c gth j { z with state := .halted, halting := none, prg := host }).raiseRec (evPageFault gth) false
    ⟨some z.cur.org.ctx, some c, some z.cur.org.seq⟩ 0
    [.small 5 j, .word z.faultVa.toNat, .small 4 (if z.isStore then 1 else 0), .small 4 (if host then 1 else 0)]

/-- A slot after one of its lines has completed (R231, R237, R244, R246, R339): its chunks announced; complete, its
completion arrival sent and a pending re-arm taken; HALTED, or CANCELLED, once its last line has returned. -/
def State.settleSlot (s : State) (c : CoreId) (gth : Bool) (j : Nat) : State :=
  let live := match (s.slot c gth j).state with | .running | .halted => true | _ => false
  let s := if live then s.sendChunks c gth j ((s.slot c gth j).pos.made + 1) else s
  let z := s.slot c gth j
  let o := z.cur.org
  match z.state with
  | .running =>
    if !z.reqs.isEmpty then s
    else if z.bad.isSome || z.lost then s.setSlot c gth j { z with state := .cancelled, pend := none, halting := none }
    else if let some host := z.halting then s.haltNow c gth j host
    else if z.pos.fin then
      let s := s.complete o (engUnit gth)
      let s := s.startWatchTime c gth j
      (s.setSlot c gth j (match z.pend with | some r => z.arm r | none => { z with state := .done, pend := none })).freeEnded o.ctx
    else s
  | .cancelled =>
    if z.toIdle then
      let y := { Slot.reset with faultVa := z.faultVa }
      (if z.reqs.isEmpty then s.setSlot c gth j (match z.pend with | some r => y.arm r | none => y) else s)
    else
    let s := if z.reqs.isEmpty then (match z.pend with | some r => (s.unwatch c gth j).setSlot c gth j (z.arm r) | none => s) else s
    s.freeEnded o.ctx
  | .halted => if (z.bad.isSome || z.lost) && z.reqs.isEmpty then s.setSlot c gth j { z with state := .cancelled, pend := none } else s
  | _ => s

/-- A fault of a slot's line n (R246): the instruction's context faults; later lines have no effect and none is issued. -/
def State.lineFault (s : State) (c : CoreId) (gth : Bool) (j n : Nat) (e : EvName) (is : List Item) : State :=
  let z := s.slot c gth j
  let s := s.modSlot c gth j (fun z => { (z.failing (z.reqs.filter (fun r => decide (n ≤ r.n)))) with
    bad := some n, reqs := z.reqs.filter (fun r => decide (r.n < n) || r.st != .window) })
  (s.seqFault z.cur.org e is).settleSlot c gth j

/-! ## Arming (R221, R236, R251) -/

/-- The state with the sides of a slot's accesses as they were at issue (R160): the bases that exchanges have moved since
stand at their old descriptors, and the other window is open and older if it was. -/
def State.asIssued (s : State) (c : CoreId) (r : Rearm) : State :=
  let t := r.moved.foldl (fun t e => t.setAct (Reg.STORE_BASE c e.1) (s.act (Reg.STORE_BASE c e.2))) s
  let t := r.movedMem.foldl (fun t e => (t.setAct (Reg.MEM_WIN_BASE_LO e.1) (s.act (Reg.MEM_WIN_BASE_LO e.2))).setAct
    (Reg.MEM_WIN_BASE_HI e.1) (s.act (Reg.MEM_WIN_BASE_HI e.2))) t
  match r.org.win with
  | none => t
  | some w =>
    let t := t.modWin c w (fun z => { z with younger := r.older.isSome })
    match r.older with
    | some v => t.modWin c v (fun z => { z with state := .open_ })
    | none => t

/-- Read and check a stride program: each 16-byte operation up to END in a CODE or DATA region that grants read (R221). -/
def State.readProg (s : State) (c : CoreId) (q : SeqId) (win : Option (Fin 2)) (base : Nat) : Nat → Nat → Except EvName (List StrideOp)
  | 0, _ => .ok []
  | fuel + 1, i =>
    match s.permitted c q .read (base + 16 * i) 16 with
    | none => .error .xRegion
    | some r =>
      if s.regKind c r != 1 && s.regKind c r != 2 then .error .xRegion else
      match s.redirect c win .read r (base + 16 * i) with
      | .error e => .error e
      | .ok a =>
        let ws := Mem.words (s.core c).store a 2
        let o : StrideOp := ⟨word ws 0, word ws 1⟩
        if o.code = 0 then .ok [o]
        else match s.readProg c q win base fuel (i + 1) with
          | .error e => .error e
          | .ok t => .ok (o :: t)

/-- The engine reads and checks the program of an ARMED slot; with its gate satisfied the slot runs (R236); a poisoned
gate holds its context (R235). -/
def execStreamArm (c : CoreId) (j : Fin 32) (s : State) : Out :=
  let z := s.slot c false j
  if z.state != .armed || !z.prog.isEmpty then .next s else
  let o := z.cur.org
  match (s.asIssued c z.cur).readProg c o.seq o.win (wbits z.desc 0 29 0) 16 0 with
  | .error e => .next ((s.setSlot c false j { z with state := .cancelled, pend := none }).seqFault o e [])
  | .ok p =>
    if !progOk p then .next ((s.setSlot c false j { z with state := .cancelled, pend := none }).seqFault o .strProgram [])
    else .next ((s.setSlot c false j { z with prog := p }).wakeSlot c j)

/-- The command at the head of the gather queue is a TGATHER: its index stream leaves the queue and runs (R251). -/
def execGatherArm (c : CoreId) (s : State) : Out :=
  if s.strHeld c && s.changes (Reg.STR_CFG c) then .next s else
  match (s.core c).gthQ with
  | .gather j :: t =>
    let s := s.modCore c (fun k => { k with gthQ := t })
    .next (s.modSlot c true j (fun z => if z.state = .armed then { z with state := .running } else z))
  | _ => .next s

/-! ## Generation (R228, R244 to R246, R248) -/

/-- What one attempt of the generator does: a line produced, a stop with some effect, or nothing possible. -/
inductive GenRes where
  | produced | stopped | blocked
  deriving DecidableEq, Repr

/-- The first store bytes of elements i on of a TURN piece, checked by R140 and redirected by R160; or the fault. -/
def State.turnSpots (s : State) (c : CoreId) (z : Slot) (k : AccKind) (b : Nat) (pitch : Int) (k0 e2 : Nat) :
    Nat → Nat → Except EvName (List Nat)
  | 0, _ => .ok []
  | n + 1, i =>
    let a : Int := (b : Int) + (i : Int) * pitch + ((k0 * e2 / 2 : Nat) : Int)
    if a < 0 || 2 ^ 30 ≤ a then .error .xRegion
    else match s.access c z.cur.org.seq z.cur.org.win k a.toNat ((e2 + 1) / 2), s.turnSpots c z k b pitch k0 e2 n (i + 1) with
      | .ok x, .ok t => .ok (x :: t)
      | .error e, _ => .error e
      | _, .error e => .error e

/-- Where a piece meets the core store, checked by R140 and redirected by R160: the piece, or the fault. -/
def State.placePiece (s : State) (c : CoreId) (z : Slot) (p : Piece) : Except EvName Piece :=
  let k : AccKind := if z.isStore then .read else .write
  match p.dest with
  | .lin a =>
    (match s.access c z.cur.org.seq z.cur.org.win k a p.len with
    | .ok b => .ok { p with dest := .lin b }
    | .error e => .error e)
  | .turn b pitch k0 i0 e2 t =>
    (match s.turnSpots c z k b pitch k0 e2 (p.len * 2 / e2) i0 with
    | .ok l => .ok { p with dest := .placed l k0 e2 t }
    | .error e => .error e)
  | .placed .. => .ok p

def State.placePieces (s : State) (c : CoreId) (z : Slot) : List Piece → Except EvName (List Piece)
  | [] => .ok []
  | p :: t => match s.placePiece c z p, s.placePieces c z t with
    | .ok p, .ok t => .ok (p :: t)
    | .error e, _ => .error e
    | _, .error e => .error e

/-- A line finds its page absent (R244): no further request, the position kept at the first line not issued, and the address
recorded. -/
def State.haltSlot (s : State) (c : CoreId) (gth : Bool) (j : Nat) (va : Nat) (host : Bool) : State :=
  let z := s.slot c gth j
  let first := z.reqs.find? (fun r => r.st = .window)
  let z' := { z with
    halting := some host, faultVa := BitVec.ofNat 57 va
    pos := match first with | some r => r.pos | none => z.pos
    next := match first with | some r => r.n | none => z.next
    reqs := z.reqs.filter (fun r => r.st != .window) }
  (s.setSlot c gth j z').settleSlot c gth j

/-- Put a generated line into the issue window: merged into the request just before it in program order when that has the
same line and no tag yet (R227). -/
def Slot.addLine (z : Slot) (l : GenLine) (va : Nat) (pl : Place) (cached : Bool) (ps : List Piece) : Slot :=
  let z' := { z with pos := l.pos }
  match z.reqs.getLast? with
  | some r =>
    if r.va = l.va && r.st = .window && r.n + 1 = z.next then
      { z' with reqs := z.reqs.dropLast ++ [{ r with pieces := r.pieces ++ ps }] }
    else { z' with reqs := z.reqs ++ [⟨z.next, l.va, va, pl, cached, z.hint, ps, z.pos, [], .window⟩], next := z.next + 1 }
  | none => { z' with reqs := z.reqs ++ [⟨z.next, l.va, va, pl, cached, z.hint, ps, z.pos, [], .window⟩], next := z.next + 1 }

/-- The line's address is translated (R261, R263, R264) and the request made; or the slot halts or faults. -/
def State.genLine (s : State) (c : CoreId) (gth : Bool) (j : Nat) (l : GenLine) : State × GenRes :=
  let z := s.slot c gth j
  let o := z.cur.org
  let p := (s.ctx o.ctx).part
  let placed := if gth then Except.ok l.pieces else (s.asIssued c z.cur).placePieces c z l.pieces
  match placed with
  | .error e => (s.lineFault c gth j z.next e [], .stopped)
  | .ok ps =>
    match (s.asIssued c z.cur).specAddr p c o.win z.isStore l.va with
    | .error e => (s.lineFault c gth j z.next e [.word l.va], .stopped)
    | .ok va =>
      let t := s.translate (.core c) p va z.isStore
      match t.2 with
      | .absent host => (t.1.haltSlot c gth j l.va host, .stopped)
      | .refused r => (t.1.lineFault c gth j z.next (evPerm gth) [.word l.va, .small 4 r.code], .stopped)
      | .at_ pl cached =>
        let remote := match pl with | .remote .. => true | _ => false
        let open_ := match o.win with | some w => (t.1.win c w).state == .open_ || (t.1.win c w).state == .commitPending | none => false
        if remote && open_ then ((match o.win with | some w => t.1.specHeld c w | none => t.1), .blocked)
        else (t.1.modSlot c gth j (fun z => z.addLine l va pl cached ps), .produced)

/-- Rows of an index stream without a line (R248), from the current one on; at most so many in one attempt. -/
def State.gatherSkip (s : State) (c : CoreId) (j : Nat) : Nat → State × Option (RowAt)
  | 0 => (s, none)
  | fuel + 1 =>
    let z := s.slot c true j
    if z.rows ≤ z.pos.row then (s.modSlot c true j (fun z => { z with pos := { z.pos with fin := true } }), none)
    else match gatherRow z.desc (s.core c).store z.pos.row with
      | .zeros =>
        let s := s.modStore c (fun m => Mem.setBytes m (gatherStore z.desc z.pos.row) (List.replicate (wbits z.desc 2 63 32) 0))
        (s.modSlot c true j (fun z => { z with pos := { z.pos with row := z.pos.row + 1, made := z.pos.made + 1 } })).gatherSkip c j fuel
      | .skip =>
        (s.modSlot c true j (fun z => { z with pos := { z.pos with row := z.pos.row + 1, made := z.pos.made + 1 } })).gatherSkip c j fuel
      | r => (s, some r)

/-- One attempt of the generator at a slot. -/
def State.genOne (s : State) (c : CoreId) (gth : Bool) (j : Nat) : State × GenRes :=
  let z := s.slot c gth j
  if z.state != .running || z.bad.isSome || z.lost || z.halting.isSome || z.pos.fin then (s, .blocked) else
  if gth then
    let r := if z.pos.off = 0 then s.gatherSkip c j 64 else (s, some (gatherRow z.desc (s.core c).store z.pos.row))
    match r.2 with
    | some (.row v) => r.1.genLine c true j (gatherLine (r.1.slot c true j) (r.1.slot c true j).pos v)
    | some .outOfRange => (r.1.lineFault c true j (r.1.slot c true j).next .gthIndexRange [.small 32 (r.1.slot c true j).pos.row], .stopped)
    | _ => (r.1.settleSlot c true j, .stopped)
  else
    let z := { z with pos := z.pos.settle z.prog 4096 }
    let s := s.setSlot c false j z
    match streamLine z z.pos with
    | .end_ => (s.settleSlot c false j, .stopped)
    | .badStore => (s.lineFault c false j z.next .xRegion [], .stopped)
    | .walking => (s, .stopped)
    | .line l =>
      if !s.creditOpen z l.last then
        ((match s.slotWaits z with | some h => if (s.hurdle h).state = .poisoned then s.requestHold z.cur.org.ctx .poisoned else s | none => s),
          .blocked)
      else if s.turnBlocked c z then (s, .blocked)
      else s.genLine c false j l

/-- Up to n lines of a slot. -/
def State.genMany (s : State) (c : CoreId) (gth : Bool) (j : Nat) : Nat → State
  | 0 => s
  | n + 1 =>
    let r := s.genOne c gth j
    if r.2 = .produced then r.1.genMany c gth j n else r.1

/-- Slots in rotation after one (R228, R229). -/
def rotation (n last : Nat) : List Nat := (List.range n).map (fun i => (last + 1 + i) % n)

/-- Serve the first slot of a rotation that produces a line request; the others are passed over (R228). -/
def State.genFirst (s : State) (c : CoreId) (gth : Bool) : List Nat → State
  | [] => s
  | j :: t =>
    let z := s.slot c gth j
    if decide (8 < (z.reqs.filter (fun r => r.st = .window)).length) then s.genFirst c gth t else
    let r := s.genOne c gth j
    match r.2 with
    | .blocked | .stopped => r.1.genFirst c gth t
    | .produced =>
      let s := r.1.modCore c (fun k => if gth then { k with gthRot := j } else { k with strRot := j })
      (s.genMany c gth j 7).settleSlot c gth j

/-- A cycle of an address generator (R228): up to 8 line requests of one slot. -/
def execLineGenerate (c : CoreId) (gth : Bool) (s : State) : Out :=
  .next ((s.rouse (if gth then 3 else 2) c ((s.core c).lineHolds gth)).genFirst c gth
    (rotation (slotCount gth) (if gth then (s.core c).gthRot else (s.core c).strRot)))

/-! ## Bytes between a line and the core store (R224) -/

/-- The store byte and half of a half byte h of a TURN piece: of its element ⌊h / e2⌋, half h mod e2. -/
def turnHalf (spots : List Nat) (k e2 h : Nat) : Nat × Nat :=
  let x := k * e2 % 2 + h % e2
  ((spots[h / e2]?).getD 0 + x / 2, x % 2)

/-- The bytes a STORE piece reads from the core store, by offset in the line. -/
def State.pieceRead (s : State) (c : CoreId) (p : Piece) : List (Nat × Byte) :=
  let m : Mem := (s.core c).store
  match p.dest with
  | .lin a => (List.range p.len).map (fun i => (p.moff + i, m.byte (a + i)))
  | .turn .. => []
  | .placed l k e2 _ =>
    let half (h : Nat) : Nat :=
      let x := turnHalf l k e2 h
      (m.byte x.1).toNat / 16 ^ x.2 % 16
    (List.range p.len).map (fun i => (p.moff + i, BitVec.ofNat 8 (half (2 * i) + 16 * half (2 * i + 1))))

/-- A LOAD piece written to the core store. -/
def State.pieceWrite (s : State) (c : CoreId) (data : List (Nat × Byte)) (p : Piece) : State :=
  let byte (i : Nat) : Byte := match data.find? (fun d => d.1 = i) with | some d => d.2 | none => 0
  match p.dest with
  | .lin a => s.modStore c (fun m => Mem.setBytes m a ((List.range p.len).map (fun i => byte (p.moff + i))))
  | .turn .. => s
  | .placed l k e2 _ =>
    (List.range (2 * p.len)).foldl (fun s h =>
      let x := turnHalf l k e2 h
      let v := (byte (p.moff + h / 2)).toNat / 16 ^ (h % 2) % 16
      s.modStore c (fun m =>
        let old := (m.byte x.1).toNat
        let new := if x.2 = 0 then old / 16 * 16 + v else v * 16 + old % 16
        Mem.setByte m x.1 (BitVec.ofNat 8 new))) s

/-! ## Tags (R229, R230) -/

/-- Where the lines lie that hold a tag of an engine. -/
def State.tagged (s : State) (c : CoreId) (gth : Bool) : List Place :=
  (List.range (slotCount gth)).flatMap (fun j => ((s.slot c gth j).reqs.filter (fun r => r.st != .window)).map (·.place))
    ++ (if gth then [] else (s.core c).copyTags.map (·.2))

/-- A request is held by a quota (R230), or no tag of the engine is free. -/
def State.tagHeld (s : State) (c : CoreId) (gth : Bool) (pl : Place) : Bool :=
  let ts := s.tagged c gth
  let q1 := if gth then Reg.GTH_QUOTA c else Reg.STR_QUOTA c
  let q2 := if gth then Reg.GTH_QUOTA2 c else Reg.STR_QUOTA2 c
  decide ((if gth then 2048 else 4096) ≤ ts.length) ||
  match pl with
  | .hbm pa =>
    let bg := (s.cell pa).bankGroup
    decide (s.fld q1 12 0 ≤ (ts.filter (fun r => match r with | .hbm pb => (s.cell pb).bankGroup == bg | _ => false)).length)
  | .host _ => decide (s.fld q1 28 16 ≤ (ts.filter (fun r => match r with | .host _ => true | _ => false)).length)
  | .remote .. => decide (s.fld q2 12 0 ≤ (ts.filter (fun r => match r with | .remote .. => true | _ => false)).length)

/-- The oldest request of a slot that may be granted: none before it in the window has its line (R229). -/
def State.eligible (s : State) (c : CoreId) (gth : Bool) (z : Slot) : Option LineReq :=
  let ws := z.reqs.filter (fun r => r.st = .window)
  ws.find? (fun r => !s.tagHeld c gth r.place && !ws.any (fun t => decide (t.n < r.n) && t.va == r.va))

def State.modReq (s : State) (c : CoreId) (gth : Bool) (j n : Nat) (f : LineReq → LineReq) : State :=
  s.modSlot c gth j (fun z => { z with reqs := z.reqs.map (fun r => if r.n = n then f r else r) })

/-- Put a line of a run into the watch table of its die, in check mode (R243). -/
def State.watchLine (s : State) (c : CoreId) (gth : Bool) (j : Nat) (z : Slot) (r : LineReq) : State :=
  match r.place with
  | .hbm pa =>
    if s.fld (Reg.STR_CFG c) 0 0 = 0 || z.isStore then s else
    let die := (s.cell pa).die
    let l := vget s.watch die
    let e : Watch := ⟨c, gth, j, z.cur.org.ctx, r.va, pa / 256, none⟩
    let s := if 16384 ≤ l.length then (match l.head? with | some v => s.bump (Reg.STR_WATCH_EVICT v.core) 1 | none => s) else s
    { s with watch := vset s.watch die ((if 16384 ≤ l.length then l.tail else l) ++ [e]) }
  | _ => s

/-- A request takes a tag and leaves (R229): a STORE reads its segments now (R243), and where two of them write a byte of the
line, the later stands (R249); a remote one leaves through a port,
or completes with PEER_LOST (R274, R339). -/
def State.grantLine (s : State) (c : CoreId) (gth : Bool) (j : Nat) (r : LineReq) : State :=
  let z := s.slot c gth j
  let data := if z.isStore then r.pieces.foldl (fun d p => mergeBytes d (s.pieceRead c p)) [] else []
  let s := s.watchLine c gth j z r
  match r.place with
  | .remote pkg pa =>
    let b : MsgBody := if z.isStore then .wr (Fin.ofNat 3 r.hint) data else .rdReq (Fin.ofNat 3 r.hint)
    let t := s.sendReq vcDisp pkg (BitVec.ofNat 48 pa) b (.line c gth j r.n) (some z.cur.org.ctx)
    t.1.modReq c gth j r.n (fun r => { r with data := data, st := if t.2 then .sent else .failed .lost })
  | .hbm pa => (s.noteLine z.cur.org.ctx pa).modReq c gth j r.n (fun r => { r with data := data, st := .sent })
  | .host _ => s.modReq c gth j r.n (fun r => { r with data := data, st := .sent })

/-- The first slot of a rotation with a request that may be granted; with none, what `other` grants. -/
def State.grantFirst (s : State) (c : CoreId) (gth : Bool) (other : State → State) : List Nat → State
  | [] => other s
  | j :: t =>
    match s.eligible c gth (s.slot c gth j) with
    | none => s.grantFirst c gth other t
    | some r =>
      (s.modCore c (fun k => if gth then { k with gthTagRot := j } else { k with strTagRot := j })).grantLine c gth j r

/-! ## Service at a controller (R265, R266, R269) -/

/-- The request n of a slot, when it is the oldest unserved one of its line (R265). -/
def Slot.toServe (z : Slot) (n : Nat) : Option LineReq :=
  z.reqs.find? (fun r => r.n = n && r.st = .sent && !z.reqs.any (fun t => decide (t.n < n) && t.va = r.va && t.st = .sent))

/-- A controller serves a read of a line of a stream or a gather (R265 to R267), with what its error code reports. A row
that a soft repair copies makes its accesses wait (R270). -/
def execHbmRead (c : CoreId) (gth : Bool) (j n : Nat) (e : Ecc) (s : State) : Out :=
  let z := s.slot c gth j
  match z.toServe n with
  | some r =>
    match r.place, z.isStore with
    | .hbm pa, false =>
      let pa := pa / 256 * 256
      if (s.row (s.cell pa).rowKey).copying then .next s else
      let s := s.lineEcc pa e
      let x := s.lineRead pa r.cached r.hint
      if x.2.1 then .next ((x.2.2.countUe pa).modReq c gth j n (fun r => { r with st := .failed (.poisoned pa) }))
      else .next (x.2.2.modReq c gth j n (fun r => { r with data := (List.range 256).zip x.1, st := .served }))
    | _, _ => .next s
  | none => .next s

/-- A controller accepts a write of a line of a stream or a scatter (R265 to R267): the acknowledgement follows. -/
def execHbmWrite (c : CoreId) (gth : Bool) (j n : Nat) (s : State) : Out :=
  let z := s.slot c gth j
  match z.toServe n with
  | some r =>
    match r.place, z.isStore with
    | .hbm pa, true =>
      if (s.row (s.cell pa).rowKey).copying then .next s else
      .next ((s.lineWrite (pa / 256 * 256) r.cached r.hint r.data (engUnit gth)).modReq c gth j n (fun r => { r with st := .served }))
    | _, _ => .next s
  | none => .next s

/-! ## Completion of a line (R231, R232, R246, R339) -/

/-- A slot without one of its requests. -/
def State.dropReq (s : State) (c : CoreId) (gth : Bool) (j n : Nat) : State :=
  (s.beat (if gth then 3 else 2) c).modSlot c gth j (fun z => { z with reqs := z.reqs.filter (fun r => r.n != n) })

/-- A line's data is written to the core store, or its write is acknowledged; a line that failed faults or cancels its
slot. A host-memory line reads or writes host memory here (R275), in order with the others of its line (R249). -/
def execLineComplete (c : CoreId) (gth : Bool) (j n : Nat) (s : State) : Out :=
  let z := s.slot c gth j
  let o := z.cur.org
  match z.reqs.find? (fun r => r.n = n) with
  | none => .next s
  | some r =>
    let dropped := z.state == .cancelled || (match z.bad with | some b => decide (b ≤ n) | none => false)
    let write (s : State) (data : List (Nat × Byte)) : State :=
      if z.isStore || dropped then s else r.pieces.foldl (fun s p => s.pieceWrite c data p) s
    match r.st with
    | .window => .next s
    | .sent =>
      (match r.place with
      | .host a =>
        if (z.toServe n).isNone then .next s else
        let base := a / 256 * 256
        let s := if z.isStore then { s with host := r.data.foldl (fun m d => Mem.setByte m (base + d.1) d.2) s.host } else s
        .next (((write s ((List.range 256).map (fun i => (i, Mem.byte s.host (base + i))))).dropReq c gth j n).settleSlot c gth j)
      | _ => .next s)
    | .served => .next (((write s r.data).dropReq c gth j n).settleSlot c gth j)
    | .failed e =>
      let s := s.dropReq c gth j n
      (match e with
      | .lost =>
        let s := s.modSlot c gth j (fun z => { (z.failing (r :: z.reqs.filter (fun r => r.st = .window))) with lost := true, reqs := z.reqs.filter (fun r => r.st != .window) })
        .next (if z.toIdle then s.settleSlot c gth j else (s.settleSlot c gth j).affected o.ctx)
      | .refused =>
        if dropped then .next (s.settleSlot c gth j)
        else .next ((s.modSlot c gth j (·.failing [r])).lineFault c gth j n (evPerm gth) [.word r.va, .small 4 Refused.remoteRefused.code])
      | .poisoned pa =>
        if dropped then .next (s.settleSlot c gth j)
        else .next ((s.modSlot c gth j (·.failing [r])).lineFault c gth j n .memUncorrectable [.word pa]))

/-! ## Resuming and aborting HALTED slots (R245) -/

/-- A HALTED slot resumes: it regenerates from its position and translates again. -/
def State.resumeSlot (s : State) (c : CoreId) (gth : Bool) (j : Nat) : State :=
  let z := s.slot c gth j
  if z.state = .halted && z.bad.isNone && !z.lost then s.setSlot c gth j { z with state := .running, prg := false } else s

/-- A HALTED slot is aborted: its instruction faults with a page fault that cannot be served. -/
def State.abortSlot (s : State) (c : CoreId) (gth : Bool) (j : Nat) : State :=
  let z := s.slot c gth j
  if z.state = .halted && z.bad.isNone then
    (s.modSlot c gth j (fun z => { z with prg := false })).lineFault c gth j z.next (evPageInvalid gth) [.word z.faultVa.toNat]
  else s

def State.eachSlot (s : State) (bits : W32) (gth : Bool) (f : State → Nat → State) : State :=
  forIdx (slotCount gth) (fun j => bits.getLsbD j) f s

def execStrResumeWrite (c : CoreId) (v : W32) (s : State) : Out :=
  .next (s.pfWrite 0 (Reg.STR_RESUME c) v (fun s => s.eachSlot v false (fun s j => s.resumeSlot c false j)))
def execStrAbortWrite (c : CoreId) (v : W32) (s : State) : Out :=
  .next (s.pfWrite 0 (Reg.STR_ABORT c) v (fun s => s.eachSlot v false (fun s j => s.abortSlot c false j)))
def execGthResumeWrite (c : CoreId) (v : W32) (s : State) : Out :=
  .next (s.pfWrite 0 (Reg.GTH_RESUME c) v (fun s => s.eachSlot v true (fun s j => s.resumeSlot c true j)))
def execGthAbortWrite (c : CoreId) (v : W32) (s : State) : Out :=
  .next (s.pfWrite 0 (Reg.GTH_ABORT c) v (fun s => s.eachSlot v true (fun s j => s.abortSlot c true j)))

/-- The host answers a page request (R245), which is outstanding no more: with success the page is present and the slot
resumes; otherwise it faults. -/
def execPrgResponse (c : CoreId) (gth : Bool) (j : Nat) (ok : Bool) (s : State) : Out :=
  let z := s.slot c gth j
  let s := { s with pageReqs := s.pageReqs.filter (fun r => !(r.core = c && r.gth = gth && r.slot = j)) }
  if !(z.state = .halted && z.prg) then .next s else
  if ok then
    let p := (s.ctx z.cur.org.ctx).part
    let page := s.hostAddr p z.faultVa.toNat / 4096
    let s := { s with hostAbsent := s.hostAbsent.filter (fun e => !(e.1 = p && e.2 = page)) }
    .next (s.resumeSlot c gth j)
  else .next (s.abortSlot c gth j)

/-- Watch entries of a die whose time has passed lapse (R243). -/
def execWatchEntryExpire (n : CoreId) (t : W64) (s : State) : Out :=
  let s := s.atTime t
  .next { s with watch := vmod s.watch n (fun l => l.filter (fun e => match e.due with | some d => decide (s.ptb.toNat < d.toNat) | none => true)) }

/-- The XRCHECK at the head of the gather queue (R215). -/
def execXrcheckCompare (c : CoreId) (s : State) : Out :=
  match (s.core c).gthQ with
  | .xrcheck d o :: t =>
    let m : Mem := (s.core c).store
    let n := wbits d 2 31 0
    let bad := (List.range n).filter (fun i => m.readN (wbits d 0 29 0 + 4 * i) 4 != m.readN (wbits d 1 29 0 + 4 * i) 4)
    let res := bad.length * 2 ^ 32 + (bad.head?).getD 0xFFFFFFFF
    let s := s.modStore c (fun m => Mem.writeN m (wbits d 3 29 0) res 8)
    let s := (s.beat 3 c).modCore c (fun k => { k with gthQ := t })
    let s := if bad.isEmpty then s else s.raiseRec .xReplayDiverged false ⟨some o.ctx, some c, some o.seq⟩ 0
      [.word o.pc.toNat, .small 32 bad.length, .small 32 ((bad.head?).getD 0)]
    .next ((s.complete o unitGth).freeEnded o.ctx)
  | _ => .next s

end Sys2Proof.Machine
end

