-- ==== Sys2Proof/Machine/HurdleCmds.lean ====
section
/-! DEFINITION. The H class (R193 to R196), the events of hurdle units (R144 to R147), and what a release starts: relay
queue kicks (R347) and laggards (R368 to R371). -/

namespace Sys2Proof.Machine
open Sys2Proof

/-! ## What a release starts -/

/-- The relay engine and the context whose entry holds a register. -/
def relEntryAt (off : Nat) : Option (CoreId × CtxId) :=
  let o := off - Reg.REL_CTX 0 0
  if Reg.REL_CTX 0 0 ≤ off && o < 8 * 0x80000 && o % 0x80000 < 0x1000 then some (Fin.ofNat 8 (o / 0x80000), Fin.ofNat 64 (o % 0x80000 / 0x40)) else none

/-- The relay queues that a hurdle kicks (R346, R347), on every relay engine; those of a context that does not use the relay
engine and whose queue register holds its reset value are none. -/
def State.kicksOf (s : State) (hid : Hid) : List (CoreId × CtxId × Fin 3) :=
  ((s.regs.filterMap (fun kv => relEntryAt kv.1)).eraseDups).flatMap (fun e => ([0, 1, 2] : List (Fin 3)).filterMap (fun (q : Fin 3) =>
    if s.fld (Reg.REL_Q_BASE e.1 e.2 q) 27 16 = hid.toNat
        && (s.fld (Reg.REL_CTX e.1 e.2) 31 31 = 1 || s.act (Reg.REL_Q_BASE e.1 e.2 q) != 0) then some (e.1, e.2, q) else none))

/-- Pace of an own setting in MHz (R149). -/
def paceOf (mhz : Nat) : Nat := (2 * 512 * mhz + 1400) / 2800

/-- The smallest 25 MHz step at or above (pace + headroom) × 1.40 GHz / 512, clamped; a follower never boosts (R370). -/
def followMhz (pace headroom own : Nat) : Nat :=
  max 600 (min (((pace + headroom) * 1400 + 12799) / 12800 * 25) (min own 1400))

/-- A release at a die whose port mask is not zero may show a laggard (R368): REL_LAGGARD at most once per LAG_MS (R369),
and a follow request (R370). -/
def State.laggard (s : State) (hid : Hid) : State :=
  let h := s.hurdle hid
  let n := homeDie hid
  let x := h.owner
  let p := (s.ctx x).part
  let own := match (s.partCores p).head? with | some c => (s.core c).own | none => 0
  let mn := h.lastMin.toNat
  if h.ports = 0 || mn = 0 || h.lastPkg = s.pkg || paceOf own < mn + s.fld (Reg.REL_PACE_CFG n) 31 24 then s else
  let due := match (s.ctx x).lagAt.find? (fun e => e.1 = h.lastPkg) with
    | some e => decide (s.fld (Reg.REL_PACE_CFG n) 7 0 * 1000000 ≤ (s.ptb - e.2).toNat)
    | none => true
  let s := if due then
      (s.raiseRec .relLaggard false ⟨some x, some h.lastCore.toFin, none⟩ 0
        [.small 16 h.lastPkg.toNat, .small 10 mn, .small 10 (paceOf own)]).modCtx x (fun k => { k with
          lagAt := (h.lastPkg, s.ptb) :: k.lagAt.filter (fun e => e.1 != h.lastPkg) })
    else s
  if s.fld Reg.PSC_POLICY 31 31 = 0 then s else
  let s := s.modCtx x (fun k => { k with follow := some (followMhz mn (s.fld (Reg.REL_PACE_CFG n) 23 16) own), followAt := s.ptb })
  s.setAct (Reg.REL_FOLLOW n x) (BitVec.ofNat 32 (2 ^ 31 + mn * 2 ^ 16 + h.lastPkg.toNat))

/-- What follows a release of a hurdle. -/
def State.onRelease (s : State) (hid : Hid) : State :=
  (({ s with kicks := s.kicks ++ s.kicksOf hid } : State)).laggard hid

/-- A change of a hurdle, and what follows when it releases. -/
def State.thenRelease (s : State) (hid : Hid) (t : State) : State :=
  if (t.hurdle hid).releases = (s.hurdle hid).releases + 1 then t.onRelease hid else t

/-! ## The H class -/

/-- HARM (R193): the request leaves for the home unit, and issue holds until its answer. -/
def execHarm (c : CoreId) (q : SeqId) (w : HF) (s : State) : Out :=
  s.issueH c q w (w.remote || w.df || w.sb != 0) (fun s _ =>
    let cfg := (s.seq c q).rs w.sa
    if bitsOf cfg.toNat 63 48 != 0 || bitsOf cfg.toNat 31 20 != 0 || bitsOf cfg.toNat 19 18 = 3 then .fault .xIllegal []
    else .wait ((s.bump (Reg.SEQ_ISSUED c q) 1).modSeq c q (fun z => { z with harm := some ⟨w.hid, cfg⟩ })))

/-- The home unit checks a HARM and arms the hurdle, and the answer returns (R144, R193). -/
def execHarmAtHome (c : CoreId) (q : SeqId) (s : State) : Out :=
  match (s.seq c q).harm, (s.core c).ctx with
  | some r, some x =>
    let h := s.hurdle r.hid
    let o := s.origin c q x
    let s := s.modSeq c q (fun z => { z with harm := none })
    if h.owner != x then .next (s.seqFault o .xHurdleOwner [.small 12 r.hid.toNat])
    else if h.state = .idle || (h.state = .armed && h.count = 0) then
      let t := (s.setHurdle r.hid (arm h x r.cfg)).modSeq c q (fun z => { z with pc := z.pc + 8 })
      .next (s.thenRelease r.hid (if (r.cfg.setWidth 16 : BitVec 16) = 0 then t.wake r.hid else t))
    else .next (s.seqFault o .xHurdleState [.small 12 r.hid.toNat])
  | _, _ => .next s

/-- HARRIVE (R194): one arrival, here or at another package (R150); speculatively only at a hurdle bound to the window
(R161). -/
def execHarrive (c : CoreId) (q : SeqId) (w : HF) (s : State) : Out :=
  s.issueH c q w (w.df || (!w.remote && w.sa != 0)) (fun s x =>
    let b := (s.seq c q).rs w.sb
    let bat := s.coreBaton c (seqUnit q) (bitsOf b.toNat 15 0) (bitsOf b.toNat 31 16)
    let dst : BitVec 16 := ((s.seq c q).rs w.sa).setWidth 16
    let remote := w.remote && dst != s.pkg
    let win := s.issueWin c q
    if !remote && (s.hurdle w.hid).owner != x then .fault .xHurdleOwner [.small 12 w.hid.toNat]
    else match win with
      | some v =>
        if remote || !boundTo (s.hurdle w.hid) v then .wait (s.specHeld c v)
        else .retire (s.sendArrival c ⟨w.hid, bat, .ctx x win (.feed c)⟩)
      | none =>
        if remote then
          let r := s.sendMsg vcHctl ⟨dst, s.pkg, 0, 0, .arrive w.hid bat⟩ (some x)
          .retire (if r.2 then r.1 else r.1.affected x)
        else .retire (s.sendArrival c ⟨w.hid, bat, .ctx x none (.feed c)⟩))

/-- HWAIT (R151, R195): a satisfied wait retires; otherwise the sequencer waits, at a cheap point (R153), and a poisoned
hurdle holds the context (R158). SB is ignored: R195 asks for REMOTE zero alone. -/
def execHwait (c : CoreId) (q : SeqId) (w : HF) (s : State) : Out :=
  match s.issueH c q w w.remote (fun s x =>
    let h := s.hurdle w.hid
    let n : W32 := ((s.seq c q).rs w.sa).setWidth 32
    if h.owner != x then .fault .xHurdleOwner [.small 12 w.hid.toNat]
    else if satisfied h n then .retire s
    else
      let s := (s.bump (Reg.SEQ_ISSUED c q) 1).modSeq c q (fun z =>
        { z with wait := some (w.hid, n), waitDf := w.df, restAt := s.ptb,
                 state := if z.state = .stopping then (if z.stopHold then .held else .stopped) else .wait })
      .wait (if h.state = .poisoned then s.requestHold x .poisoned else s)) with
  | .next t => .next (if s.canIssue c q then settleOut t c else t)
  | o => o

/-- HREAD (R196): RELEASES of a hurdle, zero-extended, to s[SA]. -/
def execHread (c : CoreId) (q : SeqId) (w : HF) (s : State) : Out :=
  s.issueH c q w (w.remote || w.df || w.sb != 0) (fun s _ =>
    retireSeq s c q (fun z => z.ws w.sa ((s.hurdle w.hid).releases.setWidth 64)))

/-! ## The hurdle units -/

/-- The first k arrivals of a list that reach a hurdle, and the rest. Arrivals of one sender at one home die come in the
order sent (R17): one behind an arrival that has not come, at whatever hurdle of the die, waits; `late` are those
senders. -/
def splitArrivals (hid : Hid) : Nat → List Nat → List Arrival → List Arrival × List Arrival
  | _, _, [] => ([], [])
  | k, late, a :: t =>
    if a.hid = hid && 0 < k && !late.contains a.src.sender then
      let r := splitArrivals hid (k - 1) late t
      (a :: r.1, r.2)
    else
      let r := splitArrivals hid k (if homeDie a.hid = homeDie hid then a.src.sender :: late else late) t
      (r.1, a :: r.2)

/-- A hurdle unit counts, in one cycle, the first k arrivals that reach a hurdle (R17, R145, R146). -/
def execHurdleArrival (hid : Hid) (k : Nat) (s : State) : Out :=
  let r := splitArrivals hid k [] s.arrivals
  let s := { s with arrivals := r.2 }
  .next (s.thenRelease hid (s.register hid r.1))

/-- The update of R145 in a cycle without an arrival: a hurdle whose EXPECT a write has brought down to COUNT or below
releases. -/
def State.recount (s : State) (hid : Hid) : State :=
  let h := s.hurdle hid
  if h.state != .armed || h.count.toNat < h.expect.toNat then s else
  let r := countArrivals h 0
  let t := s.setHurdle hid r.1
  let t := if r.2.2 then t.ctxEvent .xHurdleOverrun r.1.owner [.small 12 hid.toNat] else t
  s.thenRelease hid (t.wake hid)

/-- A write of HRD_CTL (R147, R151): IDLE and POISONED take effect; ARMED and 3 leave the state. The pace record of the round
in progress stays (DESIGN CHOICE, notes/assumptions/76). -/
def State.writeHrdCtl (s : State) (hid : Hid) (v : W32) : State :=
  let h := s.hurdle hid
  let h := { h with
    auto := v.getLsbD 29, window := (v >>> 27).setWidth 2, owner := BitVec.toFin ((v >>> 21).setWidth 6), expect := v.setWidth 16 }
  match fieldOf v 31 30 with
  | 0 => s.setHurdle hid { h with state := .idle, strayRaised := h.strayRaised && h.state != .armed }
  | 2 => (s.setHurdle hid h).poison hid
  | _ => (s.setHurdle hid h).recount hid

def execHrdCtlWrite (hid : Hid) (v : W32) (s : State) : Out := .next (s.pfWrite 0 (Reg.HRD_CTL (hid.toNat / 512) (hid.toNat % 512)) v (·.writeHrdCtl hid v))

end Sys2Proof.Machine
end

