-- ==== Sys2Proof/Machine/LinkLayer.lean ====
section
/-! DEFINITION. The link layer of a port (R316 to R337): what a flit slot sends, what receiving a flit does, training, spare
lanes and widths, loss conditions, and the time base that the links synchronise (R33 to R36, R335, R336). -/

namespace Sys2Proof.Machine
open Sys2Proof

/-! ## States of a port -/

def stOff : Nat := 0
def stTraining : Nat := 1
def stFenced : Nat := 2
def stUp : Nat := 3
def stShed : Nat := 4
def stLost : Nat := 5
def stMismatch : Nat := 6
def stDisabled : Nat := 7

/-- A port whose link layer exchanges flits. -/
def State.linked (s : State) (p : PortId) : Bool := s.portState p = stFenced || s.portState p = stUp
/-- A port through which the time base may be synchronised (R335). -/
def State.timed (s : State) (p : PortId) : Bool := s.linked p || s.portState p = stShed

/-- The start sequence runs (R333, R495): a stage is running and no start record is published. -/
def State.inStart (s : State) : Bool := s.fld Reg.GLB_STATUS 3 0 != 0 && s.fld Reg.GLB_STATUS 25 25 = 0
/-- The cores of this start have been released (R34, R495). -/
def State.released (s : State) : Bool := s.fld Reg.GLB_STATUS 3 0 = 8

/-- Receive buffers, by virtual channel (R324): the credits a link layer starts with. -/
def vcBuffer : Vector Nat 4 := #v[1536, 1536, 256, 768]

/-- A link layer that starts: at the training of its port. -/
def Port.fresh (x : Port) : Port :=
  { Port.reset with credit := vcBuffer, laserLow := x.laserLow }

/-- A port begins to train (R333, R334). -/
def State.startTraining (s : State) (p : PortId) : State :=
  ((s.modPort p (fun x => { x.fresh with trainAt := s.ptb })).setFld (Reg.LNK_CTL p) 29 29 0).setPortState p stTraining

/-- A loss condition of an UP or FENCED port (R337): its marking is due. -/
def State.setLoss (s : State) (p : PortId) (cause : Nat) : State :=
  if s.linked p && (s.port p).loss.isNone then s.modPort p (fun x => { x with loss := some cause }) else s

/-! ## Sending (R326, R327, R330) -/

/-- Messages that end in a flit with so much room, the messages left, and the bytes sent of the first one left. -/
def packFlit : List Msg → Nat → Nat → List Msg × List Msg × Nat
  | [], _, _ => ([], [], 0)
  | m :: t, off, room =>
    if msgLen m - off ≤ room then
      let r := packFlit t 0 (room - (msgLen m - off))
      (m :: r.1, r.2.1, r.2.2)
    else ([], m :: t, off + room)

/-- Bytes of a channel's stream of messages (R325), from an offset. -/
def streamBytes (ms : List Msg) (off n : Nat) : List Byte := ((ms.flatMap msgBytes).drop off).take n

/-- The header of the flit that a port sends now: it acknowledges, and returns the credits that are owed. -/
def Port.head (x : Port) (seq : BitVec 12) : FlitHead :=
  ⟨true, 0, 0, seq, x.rx, x.nakDue, x.owed.map (fun n => BitVec.ofNat 8 (min n 255))⟩

/-- A flit leaves in this slot. -/
def Port.put (x : Port) (seq : BitVec 12) (hctl : Bool) (k : TxKind) : Port :=
  { x with
    lastTx := some (x.head seq, k)
    owed := x.owed.map (fun n => n - 255)
    nakDue := false
    hctlAgo := if hctl then 0 else min 8 (x.hctlAgo + 1) }

/-- The dimension of an UP port has something to send on a channel, and the port's turn of its trunk has come (R330). -/
def State.vcWaits (s : State) (p : PortId) (vc : Fin 4) : Bool :=
  s.portState p = stUp &&
  match s.portDim p with
  | none => false
  | some d => !(vget (s.dim d).out vc).isEmpty && ((s.upPorts d).length ≤ 1 || vget (s.dim d).turn vc != some p)

/-- A channel that may take the slot: something to send, a credit, and room in the retry buffer (R326, R327). -/
def State.vcEligible (s : State) (p : PortId) (vc : Fin 4) : Bool :=
  s.vcWaits p vc && 0 < vget (s.port p).credit vc && (s.port p).retry.length < 2048

/-- The next DATA flit of a channel of a port's dimension leaves. -/
def State.sendData (s : State) (p : PortId) (vc : Fin 4) : State :=
  match s.portDim p with
  | none => s
  | some d =>
    let q := s.dim d
    let x := s.port p
    let r := packFlit (vget q.out vc) (vget q.off vc) 480
    let tseq := vget q.txT vc
    let q' := { q with out := vset q.out vc r.2.1, off := vset q.off vc r.2.2, turn := vset q.turn vc (some p), txT := vset q.txT vc (tseq + 1) }
    let f : TxFlit := ⟨x.seq, vc, tseq, r.1, streamBytes (vget q.out vc) (vget q.off vc) 480, none, true, 0⟩
    let x := { x with retry := x.retry ++ [f], seq := x.seq + 1, credit := vmod x.credit vc (· - 1) }
    (s.modDim d (fun _ => q')).modPort p (fun _ => x.put f.seq (vc = vcHctl) (.data vc tseq r.1 f.payload))

/-- Both ends of a FENCED port have sent OPEN: it is UP (R333). -/
def State.settleOpen (s : State) (p : PortId) : State :=
  if s.portState p = stFenced && (s.port p).openSent && (s.port p).openRecv then s.setPortState p stUp else s

/-- The next CTRL command of a port leaves; it takes a credit of HCTL. OPEN is sent as its flit leaves (R333). -/
def State.sendCtrl (s : State) (p : PortId) (c : Ctrl) (rest : List Ctrl) : State :=
  (s.modPort p (fun x =>
    let f : TxFlit := ⟨x.seq, vcHctl, 0, [], [], some c, true, 0⟩
    let x := { x with ctrl := rest, retry := x.retry ++ [f], seq := x.seq + 1, credit := vmod x.credit vcHctl (· - 1), openSent := x.openSent || decide (c = Ctrl.opened) }
    x.put f.seq true (.ctrl c))).settleOpen p

/-- A flit of the retry buffer leaves again, or for the first time on this port (R327, R330). -/
def State.replay (s : State) (p : PortId) (f : TxFlit) : State :=
  let s := if f.replays = 0 then s.modPort p (fun x => { x with credit := vmod x.credit f.vc (· - 1) }) else s.bump (Reg.LNK_REPLAYS p) 1
  s.modPort p (fun x =>
    let x := { x with retry := x.retry.map (fun (g : TxFlit) => if g.seq = f.seq then { g with sent := true } else g) }
    x.put f.seq (f.vc = vcHctl) (match f.ctrl with | some c => .ctrl c | none => .data f.vc f.tseq f.msgs f.payload))

/-- Weight of a channel in the round robin (LNK_CFG). -/
def State.vcWeight (s : State) (i : Fin 3) : Nat :=
  match i with | 0 => s.fld Reg.LNK_CFG 3 0 | 1 => s.fld Reg.LNK_CFG 7 4 | 2 => s.fld Reg.LNK_CFG 11 8

/-- The channel of a round-robin index: COLL, DISP, SPLIT. -/
def rrVc : Fin 3 → Fin 4 | 0 => vcColl | 1 => vcDisp | 2 => vcSplit

/-- The channel that weighted round robin serves next (R326), with what the round still allows: a round ends when no
channel with an allowance is eligible; a channel of weight zero is served only when the others are idle. -/
def State.pickVc (s : State) (p : PortId) : Option (Fin 3 × Vector Nat 3) :=
  let ok (i : Fin 3) : Bool := s.vcEligible p (rrVc i)
  let rr := (s.port p).rr
  let full : Vector Nat 3 := #v[s.vcWeight 0, s.vcWeight 1, s.vcWeight 2]
  let take (v : Vector Nat 3) : Option (Fin 3 × Vector Nat 3) :=
    (([0, 1, 2] : List (Fin 3)).find? (fun i => ok i && 0 < vget v i)).map (fun i => (i, vmod v i (· - 1)))
  match take rr with
  | some r => some r
  | none => match take full with
    | some r => some r
    | none => (([0, 1, 2] : List (Fin 3)).find? ok).map (fun i => (i, rr))

/-- What a port that carries flits sends when nothing unsequenced and no replay is due (R326). -/
def State.sendNext (s : State) (p : PortId) : State :=
  let x := s.port p
  let rr := s.pickVc p
  let room := 0 < vget x.credit vcHctl && x.retry.length < 2048
  let mayHctl := 8 ≤ x.hctlAgo || rr.isNone
  match x.ctrl with
  | c :: t =>
    if room && mayHctl then s.sendCtrl p c t
    else match rr with
      | some (i, v) => (s.sendData p (rrVc i)).modPort p (fun x => { x with rr := v })
      | none => s.modPort p (·.put 0 false (.idle false))
  | [] =>
    if s.vcEligible p vcHctl && mayHctl then s.sendData p vcHctl
    else match rr with
      | some (i, v) => (s.sendData p (rrVc i)).modPort p (fun x => { x with rr := v })
      | none => s.modPort p (·.put 0 false (.idle false))

/-- The identity this package gives in an IDENT flit of a port (R333). -/
def State.identOf (s : State) (p : PortId) : Ident :=
  ⟨s.pkg, BitVec.ofNat 4 (match s.portDim p with | some d => d.val | none => 0), s.act Reg.LNK_SYSTEM,
   BitVec.ofNat 8 (s.fld Reg.GLB_ID 7 0), s.inStart⟩

/-- The shutters of a port's transmit fibres are open (R317): in every state but OFF and DISABLED, unless the part is in Deep sleep or
Off. Those of a port whose link layer a reset has stopped stay open, since it goes on sending IDLE (R337; notes/assumptions/81). -/
def State.shutterOpen (s : State) (p : PortId) : Bool :=
  s.psc.state != .deep && s.psc.state != .off && ((s.portState p != stOff && s.portState p != stDisabled) || (s.port p).halted)

/-- An instant in units of 0.125 ns (R336): the PTB, with a fraction of its nanosecond that is free (notes/assumptions/82). -/
def State.instant (s : State) : W64 × State :=
  let f := s.fresh
  (s.ptb * 8 + (f.1 &&& 7), f.2)

/-- A TSYNC flit takes its timestamp where it leaves (R336): a request t1, an answer t3. -/
def State.stamp (s : State) : TxKind → TxKind × State
  | .tsync (.request _) => let n := s.instant; (.tsync (.request n.1), n.2)
  | .tsync (.answer t1 t2 _ t4 st) => let n := s.instant; (.tsync (.answer t1 t2 n.1 t4 st), n.2)
  | k => (k, s)

/-- One flit slot of a port. A port with closed shutters sends only the NOTICE flits queued before they closed (R317, R337). -/
def execFlitSlot (p : PortId) (s : State) : Out :=
  let x := s.port p
  let none_ : State := s.modPort p (fun x => { x with lastTx := none })
  match x.unseq with
  | k :: t =>
    let n := s.stamp k
    .next (n.2.modPort p (fun x => { x with unseq := t }.put 0 false n.1))
  | [] =>
    if !s.shutterOpen p then .next none_
    else if s.portState p = stTraining then .next (s.modPort p (·.put 0 false (.ident (s.identOf p))))
    else if x.halted then .next (s.modPort p (·.put 0 false (.idle true)))
    else if !s.linked p then .next none_
    else
      match x.retry.find? (fun f => !f.sent) with
      | some f =>
        if 0 < f.replays || 0 < vget x.credit f.vc then .next (s.replay p f) else .next (s.modPort p (·.put 0 false (.idle false)))
      | none => .next (s.sendNext p)

/-- The 512 bytes that left a port in its last flit slot (R322). -/
def State.wire (s : State) (p : PortId) : Option (List Byte) := (s.port p).lastTx.map (fun t => flitBytes t.1 t.2)

/-! ## Receiving a flit (R322, R327) -/

/-- What the code counted (R319). -/
def State.noteFec (s : State) (p : PortId) (h : FlitHead) : State :=
  (s.bump (Reg.LNK_FEC_CORR p) h.corrected).bump (Reg.LNK_FEC_UNCORR p) h.lost

/-- The acknowledgement of a header: flits up to it leave the retry buffer. -/
def Port.acked (x : Port) (ack : BitVec 12) : Port :=
  if x.retry.any (fun f => f.seq = ack) then
    { x with retry := (x.retry.dropWhile (fun f => f.seq != ack)).drop 1 }
  else x

/-- What every good header does: acknowledges, returns credits, and on a NAK has the rest of the retry buffer replayed; a
flit already replayed 8 times is a loss condition. -/
def State.recvHead (s : State) (p : PortId) (h : FlitHead) : State :=
  let s := s.modPort p (fun x =>
    let x := x.acked h.ack
    { x with credit := (x.credit.zip h.credit).map (fun c => c.1 + c.2.toNat) })
  if h.nak then
    let worn := (s.port p).retry.any (fun f => f.sent && 8 ≤ f.replays)
    let s := s.modPort p (fun x => { x with retry := x.retry.map (fun f => if f.sent then { f with sent := false, replays := f.replays + 1 } else f) })
    if worn then s.setLoss p 8 else s
  else s

/-- A flit that must be discarded: one NAK is sent. -/
def State.discardFlit (s : State) (p : PortId) : State :=
  s.modPort p (fun x => { x with nakDue := true })

/-- Receipt of an unsequenced flit on a port that carries flits: the state after its header, none when it is discarded. -/
def State.recvPlain (s : State) (p : PortId) (h : FlitHead) : State × Bool :=
  if !s.timed p then (s, false) else
  let s := s.noteFec p h
  if !goodFlit h then (s.discardFlit p, false) else ((s.recvHead p h).modPort p (fun x => { x with down := 0 }), true)

/-- Receipt of a sequenced flit: its header, and whether it arrives in order. -/
def State.recvSeq (s : State) (p : PortId) (h : FlitHead) (vc : Fin 4) : State × Bool :=
  if !s.linked p then (s, false) else
  let s := (s.noteFec p h).modPort p (fun x => { x with down := 0 })
  if !goodFlit h then (s.discardFlit p, false)
  else
    let s := s.recvHead p h
    if h.seq = (s.port p).rx + 1 then
      (s.modPort p (fun x => { x with rx := h.seq, owed := vmod x.owed vc (· + 1) }), true)
    else (s.discardFlit p, false)

def execIdleFlit (p : PortId) (h : FlitHead) (down : Bool) (s : State) : Out :=
  let n := (s.port p).down
  let r := s.recvPlain p h
  .next (if r.2 && down then r.1.modPort p (fun x => { x with down := min 256 (n + 1) }) else r.1)

/-! ## Messages of a DATA flit (R325, R329, R330, R339) -/

/-- A message that asks for a reply. -/
def asks : MsgBody → Bool
  | .rdReq _ | .wr _ _ => true
  | .relay _ _ _ (.data _ _) | .relay _ _ _ (.rows _ _) => true
  | .split _ (.data _) | .split _ .seal | .split _ .readReq => true
  | _ => false

/-- A message for another package goes straight on (R329); a request is noted until its reply passes, and one that cannot be
delivered is answered with PEER_LOST (R339). -/
def State.forward (s : State) (vc : Fin 4) (m : Msg) : State :=
  let s : State := if answers m.body then { s with transit := s.transit.filter (fun t => !(t.org = m.dst && t.dst = m.org && t.tag = m.tag)) } else s
  let r := s.sendMsg vc m none
  if r.2 then
    match asks m.body, s.route m.dst with
    | true, .ok d => { r.1 with transit := ⟨m.org, m.dst, m.tag, d.val⟩ :: r.1.transit }
    | _, _ => r.1
  else if asks m.body then (r.1.sendMsg vcHctl ⟨m.org, m.dst, m.tag, 0, .peerLost⟩ none).1
  else r.1

/-- A message has arrived whole on a port. -/
def State.arrived (s : State) (p : PortId) (vc : Fin 4) (m : Msg) : State :=
  match m.body with
  | .reserved _ _ => s.bump (Reg.LNK_BAD_MSG p) 1
  | _ => if m.dst = s.pkg then s.deliver (some p) vc m else s.forward vc m

/-- Flits that waited for their TSEQ follow in order. -/
def State.drainHold (s : State) (d : PortId) (vc : Fin 4) : Nat → State
  | 0 => s
  | fuel + 1 =>
    let t := vget (s.dim d).rxT vc
    match (s.dim d).hold.find? (fun h => h.1 = vc && h.2.1 = t) with
    | none => s
    | some h =>
      let s := s.modDim d (fun q => { q with rxT := vmod q.rxT vc (· + 1), hold := q.hold.filter (fun g => !(g.1 = vc && g.2.1 = t)) })
      (h.2.2.2.foldl (fun s m => s.arrived h.2.2.1 vc m) s).drainHold d vc fuel

/-- A flit whose TSEQ was delivered before: one that a lost member of a trunk had carried and its companion sends again. -/
def State.tseqPast (s : State) (d : PortId) (vc : Fin 4) (tseq : BitVec 16) : Bool :=
  let n := (vget (s.dim d).rxT vc - tseq).toNat
  1 ≤ n && n ≤ 32768

/-- Receipt of a DATA flit; its messages are those whose last byte it carries. A FENCED port carries none (R333). -/
def execDataFlit (p : PortId) (h : FlitHead) (vc : Fin 4) (tseq : BitVec 16) (msgs : List Msg) (s : State) : Out :=
  if s.portState p != stUp then .next s else
  let r := s.recvSeq p h vc
  if !r.2 then .next r.1 else
  match r.1.portDim p with
  | none => .next r.1
  | some d =>
    if r.1.tseqPast d vc tseq then .next r.1 else
    let s := r.1.modDim d (fun q => { q with hold := q.hold ++ [(vc, tseq, p, msgs)] })
    .next (s.drainHold d vc (s.dim d).hold.length)

/-! ## CTRL flits, spare lanes and widths (R320, R321, R333) -/

/-- A wavelength moves onto the spare lane of its fibre: transmit or receive. -/
def State.spareBit (s : State) (p : PortId) (f : Fin 8) (tx : Bool) : State :=
  let b := if tx then 8 + f.val else f.val
  s.setFld (Reg.LNK_STATUS p) b b 1

/-- The spare lane of a fibre is in use; and the width of a direction (LNK_STATUS). -/
def State.spareUsed (s : State) (p : PortId) (f : Fin 8) (tx : Bool) : Bool :=
  let b := if tx then 8 + f.val else f.val
  s.fld (Reg.LNK_STATUS p) b b = 1
def State.width (s : State) (p : PortId) (tx : Bool) : Nat := if tx then s.fld (Reg.LNK_STATUS p) 27 24 else s.fld (Reg.LNK_STATUS p) 23 20
def State.setWidth (s : State) (p : PortId) (tx : Bool) (w : Nat) : State :=
  if tx then s.setFld (Reg.LNK_STATUS p) 27 24 w else s.setFld (Reg.LNK_STATUS p) 23 20 w

/-- The far end announces a swap of one of its lanes: the direction is this end's other one. A spare lane is taken in service. -/
def execCtrlLaneSwap (p : PortId) (h : FlitHead) (fibre _lambda : Fin 8) (tx : Bool) (s : State) : Out :=
  let r := s.recvSeq p h vcHctl
  .next (if !r.2 then r.1 else if r.1.spareUsed p fibre (!tx) then r.1 else (r.1.spareBit p fibre (!tx)).event .lnkLaneSpared [])

/-- The far end announces the width of a direction: this end's other one. One that loses a wavelength is reported, and one below 4
is a loss condition (R321). -/
def execCtrlWidthChange (p : PortId) (h : FlitHead) (w : Fin 9) (tx : Bool) (s : State) : Out :=
  let r := s.recvSeq p h vcHctl
  if !r.2 then .next r.1 else
  let s := r.1
  if w.val < 4 then .next (s.setLoss p 9)
  else
    let less := decide (w.val < s.width p (!tx))
    let s := s.setWidth p (!tx) w
    .next (if less then s.event .lnkWidthReduced [] else s)

def execOpenRx (p : PortId) (h : FlitHead) (s : State) : Out :=
  let r := s.recvSeq p h vcHctl
  .next (if r.2 then (r.1.modPort p (fun x => { x with openRecv := true })).settleOpen p else r.1)

/-- A direction retrains at W − 1, as CTRL flits agree; below 4 the port meets the loss condition WIDTH (R321). -/
def State.narrow (s : State) (p : PortId) (tx : Bool) : State :=
  let w := s.width p tx
  if w ≤ 4 then s.setLoss p 9
  else
    let s := s.setWidth p tx (w - 1)
    (s.modPort p (fun x => { x with ctrl := x.ctrl ++ [.width (Fin.ofNat 9 (w - 1)) tx] })).event .lnkWidthReduced []

/-- A direction drops a wavelength, once (R321). -/
def State.dropWave (s : State) (p : PortId) (tx : Bool) (k : Fin 8) : State :=
  let x := s.port p
  if (if tx then x.txOut else x.rxOut).getLsbD k then s else
  let b : BitVec 8 := BitVec.ofNat 8 (2 ^ k.val)
  (s.modPort p (fun x => if tx then { x with txOut := x.txOut ||| b } else { x with rxOut := x.rxOut ||| b })).narrow p tx

/-- A lane in service fails: its wavelength moves to the fibre's spare lane, agreed by CTRL flits (R320); where that lane is in use,
the direction drops the wavelength (R321). -/
def execLaneSpare (p : PortId) (tx : Bool) (fibre lambda : Fin 8) (s : State) : Out :=
  if !s.timed p then .next s
  else if s.spareUsed p fibre tx then .next (s.dropWave p tx lambda)
  else .next (((s.spareBit p fibre tx).modPort p (fun x => { x with ctrl := x.ctrl ++ [.laneSwap fibre lambda tx] })).event .lnkLaneSpared [])

/-- A direction drops a wavelength and retrains at W − 1 (R321). -/
def execWidthReduce (p : PortId) (tx : Bool) (s : State) : Out :=
  if !s.timed p then .next s else .next (s.narrow p tx)

/-- A wavelength of the laser input is unusable: measured, and below +12.0 dBm (R316). -/
def unusableLaser (dbm : BitVec 16) : Bool := dbm != 0x8000 && decide (dbm.toInt < 1200)

/-- The input power of a wavelength is measured, in 0.01 dBm, every 10 µs (R316): one sample below +12.0 dBm drops the wavelength from
the transmit direction (R321). -/
def execLaserSample (p : PortId) (k : Fin 8) (dbm : BitVec 16) (s : State) : Out :=
  let s := s.setAct (Reg.LNK_LASER p k) (dbm.setWidth 32)
  let n := if dbm.toInt < 1400 then min 100 (vget (s.port p).laserLow k + 1) else 0
  let first := n = 100 && vget (s.port p).laserLow k != 100
  let s := s.modPort p (fun x => { x with laserLow := vset x.laserLow k n })
  let s := if first then s.event .lnkLaserLow [] else s
  .next (if unusableLaser dbm && s.timed p then s.dropWave p true k else s)

/-! ## Loss conditions (R337) -/

def execNoticeFlit (p : PortId) (h : FlitHead) (cause : Nat) (s : State) : Out :=
  let r := s.recvPlain p h
  .next (if r.2 && 1 ≤ cause && cause ≤ 4 then r.1.setLoss p cause else r.1)

def execLossOfLight (p : PortId) (s : State) : Out := .next (s.setLoss p 5)
def execPeerDownCount (p : PortId) (s : State) : Out := .next (if (s.port p).down = 256 then s.setLoss p 6 else s)
def execCodewordLockLoss (p : PortId) (s : State) : Out := .next (s.setLoss p 7)

/-! ## Training (R333, R334) -/

/-- The identity checks of a training port. -/
def execIdentFlit (p : PortId) (h : FlitHead) (i : Ident) (s : State) : Out :=
  if s.portState p != stTraining || !goodFlit h then .next s else
  match s.portDim p with
  | none => .next s
  | some d =>
    let s := s.setAct (Reg.LNK_PEER p) (withField (withField 0 31 16 i.pkg.toNat) 15 12 i.dim.toNat)
    if i.pkg = s.pkg ^^^ BitVec.ofNat 16 (2 ^ d.val) && i.system = s.act Reg.LNK_SYSTEM then
      .next (s.modPort p (fun x => { x with identOk := true, peerStarting := i.starting }))
    else .next ((s.setPortState p stMismatch).event .lnkMismatch [])

/-- Wavelengths of a port whose laser input is unusable (R316). -/
def State.darkWaves (s : State) (p : PortId) : List (Fin 8) :=
  ([0, 1, 2, 3, 4, 5, 6, 7] : List (Fin 8)).filter (fun k => unusableLaser ((s.act (Reg.LNK_LASER p k)).setWidth 16))

/-- A port completes training, with the widths and spare lanes that its SPARE phase set (R320, R321): no wavelength with an unusable
laser input transmits, and in a start the spare lanes that the gauntlet took stay in use. UP while both ends are in their start
sequences, else FENCED. A dimension with no other UP port starts its trunk numbering anew. -/
def execPortTrained (p : PortId) (wtx wrx : Fin 9) (stx srx : BitVec 8) (s : State) : Out :=
  let x := s.port p
  let dark := s.darkWaves p
  if s.portState p != stTraining || !x.identOk || wtx.val < 4 || wrx.val < 4 || 8 - dark.length < wtx.val then .next s else
  let gnt (hi lo : Nat) : Nat := if s.inStart then s.fld (Reg.LNK_STATUS p) hi lo else 0
  let s := s.modPort p (fun x => { x with txOut := BitVec.ofNat 8 (dark.map (fun k => 2 ^ k.val)).sum, rxOut := 0 })
  let s := match s.portDim p with
    | some d => if (s.upPorts d).isEmpty then s.modDim d (fun q => { Dim.reset with out := q.out }) else s
    | none => s
  let v := withField (withField (withField (withField (s.act (Reg.LNK_STATUS p)) 27 24 wtx.val) 23 20 wrx.val) 15 8 (stx.toNat ||| gnt 15 8)) 7 0 (srx.toNat ||| gnt 7 0)
  let s := (s.setAct (Reg.LNK_STATUS p) v).setPortState p (if s.inStart && x.peerStarting then stUp else stFenced)
  .next (s.event .lnkPortUp [])

/-- A port has trained for TRAIN_MS (R334). -/
def State.trainedFor (s : State) (p : PortId) (t : W64) : Bool :=
  decide ((s.port p).trainAt.toNat + s.fld Reg.LNK_CFG 31 20 * 1000000 ≤ t.toNat)

def execTrainTimeout (p : PortId) (t : W64) (s : State) : Out :=
  if s.portState p != stTraining || (s.port p).trainFail || !s.trainedFor p t then .next s
  else .next (((s.atTime t).modPort p (fun x => { x with trainFail := true })).event .lnkTrainFail [])

/-- Training that has timed out begins again, every second. -/
def execTrainRetry (p : PortId) (t : W64) (s : State) : Out :=
  if s.portState p != stTraining || !(s.port p).trainFail || t.toNat < (s.port p).trainAt.toNat + 1000000000 then .next s
  else .next (((s.atTime t).startTraining p).modPort p (fun x => { x with trainFail := true }))

/-- The package is the root of the cube (R335). -/
def State.isRoot (s : State) : Bool := allPorts.all (fun d => !s.inCube d || !s.pkg.getLsbD d)

/-- The port a package synchronises through (R335): of the lowest dimension whose bit its ID has set. -/
def State.syncPort (s : State) : Option PortId :=
  (allPorts.filter (fun (d : PortId) => s.pkg.getLsbD d.val)).findSome? (fun (d : PortId) => (s.dimPorts d).find? s.timed)

/-- The package synchronises through the port of R335: PTB_STATUS names it, and a change of port begins a new run of small
offsets; a package without a candidate is in HOLDOVER (R35), but for one that awaits its links after an exit from Deep sleep, which
is ACQUIRING until they have synchronised it (R36). -/
def State.pickSource (s : State) : State :=
  match s.syncPort with
  | none => ({ s with syncGood := 0 } : State).setFld Reg.PTB_STATUS 1 0 (if s.psc.resync then 1 else 3)
  | some p =>
    let s := if s.fld Reg.PTB_STATUS 15 12 = p.val then s else { s with syncGood := 0 }
    let s := s.setFld Reg.PTB_STATUS 15 12 p
    if s.fld Reg.PTB_STATUS 1 0 = 0 || s.fld Reg.PTB_STATUS 1 0 = 3 then s.setFld Reg.PTB_STATUS 1 0 1 else s

/-- A port has left the states that carry the time base: the next candidate takes over at once (R335). A package that has not
begun to synchronise, and the root, go on as they were. -/
def State.sourceLeft (s : State) : State :=
  if s.isRoot || s.fld Reg.PTB_STATUS 1 0 = 0 then s else s.pickSource

def execLightRegained (p : PortId) (s : State) : Out :=
  let st := s.portState p
  if st = stShed || (st = stLost && s.fld (Reg.LNK_CTL p) 28 28 = 1) then .next (s.startTraining p).sourceLeft else .next s

/-- LNK_CTL with AUTO as it stands and nothing else set. -/
def State.ctlAuto (s : State) (p : PortId) : W32 := withField 0 28 28 (s.fld (Reg.LNK_CTL p) 28 28)

/-- The host writes LNK_CTL.RETRAIN. For a port under test it takes effect when the run ends (R523); a port that is not usable does
not train (R521; notes/assumptions/38). -/
def State.retrain (s : State) (p : PortId) : State :=
  let st := s.portState p
  if s.fld Reg.GNT_STATUS 31 30 = 2 && s.fld Reg.GNT_STATUS 27 22 = 24 + p.val then { s with retrainDue := true }
  else if !s.usableUnit (24 + p.val) then s
  else if st = stLost || st = stMismatch || st = stDisabled then s.startTraining p else s
def execLnkRetrain (p : PortId) (s : State) : Out :=
  .next (s.pfWrite 0 (Reg.LNK_CTL p) (withField (s.ctlAuto p) 31 31 1) (·.retrain p))

/-- The host writes LNK_CTL.OPEN: this end of a FENCED port sends OPEN, once. -/
def State.openPort (s : State) (p : PortId) : State :=
  if s.portState p = stFenced && !(s.port p).openSent && !(s.port p).ctrl.contains .opened then
    s.modPort p (fun x => { x with ctrl := x.ctrl ++ [.opened] })
  else s
def execLnkOpen (p : PortId) (s : State) : Out :=
  .next (s.pfWrite 0 (Reg.LNK_CTL p) (withField (s.ctlAuto p) 30 30 1) (·.openPort p))

/-! ## The package time base (R33 to R36, R335, R336) -/

/-- Once every 1 µs: the package looks for the port it synchronises through and sends its parent a request, which takes its
timestamp as it leaves. The root is LOCKED. -/
def execTsyncRequest (t : W64) (s : State) : Out :=
  let s := s.atTime t
  if s.isRoot then .next (s.setFld Reg.PTB_STATUS 1 0 2) else
  let s := s.pickSource
  match s.syncPort with
  | none => .next s
  | some p => .next (s.modPort p (fun x => { x with unseq := x.unseq ++ [.tsync (.request 0)] }))

/-- The offset of a child to its parent, and the round trip, in units of 0.125 ns (R336). -/
def tsyncOffset (t1 t2 t3 t4 : W64) : Int := (((t2.toNat : Int) - t1.toNat) - ((t4.toNat : Int) - t3.toNat)) / 2
def tsyncRtt (t1 t2 t3 t4 : W64) : Int := ((t4.toNat : Int) - t1.toNat) - ((t3.toNat : Int) - t2.toNat)

/-- PTB_STATUS.STATE of a child from its parent's state and its run of small offsets (R336). -/
def syncState (parent good : Nat) : Nat :=
  if parent = 2 then (if good = 8 then 2 else 1) else if parent = 3 then 3 else 1

/-- A child measures its offset: the PTB is stepped before core release; afterwards it is slewed at no more than 200 ppm
(R34), which no instant of this model shows. A time base restored at an exit from Deep sleep is stepped forward where it is behind,
and held where it is ahead, until it is LOCKED (R36). -/
def State.measured (s : State) (p : PortId) (off rtt : Int) (parent : Nat) : State :=
  let s := s.setAct (Reg.LNK_RTT p) (BitVec.ofInt 32 rtt)
  let s := s.setFld Reg.PTB_STATUS 31 16 (min (off.natAbs / 8) 0xFFFF)
  let good := if off.natAbs ≤ 16 then min 8 (s.syncGood + 1) else 0
  let s := { s with syncGood := good }
  let s := if s.psc.resync then s.modPsc (fun p => { p with ahead := decide (off < 0) }) else s
  let s := if s.released && !s.psc.resync then s
    else if s.psc.resync && off ≤ 0 then s
    else { s with ptb := s.ptb + BitVec.ofInt 64 (off / 8) }
  let st := syncState parent good
  (if st = 2 then s.modPsc (fun p => { p with resync := false, ahead := false }) else s).setFld Reg.PTB_STATUS 1 0 st

/-- A TSYNC flit: a child's request is answered; the parent's answer gives the offset and the round trip. -/
def execTsyncFlit (p : PortId) (h : FlitHead) (t : Tsync) (s : State) : Out :=
  let r := s.recvPlain p h
  if !r.2 then .next r.1 else
  let s := r.1
  match t with
  | .request t1 =>
    let n := s.instant
    .next (n.2.modPort p (fun x =>
      { x with unseq := x.unseq ++ [.tsync (.answer t1 n.1 0 0 (BitVec.ofNat 2 (s.fld Reg.PTB_STATUS 1 0)))] }))
  | .answer t1 t2 t3 t4 parent =>
    if s.isRoot || s.syncPort != some p then .next s
    else .next (s.measured p (tsyncOffset t1 t2 t3 t4) (tsyncRtt t1 t2 t3 t4) parent.toNat)

/-- Replicas of the PTB in other domains are reloaded every 1 µs (R33): every reading in this model is of the master copy. -/
def execPtbReplicaReload (t : W64) (s : State) : Out := .next (s.atTime t)

end Sys2Proof.Machine
end

