-- ==== Sys2Proof/Machine/Relay.lean ====
section
/-! DEFINITION. The relay engine (R343 to R362): groups, shards and segments, accesses, the life of a command, and the steps
of reductions, gathers and value exchanges. -/

namespace Sys2Proof.Machine
open Sys2Proof

/-! ## Statuses and operations (R348, R358) -/

def relOk : Nat := 0
def relPeerLost : Nat := 1
def relRefused : Nat := 2
def relMismatch : Nat := 3
def relBadDesc : Nat := 4
def relWork : Nat := 5
def relFault : Nat := 6
def relUncorr : Nat := 7

def opScatter : Nat := 1
def opAllReduce : Nat := 2
def opGather : Nat := 3
def opDispatch : Nat := 4
def opCombine : Nat := 5
def opUgrad : Nat := 0x11
def opNorm : Nat := 0x12
def opCodes : Nat := 0x13
def opVote : Nat := 0x14

def State.rel (s : State) (d : CoreId) : Rel := vget s.rels d
def State.modRel (s : State) (d : CoreId) (f : Rel → Rel) : State := { s with rels := vmod s.rels d f }
def State.relCmd (s : State) (d : CoreId) (id : Nat) : Option RelCmd := (s.rel d).cmds.find? (fun c => c.id = id)
/-- A command of an engine changed; REL_ACTIVE counts those that run. -/
def State.setRelCmds (s : State) (d : CoreId) (cs : List RelCmd) : State :=
  (s.modRel d (fun r => { r with cmds := cs })).setAct (Reg.REL_ACTIVE d) (BitVec.ofNat 32 (cs.filter (·.started)).length)
def State.putRelCmd (s : State) (d : CoreId) (c : RelCmd) : State :=
  s.setRelCmds d ((s.rel d).cmds.map (fun x => if x.id = c.id then c else x))

/-! ## Groups, shards and segments (R277, R295, R352 to R356) -/

/-- The dimensions of a set, ascending. -/
def dimsOf (d : BitVec 16) : List PortId := allPorts.filter (fun (p : PortId) => d.getLsbD p.val)

/-- The rank of a package in the group of some dimensions (R277). -/
def rankOf (pkg dims : BitVec 16) : Nat :=
  ((dimsOf dims).zipIdx.map (fun p => if pkg.getLsbD p.1.val then 2 ^ p.2 else 0)).sum

/-- Parameters of a shard (R295). -/
def shardSize (count d : Nat) : Nat := ((count + d - 1) / d + 2047) / 2048 * 2048
/-- Length of the shard of rank t. -/
def shardLen (count d t : Nat) : Nat := min (shardSize count d) (count - t * shardSize count d)

def RelCmd.n (c : RelCmd) : Nat := (dimsOf c.dims).length
def RelCmd.ranks (c : RelCmd) : Nat := 2 ^ c.n
def RelCmd.reduces (c : RelCmd) : Bool := c.op = opScatter || c.op = opAllReduce || c.op = opUgrad
def RelCmd.gathers (c : RelCmd) : Bool := c.op = opGather || c.op = opCodes || c.op = opAllReduce
def RelCmd.collects (c : RelCmd) : Bool := c.reduces || c.gathers
def RelCmd.votes (c : RelCmd) : Bool := c.op = opNorm || c.op = opVote

/-- Steps of a command: ALL_REDUCE runs those of its gather after those of its reduction (R354, R356). -/
def RelCmd.steps (c : RelCmd) : Nat :=
  if c.op = opAllReduce then 2 * c.n else if c.collects || c.votes then c.n else 0
/-- A step belongs to the reduction. -/
def RelCmd.reduceStep (c : RelCmd) (j : Nat) : Bool := c.reduces && decide (j < c.n)
/-- Position of a step among those of its reduction or gather. -/
def RelCmd.stepOf (c : RelCmd) (j : Nat) : Nat := if c.n = 0 then 0 else j % c.n
/-- The partner of a step. -/
def State.relPartner (s : State) (c : RelCmd) (j : Nat) : BitVec 16 :=
  match (dimsOf c.dims)[c.stepOf j]? with | some p => s.pkg ^^^ BitVec.ofNat 16 (2 ^ p.val) | none => s.pkg
def State.relRank (s : State) (c : RelCmd) : Nat := rankOf s.pkg c.dims

/-- Bytes from one shard's or record's place to the next. -/
def RelCmd.pitch (c : RelCmd) : Nat := if c.reduces then shardSize c.len c.ranks * 4 else c.len
/-- Bytes of shard or record t. -/
def RelCmd.size (c : RelCmd) (t : Nat) : Nat := if c.reduces then shardLen c.len c.ranks t * 4 else c.len
/-- Segments to a shard or record, of at most 32 KiB. -/
def RelCmd.segs (c : RelCmd) : Nat := (c.pitch + 32767) / 32768
/-- Bytes of a segment. -/
def RelCmd.segLen (c : RelCmd) (g : Nat) : Nat := min 32768 (c.size (g / c.segs) - g % c.segs * 32768)
/-- The segments of a shard or record that hold something. -/
def RelCmd.segsOf (c : RelCmd) (t : Nat) : List Nat :=
  ((List.range c.segs).map (fun i => t * c.segs + i)).filter (fun g => 0 < c.segLen g)
/-- Where a segment lies from the start of the source or, for a gather, of the destination. -/
def RelCmd.segAt (c : RelCmd) (g : Nat) : Nat := g / c.segs * c.pitch + g % c.segs * 32768

/-- The n low bits of a number reversed (R355). -/
def bitrev (n x : Nat) : Nat := ((List.range n).map (fun i => x / 2 ^ i % 2 * 2 ^ (n - 1 - i))).sum

/-- The segments a step sends, in order (R354 to R356): descending bitrev of t xor r, then ascending in the shard. -/
def RelCmd.sends (c : RelCmd) (r j : Nat) : List Nat :=
  let k := c.stepOf j
  let ts := ((List.range c.ranks).reverse.map (fun u => bitrev c.n u ^^^ r)).filter (fun t =>
    if c.reduceStep j then (t ^^^ r) % 2 ^ (k + 1) = 2 ^ k else (t ^^^ r) / 2 ^ k = 0)
  ts.flatMap c.segsOf

/-- The segments whose arrival a step awaits. -/
def RelCmd.awaits (c : RelCmd) (r j : Nat) : List Nat :=
  let k := c.stepOf j
  ((List.range c.ranks).filter (fun t =>
    if c.reduceStep j then (t ^^^ r) % 2 ^ (k + 1) = 0 else (t ^^^ r) / 2 ^ k = 1)).flatMap c.segsOf

/-- A command of several segments has moved one and has another to move (R352). -/
def RelCmd.midSegments (c : RelCmd) : Bool :=
  c.started && c.collects && decide (1 < c.ranks * c.segs) && !(c.sent.isEmpty && c.read.isEmpty && c.stored.isEmpty && c.lev.isEmpty)

/-- The apply point of commit set 13: no command of an engine is between two segments. -/
def State.relBetween (s : State) : Bool := allCores.all (fun d => (s.rel d).cmds.all (fun c => !c.midSegments))

/-- The relay engines hold at their apply point for a pending commit of set 13 (R50). -/
def State.relHeld (s : State) : Bool := s.setPending 13 && s.relBetween

/-! ## Accesses (R345) -/

/-- Where a relay engine's access of a context lands: an address of a LOCAL window that its page allows. -/
def State.relXlat (s : State) (d : CoreId) (x : CtxId) (va : Nat) (write : Bool) : State × Option (Nat × Bool) :=
  let p := (s.ctx x).part
  match s.findWin p va with
  | none => (s, none)
  | some i =>
    if s.memWinKind i != 1 then (s, none) else
    let t := s.translate (.die d) p va write
    match t.2 with
    | .at_ (.hbm pa) c => (t.1, some (pa, c))
    | _ => (t.1, none)

/-- Read bytes with a hint: the bytes, or the status of the abort. -/
def State.dieRead (s : State) (hint : Nat) (d : CoreId) (x : CtxId) (va n : Nat) : State × Except Nat (List Byte) :=
  (lineParts va n).foldl (fun r l =>
    match r.2 with
    | .error e => (r.1, .error e)
    | .ok bs =>
      let t := r.1.relXlat d x (l.1 + l.2.1) false
      match t.2 with
      | none => (t.1, .error relFault)
      | some (pa, c) =>
        let y := (t.1.noteLine x pa).lineRead (pa / 256 * 256) c hint
        if y.2.1 then (y.2.2.ueEvent (pa / 256 * 256), .error relUncorr) else (y.2.2, .ok (bs ++ (y.1.drop l.2.1).take l.2.2))) (s, .ok [])

/-- Reads of a relay engine carry stream-through, those of the split engine keep (R267). -/
def State.relRead (s : State) (d : CoreId) (x : CtxId) (va n : Nat) : State × Except Nat (List Byte) := s.dieRead 0 d x va n
def State.splitRead (s : State) (x : CtxId) (va n : Nat) : State × Except Nat (List Byte) := s.dieRead 1 0 x va n

/-- Write bytes, up to the first line that is refused. -/
def State.relWrite (s : State) (d : CoreId) (x : CtxId) (va : Nat) (bs : List Byte) : State × Option Nat :=
  (lineParts va bs.length).foldl (fun r l =>
    match r.2 with
    | some e => (r.1, some e)
    | none =>
      let t := r.1.relXlat d x (l.1 + l.2.1) true
      match t.2 with
      | none => (t.1, some relFault)
      | some (pa, c) =>
        ((t.1.noteLine x pa).lineWrite (pa / 256 * 256) c 0
          (((List.range l.2.2).map (· + l.2.1)).zip ((bs.drop (l.1 + l.2.1 - va)).take l.2.2)) unitOther, none)) (s, none)

/-! ## Contexts and messages (R344, R351) -/

/-- A context uses a relay engine. -/
def State.relValid (s : State) (d : CoreId) (x : CtxId) : Bool := s.fld (Reg.REL_CTX d x) 31 31 = 1
def State.relJob (s : State) (d : CoreId) (x : CtxId) : BitVec 16 := BitVec.ofNat 16 (s.fld (Reg.REL_CTX d x) 15 0)
/-- The context a job ID is bound to on an engine: the lowest. -/
def State.relBind (s : State) (d : CoreId) (job : BitVec 16) : Option CtxId :=
  ((List.range 64).map (Fin.ofNat 64)).find? (fun x => s.relValid d x && s.relJob d x = job)

/-- The key of a command (R351). -/
def State.relKey (s : State) (d : CoreId) (c : RelCmd) : RelayKey :=
  ⟨s.relJob d c.ctx, d, BitVec.ofNat 8 c.op, c.tag, c.step⟩

/-- Send a relay message to a package: whether it could be sent. -/
def State.relSend (s : State) (d : CoreId) (c : RelCmd) (vc : Fin 4) (dst : BitVec 16) (tag : BitVec 16) (j : Nat) (b : RelayBody) :
    State × Bool :=
  s.sendMsg vc ⟨dst, s.pkg, tag, 0, .relay (s.relKey d c) (BitVec.ofNat 5 j) c.dims b⟩ (some c.ctx)

/-! ## Scratch (R350, R354) -/

/-- The first address of a context's work region. -/
def State.workBase (s : State) (d : CoreId) (x : CtxId) : Nat :=
  s.fld (Reg.REL_WORK_HI d x) 24 0 * 2 ^ 32 + s.fld (Reg.REL_WORK_LO d x) 31 21 * 2 ^ 21

/-- Where a segment's sums lie in the scratch: behind those of the shards before it that step 0 keeps (notes/assumptions/83). -/
def RelCmd.scratchOff (c : RelCmd) (r g : Nat) : Nat :=
  ((((((List.range c.ranks).filter (fun t => (t ^^^ r) % 2 = 0)).flatMap c.segsOf).takeWhile (· != g)).map c.segLen)).sum

/-- The addresses of a segment's sums, and how many bytes lie at each: in one unit of the scratch or across two; none where the units
do not reach so far. -/
def State.scratchAt (s : State) (d : CoreId) (c : RelCmd) (g : Nat) : Option (List (Nat × Nat)) :=
  let off := c.scratchOff (s.relRank c) g
  let n := c.segLen g
  let n1 := min n (2 ^ 21 - off % 2 ^ 21)
  let place (o m : Nat) : Option (Nat × Nat) := (c.scratch[o / 2 ^ 21]?).map (fun u => (s.workBase d c.ctx + u * 2 ^ 21 + o % 2 ^ 21, m))
  match place off n1, (if n1 = n then some (0, 0) else place (off + n1) (n - n1)) with
  | some a, some b => some (if n1 = n then [a] else [a, b])
  | _, _ => none

/-- The sums of a segment go to the scratch. -/
def State.keepSums (s : State) (d : CoreId) (c : RelCmd) (g : Nat) (bs : List Byte) : State × Except Nat RelCmd :=
  match s.scratchAt d c g with
  | none => (s, .ok { c with vals := smSet (fun _ => []) c.vals g bs })
  | some ps =>
    let w := ps.foldl (fun (r : State × Option Nat × List Byte) p =>
      match r.2.1 with
      | some _ => r
      | none => let w := r.1.relWrite d c.ctx p.1 (r.2.2.take p.2); (w.1, w.2, r.2.2.drop p.2)) (s, none, bs)
    (w.1, match w.2.1 with | some e => .error e | none => .ok c)

/-- The sums of a segment, from the scratch. -/
def State.sumsOf (s : State) (d : CoreId) (c : RelCmd) (g : Nat) : State × Except Nat (List Byte) :=
  match s.scratchAt d c g with
  | none => (s, .ok (smGet (fun _ => []) c.vals g))
  | some ps => ps.foldl (fun (r : State × Except Nat (List Byte)) p =>
      match r.2 with
      | .error _ => r
      | .ok bs => let t := r.1.relRead d c.ctx p.1 p.2; (t.1, match t.2 with | .error e => .error e | .ok b => .ok (bs ++ b))) (s, .ok [])

/-! ## Completion and abort (R349, R358, R359) -/

/-- Word 6 of a posted entry. -/
def State.relStatus (s : State) (d : CoreId) (c : RelCmd) (v : Nat) : State :=
  match c.src with
  | .posted _ e => s.modStore d (fun m => Mem.writeN m (e + 48) v 8)
  | .internal _ => s

def RelCmd.seq (c : RelCmd) : Option SeqId :=
  match c.src with
  | .posted q _ => some (match q with | 0 => .F | 1 => .B | 2 => .U)
  | .internal _ => some .U

/-- REL_ABORT with the key, the queue and the status. -/
def State.relAbortEvent (s : State) (d : CoreId) (c : RelCmd) (st : Nat) : State :=
  s.raiseRec .relAbort false ⟨some c.ctx, some d, c.seq⟩ 0
    [.small 16 (s.relJob d c.ctx).toNat, .small 8 c.op, .small 32 c.tag.toNat, .small 32 c.step.toNat, .small 8 st]

/-- The arrival at completion, with the command's BATON. -/
def State.relDone (s : State) (d : CoreId) (c : RelCmd) : State :=
  if c.hv then s.sendArrival d (s.relayArrival d c.ctx c.hid c.baton) else s

/-- The destination is undefined after an abort (R359): free values, at the places of a collective, and at those on this package of the
rows that a DISPATCH or COMBINE has reached (notes/assumptions/82). -/
def State.relForget (s : State) (d : CoreId) (c : RelCmd) : State :=
  if !c.started then s
  else if !c.collects then
    c.places.foldl (fun s p => let b := s.freshBytes p.2; (b.1.relWrite d c.ctx p.1 b.2).1) s
  else
  let r := s.relRank c
  let ts := if c.gathers then List.range c.ranks else [r]
  ts.foldl (fun s t =>
    let b := s.freshBytes (c.size t)
    (b.1.relWrite d c.ctx (c.dstVa + (if c.gathers then t * c.pitch else 0)) b.2).1) s

/-- A step has been reached: data of it has been sent, or added, or it is the first. -/
def RelCmd.reached (c : RelCmd) (j : Nat) : Bool :=
  j = 0 || smGet (fun _ => 0) c.sent j != 0 || (c.reduces && c.lev.any (fun kv => decide (j ≤ kv.2))) || (c.votes && j ≤ c.at_)

/-- A command aborts: its status is written, REL_ABORT is raised and it is gone. With PEER_LOST it sends ABORT to the
partners of the steps it has reached and to those it waits on, and its context is affected. -/
def State.relAbort (s : State) (d : CoreId) (c : RelCmd) (st j where_ : Nat) : State :=
  let s := (s.setRelCmds d ((s.rel d).cmds.filter (fun x => x.id != c.id))).modRel d (fun r => { r with packs := r.packs.filter (fun p => p.cmd != c.id) })
  let s := s.relStatus d c (st * 2 ^ 56 + j % 32 * 2 ^ 48 + where_ % 2 ^ 32)
  let s := (s.relForget d c).relAbortEvent d c st
  if st != relPeerLost then s else
  let s := ((List.range c.steps).filter (fun j => c.started && (c.reached j || !c.ready.contains j))).foldl (fun s j =>
    (s.relSend d c vcHctl (s.relPartner c j) 0 j .abort).1) s
  s.affected c.ctx

/-! ## Reading the source and adding (R354, R114) -/

/-- FP32 elements of bytes, and back. -/
def toWords : Nat → List Byte → List W32
  | 0, _ => []
  | fuel + 1, bs => if bs.isEmpty then [] else BitVec.ofNat 32 (leNat (bs.take 4)) :: toWords fuel (bs.drop 4)
def ofWords (ws : List W32) : List Byte := ws.flatMap (fun w => leBytes w.toNat 4)

/-- A segment of the source, from its offset. -/
def State.relSource (s : State) (d : CoreId) (c : RelCmd) (off n : Nat) : State × Except Nat (List Byte) :=
  match c.srcStore with
  | some a => (s, .ok (Mem.bytes (s.core d).store (a + off) n))
  | none => if c.op = opCodes then (s, .ok ((c.srcBytes.drop off).take n)) else s.relRead d c.ctx (c.srcVa + off) n

def noFlag : Nat → Bool := fun _ => false
def noCount : Nat → Nat := fun _ => 0

/-- UGRAD completes once the whole source has been read (R354). -/
def State.relRead1 (s : State) (d : CoreId) (c : RelCmd) (g : Nat) : State × RelCmd :=
  let c := { c with read := smSet noFlag c.read g true }
  match c.src with
  | .internal o =>
    if c.op = opUgrad && !c.srcDone && ((List.range c.ranks).flatMap c.segsOf).all (fun g => smGet noFlag c.read g) then
      ((s.modCore d (fun k => { k with uops := k.uops.filter (fun u => !(u.kind = .ugrad && u.relay = c.id)) })).complete o unitOther,
        { c with srcDone := true })
    else (s, c)
  | _ => (s, c)

/-- The sum of the squares of a segment, in FP64 (R360). -/
def squareSum (vs : List W32) : W64 :=
  vs.foldl (fun (a : W64) v => BitVec.ofNat 64 (fp64.ieeeRound ((fp64.decode a.toNat).add ((f32 v).mul (f32 v))))) 0
def fAdd64 (a b : W64) : W64 := BitVec.ofNat 64 (fp64.ieeeRound ((fp64.decode a.toNat).add (fp64.decode b.toNat)))

/-- A segment reaches its place at the destination: of the own shard, or of the record of its rank. -/
def State.relStore (s : State) (d : CoreId) (c : RelCmd) (g : Nat) (bs : List Byte) : State × Except Nat RelCmd :=
  let at_ := c.dstVa + (if c.gathers then c.segAt g else g % c.segs * 32768)
  let w := s.relWrite d c.ctx at_ (bs.take (c.segLen g))
  match w.2 with
  | some e => (w.1, .error e)
  | none => (w.1, .ok { c with stored := smSet noFlag c.stored g true })

/-- The command's record changes, or it aborts at a step and a segment. -/
def State.relResult (s : State) (d : CoreId) (c : RelCmd) (r : Except Nat RelCmd) (j g : Nat) : State :=
  match r with
  | .ok c => s.putRelCmd d c
  | .error e => s.relAbort d c e j g

/-- A reduced segment of the own shard is final: squared for the norm, and written; an ALL_REDUCE runs its reduction into scratch
(R356). -/
def State.relFinal (s : State) (d : CoreId) (c : RelCmd) (g : Nat) (vs : List W32) : State × Except Nat RelCmd :=
  let c := if c.norm then { c with squares := smSet (fun _ => 0) c.squares g (squareSum vs) } else c
  let k := if c.op = opAllReduce && c.n != 0 then s.keepSums d c g (ofWords vs) else (s, .ok c)
  match k.2 with
  | .error e => (k.1, .error e)
  | .ok c => k.1.relStore d { c with vals := smErase c.vals g } g (ofWords vs)

/-- Data of a step is added or stored, and acknowledged. -/
def State.relApply (s : State) (d : CoreId) (c : RelCmd) (j g : Nat) (tag : BitVec 16) (bs : List Byte) : State :=
  let ack (s : State) (c : RelCmd) : State := (s.relSend d c vcHctl (s.relPartner c j) tag j (.ack (BitVec.ofNat 64 g))).1
  if c.reduceStep j then
    let old : State × Except Nat (List Byte) :=
      if j = 0 then s.relSource d c (c.segAt g) (c.segLen g) else s.sumsOf d c g
    match old.2 with
    | .error e => old.1.relAbort d c e j g
    | .ok ob =>
      let vs := List.zipWith fAdd (toWords ob.length ob) (toWords bs.length bs)
      let c := { c with lev := smSet noCount c.lev g (j + 1) }
      let r := if j = 0 then old.1.relRead1 d c g else (old.1, c)
      let f := if j + 1 = c.n then r.1.relFinal d r.2 g vs else r.1.keepSums d r.2 g (ofWords vs)
      match f.2 with
      | .ok c => ack (f.1.putRelCmd d c) c
      | .error e => f.1.relAbort d r.2 e j g
  else
    let f := s.relStore d c g bs
    match f.2 with
    | .ok c => ack (f.1.putRelCmd d c) c
    | .error e => f.1.relAbort d c e j g

/-- Whether data of a step can be added or stored now. -/
def RelCmd.applies (c : RelCmd) (j g : Nat) : Bool := !c.reduceStep j || smGet noCount c.lev g = j

/-! ## The next action of a collective (R349, R352, R354 to R356) -/

/-- A segment that the engine copies from the source to its own place: a gather's own record, or all of a group of one. -/
def State.relCopy? (s : State) (c : RelCmd) : Option Nat :=
  if (c.reduces && c.n = 0) || (c.gathers && !c.reduces) then (c.segsOf (s.relRank c)).find? (fun g => !smGet noFlag c.stored g) else none

def State.relCopy (s : State) (d : CoreId) (c : RelCmd) (g : Nat) : State :=
  let off := if c.reduces then c.segAt g else g % c.segs * 32768
  let b := s.relSource d c off (c.segLen g)
  match b.2 with
  | .error e => b.1.relAbort d c e 0 g
  | .ok bs =>
    let r := b.1.relRead1 d c g
    let f := if c.reduces then r.1.relFinal d r.2 g (toWords bs.length bs) else r.1.relStore d r.2 g bs
    f.1.relResult d r.2 f.2 0 g

/-- The next segment of a step, when it may be sent: the partner is READY, fewer than 32 are unacknowledged, and the step
before has produced it. -/
def State.relSend? (s : State) (c : RelCmd) (j : Nat) : Option Nat :=
  if !c.ready.contains j || 32 ≤ (c.unacked.filter (fun u => u.1 = j)).length then none else
  match (c.sends (s.relRank c) j)[smGet noCount c.sent j]? with
  | none => none
  | some g => if (if c.reduceStep j then smGet noCount c.lev g = j else smGet noFlag c.stored g) then some g else none

/-- Send a segment of a step on COLL. -/
def State.relSendSeg (s : State) (d : CoreId) (c : RelCmd) (j g : Nat) : State :=
  let b : State × Except Nat (List Byte) :=
    if c.reduceStep j then
      if j = 0 then s.relSource d c (c.segAt g) (c.segLen g) else s.sumsOf d c g
    else s.relRead d c.ctx (c.dstVa + c.segAt g) (c.segLen g)
  match b.2 with
  | .error e => b.1.relAbort d c e j g
  | .ok bs =>
    let s := b.1.rouse 5 d (b.1.rel d).holds
    let r := if c.reduceStep j && j = 0 then s.relRead1 d c g else (s, c)
    let c := { r.2 with
      sent := smSet noCount r.2.sent j (smGet noCount r.2.sent j + 1)
      unacked := r.2.unacked ++ [(j, g)]
      vals := if r.2.reduceStep j then smErase r.2.vals g else r.2.vals }
    let t := r.1.sendReq vcColl (s.relPartner c j) 0 (.relay (s.relKey d c) (BitVec.ofNat 5 j) c.dims (.data (BitVec.ofNat 64 g) bs))
      (.relay d c.id j (BitVec.ofNat 64 g)) (some c.ctx)
    if t.2 then t.1.putRelCmd d c else t.1.relAbort d c relPeerLost j g

/-- Everything of a collective has been sent and acknowledged, and everything awaited is in place. -/
def State.relComplete (s : State) (c : RelCmd) : Bool :=
  let r := s.relRank c
  (List.range c.steps).all (fun j => (c.sends r j).length ≤ smGet noCount c.sent j) && c.unacked.isEmpty
    && (if c.gathers then (List.range c.ranks).flatMap c.segsOf else c.segsOf r).all (fun g => smGet noFlag c.stored g)

/-- Everything of a step has been sent and acknowledged, or exchanged, and everything it awaits is in place. -/
def State.stepDone (s : State) (c : RelCmd) (j : Nat) : Bool :=
  let r := s.relRank c
  if c.votes then decide (j < c.at_) else
  (c.sends r j).length ≤ smGet noCount c.sent j && !c.unacked.any (fun u => u.1 = j)
    && (c.awaits r j).all (fun g => if c.reduceStep j then decide (j < smGet noCount c.lev g) else smGet noFlag c.stored g)

/-- A finished UGRAD with NORM adds its shard's sum to the core's partial, the segment sums folded in ascending order; it
waits for every earlier one of the core (R360). -/
def State.relNorm (s : State) (d : CoreId) (c : RelCmd) : Option State :=
  if !c.norm then some s
  else if (s.rel d).cmds.any (fun e => e.norm && decide (e.id < c.id)) then none
  else
    let sum := (c.segsOf (s.relRank c)).foldl (fun (a : W64) g => fAdd64 a (smGet (fun _ => 0) c.squares g)) 0
    some (s.setPair (Reg.REL_NORM_LO d c.ctx) (fAdd64 (BitVec.ofNat 64 (s.pair (Reg.REL_NORM_LO d c.ctx))) sum).toNat)

/-- A command completes: OK in its entry, its arrival, and it is gone. -/
def State.relFinish (s : State) (d : CoreId) (c : RelCmd) : State :=
  ((s.setRelCmds d ((s.rel d).cmds.filter (fun x => x.id != c.id))).relStatus d c 0).relDone d c

/-! ## Value exchange (R361, R362) -/

/-- A value combined with the partner's. -/
def RelCmd.combine (c : RelCmd) (a b : W64 × BitVec 2) : W64 × BitVec 2 :=
  if c.op = opNorm then (fAdd64 a.1 b.1, a.2 ||| b.2)
  else (0, (if a.2.getLsbD 0 && b.2.getLsbD 0 then 1 else 0) ||| ((a.2 ||| b.2) &&& 2))

/-- NORM begins: once every NORM reduction of the context on the package has added its sum, the eight partials in ascending
core number from +0, and the step sentinel. -/
def State.normStart (s : State) (x : CtxId) : Option (W64 × BitVec 2) :=
  if allCores.any (fun d => (s.rel d).cmds.any (fun c => c.norm && c.ctx = x)) then none
  else some (allCores.foldl (fun (a : W64) (d : CoreId) => fAdd64 a (BitVec.ofNat 64 (s.pair (Reg.REL_NORM_LO d x)))) 0, if (s.ctx x).stepSent then 1 else 0)

/-- NORM ends: the partials and the sentinel are cleared. -/
def State.normClear (s : State) (x : CtxId) : State :=
  (allCores.foldl (fun s d => s.setPair (Reg.REL_NORM_LO d x) 0) s).modCtx x (fun k => { k with stepSent := false })

/-- The next action of NORM or VOTE: its value once it has all steps, none while it goes on. A VALUE awaits the partner's READY
(R351). -/
def State.relValue (s : State) (d : CoreId) (c : RelCmd) : State × Option (W64 × BitVec 2) :=
  match c.value with
  | none =>
    match s.normStart c.ctx with
    | some v => (s.putRelCmd d { c with value := some v }, none)
    | none => (s, none)
  | some v =>
    if c.n ≤ c.at_ then (s, some v)
    else if !c.valueSent then
      if !c.ready.contains c.at_ then (s, none) else
      let t := s.relSend d c vcHctl (s.relPartner c c.at_) 0 c.at_ (.value v.1 v.2)
      (if t.2 then t.1.putRelCmd d { c with valueSent := true } else t.1.relAbort d c relPeerLost c.at_ 0, none)
    else
      let key := s.relKey d c
      match (s.rel d).values.find? (fun r => r.key = key && r.j = c.at_) with
      | none => (s, none)
      | some r =>
        ((s.modRel d (fun e => { e with values := e.values.filter (fun t => !(t.key = key && t.j = c.at_)) })).putRelCmd d
          { c with value := some (c.combine v (r.v, r.bits)), at_ := c.at_ + 1, valueSent := false }, none)

/-! ## Acceptance (R346 to R350) -/

/-- A command with nothing done. -/
def RelCmd.blank (id op : Nat) (src : RelSrc) (x : CtxId) : RelCmd where
  id := id
  op := op
  src := src
  ctx := x
  started := false
  since := 0
  scratch := []
  dims := 0
  len := 0
  tag := 0
  step := 0
  srcVa := 0
  dstVa := 0
  srcStore := none
  srcBytes := []
  norm := false
  hv := false
  hid := 0
  baton := 0
  words := []
  ready := []
  again := []
  waitRaised := false
  sent := []
  unacked := []
  vals := []
  lev := []
  read := []
  stored := []
  squares := []
  held := []
  srcDone := false
  value := none
  at_ := 0
  valueSent := false
  pos := 0
  sub := 0
  rowsOut := 0
  dests := []
  places := []

/-- A command of a context is accepted, and waits to start. -/
def State.relAccept (s : State) (d : CoreId) (c : RelCmd) : State :=
  s.modRel d (fun r => { r with next := r.next + 1, cmds := r.cmds ++ [{ c with id := r.next }] })

/-- Scratch a command needs, in 2 MiB units (R350). -/
def RelCmd.need (c : RelCmd) : Nat := if c.reduces then (c.len * 2 + 2 ^ 21 - 1) / 2 ^ 21 else 0

end Sys2Proof.Machine
end

