-- ==== Sys2Proof/Machine/DevAccess.lean ====
section
/-! DEFINITION. Reads and writes of byte ranges by the units of a core that never halt: the stash, the statistics memory, the
frames and SEQ-U (R216, R283). -/

namespace Sys2Proof.Machine
open Sys2Proof

/-- A line request through a REMOTE window (R274) leaves for its package, without waiting for the reply: whether it is accepted
there is free, and one that is lost affects the context (R339; notes/assumptions/16). -/
def State.devRemote (s : State) (ag : Agent) (pkg : BitVec 16) (pa : Nat) (b : MsgBody) : State × Bool :=
  let x := ag.core?.bind (fun c => (s.core c).ctx)
  let r := s.sendReq vcDisp pkg (BitVec.ofNat 48 (pa / 256 * 256)) b .dev x
  let t := if r.2 then r.1 else (match x with | some x => r.1.affected x | none => r.1)
  (t.fresh.2, t.fresh.1.getLsbD 0)

/-- Read n bytes of a partition's space: the bytes, or the first address that is refused. What a poisoned line gives is free
(notes/assumptions/18), as is what another package's memory holds. -/
def State.devRead (s : State) (ag : Agent) (p : CoreId) (va n : Nat) : State × Except Nat (List Byte) :=
  (lineParts va n).foldl (fun r l =>
    match r.2 with
    | .ok bs =>
      let t := r.1.translate ag p (l.1 + l.2.1) false
      match t.2 with
      | .at_ (.hbm pa) cached =>
        let x := (t.1.noteCoreLine ag.core? pa).lineRead (pa / 256 * 256) cached 0
        if x.2.1 then
          let f := (x.2.2.ueEvent (pa / 256 * 256)).freshBytes l.2.2
          (f.1, .ok (bs ++ f.2))
        else (x.2.2, .ok (bs ++ (x.1.drop l.2.1).take l.2.2))
      | .at_ (.host a) _ => (t.1, .ok (bs ++ Mem.bytes t.1.host a l.2.2))
      | .at_ (.remote pkg pa) _ =>
        let u := t.1.devRemote ag pkg pa (.rdReq 0)
        let f := u.1.freshBytes l.2.2
        if u.2 then (f.1, .ok (bs ++ f.2)) else (u.1, .error (l.1 + l.2.1))
      | _ => (t.1, .error (l.1 + l.2.1))
    | .error e => (r.1, .error e)) (s, .ok [])

/-- Whether every line of a range can be accessed as far as this package knows: none, or the first address that cannot. -/
def State.devProbe (s : State) (ag : Agent) (p : CoreId) (va n : Nat) (write : Bool) : State × Option Nat :=
  (lineParts va n).foldl (fun r l =>
    match r.2 with
    | some a => (r.1, some a)
    | none =>
      let t := r.1.translate ag p (l.1 + l.2.1) write
      match t.2 with
      | .at_ _ _ => (t.1, none)
      | _ => (t.1, some (l.1 + l.2.1))) (s, none)

/-- Write bytes to a partition's space, up to the first line that is refused. -/
def State.devWrite (s : State) (ag : Agent) (p : CoreId) (va : Nat) (bs : List Byte) (unit : Nat) : State × Option Nat :=
  (lineParts va bs.length).foldl (fun r l =>
    match r.2 with
    | some a => (r.1, some a)
    | none =>
      let t := r.1.translate ag p (l.1 + l.2.1) true
      let part := (bs.drop (l.1 + l.2.1 - va)).take l.2.2
      let put := ((List.range l.2.2).map (· + l.2.1)).zip part
      match t.2 with
      | .at_ (.hbm pa) cached => ((t.1.noteCoreLine ag.core? pa).lineWrite (pa / 256 * 256) cached 0 put unit, none)
      | .at_ (.host a) _ => ({ t.1 with host := Mem.setBytes t.1.host a part }, none)
      | .at_ (.remote pkg pa) _ =>
        let u := t.1.devRemote ag pkg pa (.wr 0 put)
        (u.1, if u.2 then none else some (l.1 + l.2.1))
      | _ => (t.1, some (l.1 + l.2.1))) (s, none)

end Sys2Proof.Machine
end

