-- ==== Sys2Proof/Machine/Spec.lean ====
section
/-! DEFINITION. Speculation windows: XSPEC, XCOMMIT and XDISCARD (R159, R162, R163, R211), and how a commit or a discard
ends (R162 to R164). -/

namespace Sys2Proof.Machine
open Sys2Proof

/-- A window has a SHADOW region of the context (R159). -/
def State.hasShadow (s : State) (c : CoreId) (x : CtxId) (w : Fin 2) : Bool :=
  (List.range 16).any (fun i => s.regKind c i == 4 && s.fld (Reg.STORE_ATTR c i) 21 21 == w && s.regCtx c i == x)

/-- XSPEC opens a window with a checkpoint of SEQ-F's registers; an open window is waited for (R159, R211). -/
def execXspec (c : CoreId) (q : SeqId) (w : CT) (s : State) : Out :=
  s.issueCT c q w (q != .F) (fun s x =>
    let v : Fin 2 := if w.win then 1 else 0
    if (s.target c q w).toNat % 8 != 0 then .fault .xAlign []
    else if !s.hasShadow c x v then .fault .xSpecState []
    else if (s.win c v).state != .closed || (s.win c v).discarding then .wait s
    else
      let z := s.seq c q
      let other := (s.win c (otherWin v)).state
      let s := s.modWin c v (fun _ => { Win.reset with
        state := .open_, younger := other != .closed
        ckS := z.s, ckA := z.a, ckP := z.p, gen := (z.rs w.a).setWidth 16, target := s.target c q w })
      retireSeq s c q (fun z => { z with win := some v }))

/-- A window has an older one that is not closed yet: committing counts as open, for its exchange comes first (R162). -/
def State.olderOpen (s : State) (c : CoreId) (v : Fin 2) : Bool :=
  (s.win c v).younger && (s.win c (otherWin v)).state != .closed

/-- XCOMMIT (R162, R211). -/
def execXcommit (c : CoreId) (q : SeqId) (w : CT) (s : State) : Out :=
  s.issueCT c q w (w.d != 0 || w.a != 0 || w.imm != 0) (fun s _ =>
    let v : Fin 2 := if w.win then 1 else 0
    match (s.win c v).state with
    | .closed => .fault .xSpecState []
    | .open_ => .retire (s.modWin c v (fun z => { z with state := if s.olderOpen c v then .commitPending else .committing }))
    | _ => .retire s)

/-- XDISCARD (R162, R163, R211). -/
def execXdiscard (c : CoreId) (q : SeqId) (w : CT) (s : State) : Out :=
  s.issueCT c q w (w.d != 0 || w.a != 0 || w.imm != 0) (fun s x =>
    let v : Fin 2 := if w.win then 1 else 0
    match (s.win c v).state with
    | .closed => .fault .xSpecState []
    | .committing => .retire s
    | _ => .retire (s.beginDiscard x c v))

/-- Engine instructions of a window that have not completed (R162). -/
def Core.winBusy (k : Core) (w : Fin 2) : Bool :=
  let mine (o : Origin) : Bool := o.win = some w
  let live (z : Slot) : Bool := (match z.pend with | some r => mine r.org | none => false) || mine z.cur.org && (match z.state with | .armed | .running | .halted => true | .cancelled => !z.reqs.isEmpty | _ => false)
  k.arr.xing.any (fun a => mine a.org) || k.arr.queue.any (fun a => mine a.org) || k.arr.passes.any (fun a => mine a.org)
    || k.arr.bank.toList.any (fun b => match b.cmd with | some a => mine a.org | none => false)
    || k.rowQ.any (fun a => mine a.org) || k.str.toList.any live || k.gth.toList.any live
    || k.gthQ.any (fun g => match g with | .xrcheck _ o => mine o | .gather _ => false)
    || k.stashOps.any (fun a => mine a.org)

/-- The exchange of R164 on a core: BASE of each SHADOW region of the window and of its pair, in both copies. Streams
issued before it go on as issued (R160), and the copies of descriptors read ahead are dropped (R173). -/
def State.exchangeStore (s : State) (c : CoreId) (x : CtxId) (w : Fin 2) : State :=
  let s := forIdx 16 (fun i => s.regKind c i == 4 && s.fld (Reg.STORE_ATTR c i) 21 21 == w && s.regCtx c i == x)
    (fun s i =>
      let j := s.fld (Reg.STORE_ATTR c i) 19 16
      ((s.swapRegs (Reg.STORE_BASE c i) (Reg.STORE_BASE c j)).bumpWrap (Reg.STORE_SWAPS c) 1).modCore c
        (fun k => k.mapRearms (fun r => { r with moved := moveBase r.moved (Fin.ofNat 16 i) (Fin.ofNat 16 j) }))) s
  allSeqs.foldl (fun s q => s.modSeq c q (fun z => { z with ahead := none })) s

/-- OR a window's shadow sentinel into the sentinel, and clear it (R111). -/
def State.mergeSentinel (s : State) (c : CoreId) (w : Fin 2) : State :=
  let r := Reg.ARR_SENTINEL c
  let v := if w = 0 then s.fld r 12 8 else s.fld r 20 16
  (s.setFld r 4 0 (s.fld r 4 0 ||| v)).clearSpecSentinel c w

/-- What a window's work becomes when the window commits: ordinary. -/
def Core.committed (k : Core) (w : Fin 2) : Core :=
  { k with
    stats := k.stats.map (fun e => if e.win = some w then { e with win := none } else e)
    stash := k.stash.map (fun e => if e.win = some w then { e with win := none } else e)
    arr := { k.arr with bank := k.arr.bank.map (fun b => if b.win = some w then { b with win := none } else b) } }

/-- An arrival of a window as an ordinary one, once the window has committed. -/
def ordinary (c : CoreId) (w : Fin 2) (a : Arrival) : Arrival :=
  { a with src := (match a.src with | .ctx y (some v) (.feed d) => .ctx y (if d = c && v = w then none else some v) (.feed d) | r => r) }

/-- A COMMITTING window whose instructions have all completed closes (R162): the exchanges, its statistics and sentinel,
its held arrivals in order, the hurdles bound to it; a younger window that waits for it commits next. An arrival on its
way is ordinary from then on: it records no base (R162). -/
def execSpecCommitComplete (c : CoreId) (w : Fin 2) (s : State) : Out :=
  match (s.core c).ctx with
  | none => .next s
  | some x =>
    let z := s.win c w
    if z.state != .committing || (s.core c).winBusy w then .next s else
    let v := otherWin w
    let s := (s.modCore c (fun k => { k.committed w with lastCommit := w })).exchangeStore c x w
    let s := (s.mergeSentinel c w).resolveHurdles x w true
    let s := { s with arrivals := s.arrivals.map (ordinary c w) ++ z.heldArr.map (ordinary c w) }
    let s := s.modWin c w (fun _ => Win.reset)
    let s := s.modWin c v (fun y => { y with younger := false, state := (if y.state = WinState.commitPending then .committing else y.state) })
    let s := s.modSeq c .F (fun y => if y.win = some w then { y with win := none } else y)
    .next ((s.noteResolved x c w true).freeEnded x)

/-- The registers of SEQ-F as a window's checkpoint has them, at its discard target (R163). -/
def rollback (z : Seq) (w : Win) : Seq :=
  { z with s := w.ckS, a := w.ckA, p := w.ckP, pc := w.target, wait := none, waitDf := false, win := none, sst := []
           state := if z.state = .wait then .run else z.state }

/-- A discard completes (R163): SEQ-F takes the checkpoint of the oldest discarded window and resumes at its target. -/
def execSpecDiscardComplete (c : CoreId) (w : Fin 2) (s : State) : Out :=
  let z := s.win c w
  if !z.discarding || (s.seq c .F).harm.isSome then .next s else
  .next ((s.modSeq c .F (fun y => rollback y z)).modWin c w (fun _ => Win.reset))

end Sys2Proof.Machine
end

