-- ==== Sys2Proof/Machine/Stash.lean ====
section
/-! DEFINITION. The stash (R283 to R289): its directory, placement, spill, drop and stall; XSTASH, XRECALL and XFREE
(R212 to R214). -/

namespace Sys2Proof.Machine
open Sys2Proof

/-- A completion arrival of the stash: R148 gives it no SRC_UNIT, so that field is free (notes/assumptions/3). -/
def State.completeStash (s : State) (o : Origin) : State :=
  if o.hv then s.fresh.2.complete o (s.fresh.1.toNat % 8) else s

/-! ## Space (R283, R287) -/

/-- Pages of 4 KiB that a tensor of so many 64 B units takes. -/
def pagesOf (len : Nat) : Nat := (len + 63) / 64

/-- The 4 KiB pages of a region, by number. -/
def State.regionPages (s : State) (c : CoreId) (j : Nat) : List Nat :=
  (List.range (s.regSize c j / 4096)).map (fun i => s.regBase c j / 4096 + i)

/-- A region that holds stash of a context: a STASH region of it; for a window, its SHADOW region that pairs with one. -/
def State.holdsStash (s : State) (c : CoreId) (x : CtxId) (win : Option (Fin 2)) (j : Nat) : Bool :=
  s.regCtx c j == x.val && (match win with
    | none => s.regKind c j == 3
    | some w => s.regKind c j == 4 && s.fld (Reg.STORE_ATTR c j) 21 21 == w.val
        && s.regKind c (s.fld (Reg.STORE_ATTR c j) 19 16) == 3)

/-- Core-store pages that a key may be placed in, lowest region and page first (notes/assumptions/19). -/
def State.stashPages (s : State) (c : CoreId) (x : CtxId) (win : Option (Fin 2)) : List Nat :=
  ((List.range 16).filter (s.holdsStash c x win)).flatMap (s.regionPages c)

/-- Pages held by keys that are not on their way out. -/
def heldPages (ks : List StashKey) : List Nat := (ks.filter (fun e => e.state != .moving)).flatMap (·.pages)

/-- STORE_STASH.QUOTA in pages. -/
def State.stashQuota (s : State) (c : CoreId) : Nat := s.fld (Reg.STORE_STASH c) 14 0 * 16

/-- Free pages for n more in the core store, if the quota and the regions have them (case 1 of R285, R287). -/
def State.storeRoom (s : State) (c : CoreId) (x : CtxId) (win : Option (Fin 2)) (n : Nat) : Option (List Nat) :=
  let ks := (s.core c).stash
  let held := heldPages ks
  let mine := heldPages (ks.filter (fun e => e.ctx = x))
  let free := (s.stashPages c x win).filter (fun p => !held.contains p)
  if mine.length + n ≤ s.stashQuota c && n ≤ free.length then some (free.take n) else none

/-- Pages of the HBM stash region of a core, and those of statistics lines, sixteen lines a page (R288). -/
def State.hstashPages (s : State) (c : CoreId) : Nat := s.fld (Reg.STORE_HSTASH_SIZE c) 15 0 * 512
def Core.statPages (k : Core) : List Nat := (k.stats.filterMap (fun e => e.line.map (fun l => l.1 / 16))).eraseDups
def Core.hbmHeld (k : Core) : List Nat := k.stash.flatMap (·.hpages) ++ k.statPages

/-- The lowest n free pages of the HBM stash region, if it has them: those that an accepted copy still needs (R213) come last. -/
def State.hbmRoom (s : State) (c : CoreId) (n : Nat) : Option (List Nat) :=
  let held := (s.core c).hbmHeld
  let owed := (s.core c).stashOps.flatMap (·.hpages)
  if held.length + n ≤ s.hstashPages c then
    let free := (List.range (min (held.length + owed.length + n) (s.hstashPages c))).filter (fun p => !held.contains p)
    some ((free.filter (fun p => !owed.contains p) ++ free.filter owed.contains).take n)
  else none

/-- The virtual address of the HBM stash region (R289). -/
def State.hstashVa (s : State) (c : CoreId) : Nat :=
  s.fld (Reg.STORE_HSTASH_HI c) 24 0 * 2 ^ 32 + s.fld (Reg.STORE_HSTASH_LO c) 31 21 * 2 ^ 21

/-- The address that a copy of a context reaches for a page of the HBM stash region, redirected as R264 says. Only a recall
is made in a window there. -/
def State.stashVa (s : State) (c : CoreId) (x : CtxId) (win : Option (Fin 2)) (h : Nat) : Nat :=
  match s.specAddr (s.ctx x).part c win false (s.hstashVa c + h * 4096) with
  | .ok a => a
  | .error _ => s.hstashVa c + h * 4096

/-! ## Keys -/

def StashKey.is (e : StashKey) (x : CtxId) (layer tensor mb gen : BitVec 16) : Bool :=
  e.ctx = x && e.layer = layer && e.tensor = tensor && e.mb = mb && e.gen = gen

/-- The key of an instruction: its layer and tensor, and MB and GEN of its baton (R212). -/
def Core.findKey (k : Core) (o : Origin) (d : List W64) : Option StashKey :=
  k.stash.find? (fun e => e.is o.ctx (BitVec.ofNat 16 (wbits d 1 15 0)) (BitVec.ofNat 16 (wbits d 1 31 16)) o.mb o.gen)

/-- The key that a copy belongs to. -/
def Core.keyOf (k : Core) (uid : Nat) : Option StashKey := k.stash.find? (fun e => e.uid = uid)

def State.modKey (s : State) (c : CoreId) (uid : Nat) (f : StashKey → StashKey) : State :=
  s.modCore c (fun k => { k with stash := k.stash.map (fun e => if e.uid = uid then f e else e) })

/-- A key that a spill or a drop may choose (R285, R287). -/
def StashKey.victim (e : StashKey) (x : CtxId) : Bool := e.ctx = x && e.win.isNone && e.len != 0

/-- The key of an XSTASH is placed: the directory's youngest, in the place of an entry it had (R284). -/
def State.placeKey (s : State) (c : CoreId) (o : Origin) (d : List W64) (st : StashState) (ps hps : List Nat) : State :=
  s.modCore c (fun k =>
    let e : StashKey := {
      uid := k.stashUid, ctx := o.ctx, layer := BitVec.ofNat 16 (wbits d 1 15 0), tensor := BitVec.ofNat 16 (wbits d 1 31 16)
      mb := o.mb, gen := o.gen, state := st, len := wbits d 0 53 30, pages := ps, hpages := hps
      recomp := wbits d 0 54 54 == 1, win := o.win, org := o }
    { k with stash := k.stash.filter (fun y => !y.is e.ctx e.layer e.tensor e.mb e.gen) ++ [e], stashUid := k.stashUid + 1 })

/-- Drop a key (R284). -/
def State.dropKey (s : State) (c : CoreId) (uid : Nat) : State :=
  (s.modKey c uid (fun e => { e with state := .dropped, pages := [], hpages := [] })).bump (Reg.STORE_STASH_DROPS c) 1

/-! ## Placement (R285) -/

/-- Case 2: spill the oldest STORE keys while HBM has room, until the core store holds n pages. -/
def State.spillFor (s : State) (c : CoreId) (o : Origin) (n : Nat) : Nat → State × Option (List Nat)
  | 0 => (s, s.storeRoom c o.ctx none n)
  | fuel + 1 =>
    match s.storeRoom c o.ctx none n with
    | some ps => (s, some ps)
    | none =>
      match (s.core c).stash.find? (fun e => e.victim o.ctx && e.state = .store) with
      | none => (s, none)
      | some e =>
        match s.hbmRoom c (pagesOf e.len) with
        | none => (s, none)
        | some hps =>
          ((s.modKey c e.uid (fun e => { e with state := .moving, hpages := hps, org := o })).bump
            (Reg.STORE_STASH_SPILLS c) 1).spillFor c o n fuel

/-- Case 5: drop recomputable keys, oldest first, until `ok` answers a place; what is found. -/
def State.dropFor {α : Type} (s : State) (c : CoreId) (x : CtxId) (ok : State → Option α) : Nat → State × Option α
  | 0 => (s, ok s)
  | fuel + 1 =>
    match ok s with
    | some a => (s, some a)
    | none =>
      match (s.core c).stash.find? (fun e => e.victim x && e.recomp && (e.state = .store || e.state = .hbm)) with
      | none => (s, none)
      | some e => (s.dropKey c e.uid).dropFor c x ok fuel

/-- The copy of an XSTASH or an XRECALL of a key, as it is owed from acceptance: a recall waits for the move of its key, an XSTASH
for every spill that it required. -/
def State.copyOp (s : State) (c : CoreId) (e : StashKey) (isRecall : Bool) (d : List W64) (o : Origin) : StashOp where
  uid := e.uid
  isRecall := isRecall
  off := wbits d 0 29 0
  len := wbits d 0 53 30
  org := o
  keyLen := e.len
  pages := if e.state = .store then e.pages else []
  hpages := e.hpages
  src := e.hpages.map (s.stashVa c o.ctx (if isRecall then o.win else none))
  waits := ((s.core c).stash.filter (fun v => v.state = .moving && (if isRecall then v.uid == e.uid else v.org == o))).map (·.uid)

def State.oweCopy (s : State) (c : CoreId) (uid : Nat) (isRecall : Bool) (d : List W64) (o : Origin) : State :=
  match (s.core c).keyOf uid with
  | some e => s.modCore c (fun k => { k with stashOps := k.stashOps ++ [s.copyOp c e isRecall d o] })
  | none => s

/-- Place the tensor of an XSTASH that is not speculative; none where it stalls. -/
def State.placeStash (s : State) (c : CoreId) (o : Origin) (d : List W64) : Option State :=
  let n := pagesOf (wbits d 0 53 30)
  let fuel := (s.core c).stash.length
  let uid := (s.core c).stashUid
  let put (s : State) (st : StashState) (ps hps : List Nat) : State :=
    (s.placeKey c o d st ps hps).oweCopy c uid false d o
  let r := s.spillFor c o n fuel
  match r.2 with
  | some ps => some (put r.1 .store ps [])
  | none =>
    match r.1.hbmRoom c n with
    | some hps => some (put r.1 .hbm [] hps)
    | none =>
      if wbits d 0 54 54 = 1 then
        some (((r.1.placeKey c o d .dropped [] []).bump (Reg.STORE_STASH_DROPS c) 1).completeStash o)
      else
        let e := r.1.dropFor c o.ctx (fun s => match s.storeRoom c o.ctx none n with
          | some ps => some (true, ps)
          | none => (s.hbmRoom c n).map (fun hps => (false, hps))) fuel
        match e.2 with
        | some (true, ps) => some (put e.1 .store ps [])
        | some (false, hps) => some (put e.1 .hbm [] hps)
        | none => none

/-- Case 5 leaves its drops where even they do not make room: the state of a placement that stalls. -/
def State.afterFailedPlace (s : State) (c : CoreId) (o : Origin) (d : List W64) : State :=
  let n := pagesOf (wbits d 0 53 30)
  let fuel := (s.core c).stash.length
  let r := s.spillFor c o n fuel
  (r.1.dropFor c o.ctx (fun s => match s.storeRoom c o.ctx none n with
    | some _ => some () | none => (s.hbmRoom c n).map (fun _ => ())) fuel).1

/-! ## Copies (R283, R284) -/

/-- Bytes of a tensor in its core-store pages, in order; and written there. -/
def pageBytes (m : Mem) (ps : List Nat) (n : Nat) : List Byte := (ps.flatMap (fun p => Mem.bytes m (p * 4096) 4096)).take n
def putPages (m : Mem) : List Nat → List Byte → Mem
  | [], _ => m
  | p :: t, bs => putPages (Mem.setBytes m (p * 4096) (bs.take 4096)) t (bs.drop 4096)

/-- Write a tensor to pages of the HBM stash region at their addresses, or read it: the first address refused, if any (R283). -/
def State.hbmPut (s : State) (c : CoreId) (p : CoreId) : List Nat → List Byte → State × Option Nat
  | [], _ => (s, none)
  | va :: t, bs =>
    let r := s.devWrite (.core c) p va (bs.take 4096) unitStr
    match r.2 with
    | some a => (r.1, some a)
    | none => State.hbmPut r.1 c p t (bs.drop 4096)
def State.hbmGet (s : State) (c : CoreId) (p : CoreId) : List Nat → Nat → State × Except Nat (List Byte)
  | [], _ => (s, .ok [])
  | va :: t, n =>
    let r := s.devRead (.core c) p va (min n 4096)
    match r.2 with
    | .error a => (r.1, .error a)
    | .ok bs =>
      let u := State.hbmGet r.1 c p t (n - 4096)
      (u.1, match u.2 with | .ok cs => .ok (bs ++ cs) | e => e)

/-- A page is still on its way out of a key older than a given one. -/
def Core.pagesBusy (k : Core) (uid : Nat) (ps : List Nat) : Bool :=
  k.stash.any (fun v => v.state = .moving && v.uid < uid && v.pages.any ps.contains)

/-- A key is MOVING. -/
def Core.isMoving (k : Core) (uid : Nat) : Bool := k.stash.any (fun v => v.state = .moving && v.uid = uid)

/-- The move of a key is written (R284): its core-store pages are free; an address refused faults the instruction that caused it. -/
def State.writeMove (s : State) (c : CoreId) (e : StashKey) : State :=
  let k := s.core c
  let r := s.hbmPut c (s.ctx e.ctx).part (e.hpages.map (s.stashVa c e.ctx none)) (pageBytes k.store e.pages (e.len * 64))
  let t := r.1.modCore c (fun k => { k with stashTags := k.stashTags.filter (fun t => t.1 != e.uid) })
  match r.2 with
  | some va => t.seqFault e.org .strPerm [.word va]
  | none => t.modKey c e.uid (fun e => { e with state := .hbm, pages := [] })

/-- Before the pages of a MOVING key are freed, its move is written if a recall of it is owed (R213). -/
def State.settleMove (s : State) (c : CoreId) (e : StashKey) : State :=
  if e.state = .moving && (s.core c).stashOps.any (fun a => a.isRecall && a.uid = e.uid) then s.writeMove c e else s

/-- The old pages of a key that an XSTASH stashes again are freed first (R284). -/
def State.freeOld (s : State) (c : CoreId) (o : Origin) (d : List W64) : State :=
  match (s.core c).findKey o d with
  | some e =>
    if e.pages.isEmpty && e.hpages.isEmpty && e.state = .dropped then s
    else ((s.settleMove c e).modKey c e.uid (fun e => { e with state := .dropped, pages := [], hpages := [] })).stashFreed c
  | none => s

/-- Whether the directory has an entry for the key (R284). -/
def State.keyRoom (s : State) (c : CoreId) (o : Origin) (d : List W64) : Bool :=
  ((s.core c).findKey o d).isSome || decide ((s.core c).stash.length < 8192)

/-- Placement of an XSTASH (R285, R287): the state after, and whether it is placed. -/
def State.stashPlace (s : State) (c : CoreId) (o : Origin) (d : List W64) : State × Bool :=
  let s := s.freeOld c o d
  if !s.keyRoom c o d then (s, false)
  else if wbits d 0 53 30 = 0 then ((s.placeKey c o d .store [] []).completeStash o, true)
  else match o.win with
    | some _ =>
      match s.storeRoom c o.ctx o.win (pagesOf (wbits d 0 53 30)) with
      | some ps => ((s.placeKey c o d .store ps []).oweCopy c (s.core c).stashUid false d o, true)
      | none => (s, false)
    | none =>
      match s.placeStash c o d with
      | some t => (t, true)
      | none => (s.afterFailedPlace c o d, false)

/-- EXHAUST_MS in ns. -/
def State.exhaustNs (s : State) (c : CoreId) : Nat := s.fld (Reg.STORE_STASH c) 31 16 * 1000000

/-- XSTASH (R212, R285, R286): placed and accepted, or stalled at issue. -/
def execXstash (c : CoreId) (q : SeqId) (w : EF) (s : State) : Out :=
  s.issueE c q w (q != .F || w.xf != 0) (fun s x => s.withDesc c q w.sd w.doff.toNat 16 (fun d =>
    let o := s.originE c q x w.hv w.hid w.sb
    if !zeroBits d [(0, 63, 55), (1, 63, 32)] then .fault .xIllegal []
    else if wbits d 0 53 30 != 0 && wbits d 0 29 0 % 64 != 0 then .fault .xAlign []
    else match s.access c q o.win .read (wbits d 0 29 0) (wbits d 0 53 30 * 64) with
      | .error e => .fault e []
      | .ok a =>
        let r := s.stashPlace c o (putOff d 0 0 a)
        if r.2 then .retire ((r.1.modCore c (fun k => { k with stallAt := none })).accepted c q)
        else if s.exhaustNs c = 0 then .fault .xStashExhausted []
        else if (s.seq c q).stalled then .wait r.1
        else .wait (((r.1.raiseRec .xStashFull false ⟨some x, some c, some q⟩ 0 []).modSeq c q (fun z =>
          { z with stalled := true })).modCore c (fun k => { k with stallAt := some r.1.ptb }))))

/-- XRECALL (R213): p[D] says whether the key is present; a present one's copy is owed. -/
def execXrecall (c : CoreId) (q : SeqId) (w : EF) (s : State) : Out :=
  s.issueE c q w (q != .B || w.xf.toNat / 8 != 0) (fun s x => s.withDesc c q w.sd w.doff.toNat 16 (fun d =>
    let o := s.originE c q x w.hv w.hid w.sb
    let pd : BitVec 3 := w.xf.setWidth 3
    if !zeroBits d [(0, 63, 54), (1, 63, 32)] then .fault .xIllegal []
    else if wbits d 0 53 30 != 0 && wbits d 0 29 0 % 64 != 0 then .fault .xAlign []
    else match s.access c q o.win .write (wbits d 0 29 0) (wbits d 0 53 30 * 64) with
      | .error e => .fault e []
      | .ok a =>
        let d := putOff d 0 0 a
        let s := s.accepted c q
        match (s.core c).findKey o d with
        | some e =>
          if e.state = .dropped then .retire ((s.modSeq c q (fun z => z.wp pd false)).completeStash o)
          else
            let s := s.modSeq c q (fun z => z.wp pd true)
            if e.len = 0 && wbits d 0 53 30 = 0 then .retire (s.completeStash o)
            else .retire (s.oweCopy c e.uid true d o)
        | none => .retire ((s.modSeq c q (fun z => z.wp pd false)).completeStash o)))

/-- XFREE (R214): the key's pages, its entry and its reference are released. -/
def execXfree (c : CoreId) (q : SeqId) (w : EF) (s : State) : Out :=
  s.issueE c q w (q != .B || w.xf != 0) (fun s x => s.withDesc c q w.sd w.doff.toNat 16 (fun d =>
    let o := s.originE c q x w.hv w.hid w.sb
    if !zeroBits d [(0, 63, 55), (1, 63, 32)] then .fault .xIllegal []
    else
      let s := s.accepted c q
      match (s.core c).findKey o d with
      | some e =>
        .retire ((((s.settleMove c e).modCore c (fun k => { k with stash := k.stash.filter (fun y => y.uid != e.uid) })).stashFreed c).completeStash o)
      | none => .retire (s.completeStash o)))

/-! ## The copies themselves -/

/-- The HBM copy under way on a core (R283): of the oldest MOVING key, else of the oldest copy owed: its key and context, the
addresses of its pages, whether it writes them, and its length in bytes. -/
def State.hbmCopy (s : State) (c : CoreId) : Option (Nat × CtxId × List Nat × Bool × Nat) :=
  let k := s.core c
  match k.stash.find? (fun e => e.state = .moving) with
  | some e => some (e.uid, e.ctx, e.hpages.map (s.stashVa c e.ctx none), true, e.len * 64)
  | none => k.stashOps.head?.bind (fun a => if a.src.isEmpty then none else some (a.uid, a.org.ctx, a.src, !a.isRecall, a.len * 64))

/-- Where line i of an HBM copy lies. -/
def State.copyLine (s : State) (c : CoreId) (x : CtxId) (vas : List Nat) (write : Bool) (i : Nat) : State × Option Place :=
  let t := s.translate (.core c) (s.ctx x).part ((vas[i / 16]?).getD 0 + i % 16 * 256) write
  (t.1, match t.2 with | .at_ pl _ => some pl | _ => none)

/-- The next line of the HBM copy under way takes a tag of the stream engine, if its quotas let it (R230, R283). -/
def State.grantCopy (s : State) (c : CoreId) : State :=
  match s.hbmCopy c with
  | none => s
  | some (uid, x, vas, write, n) =>
    let i := ((s.core c).copyTags.filter (fun t => t.1 = uid)).length
    if n ≤ i * 256 then s else
    let t := s.copyLine c x vas write i
    match t.2 with
    | some pl => if t.1.tagHeld c false pl then t.1 else t.1.modCore c (fun k => { k with stashTags := k.copyTags ++ [(uid, pl)] })
    | none => t.1

/-- A request of a slot, in rotation, receives a tag; with none, a line of a stash copy (R229, R230, R283). -/
def execLineTagGrant (c : CoreId) (gth : Bool) (s : State) : Out :=
  if s.strHeld c then .next s else
  .next (s.grantFirst c gth (fun s => if gth then s else s.grantCopy c)
    (rotation (slotCount gth) (if gth then (s.core c).gthTagRot else (s.core c).strTagRot)))

/-- A line of an HBM copy is held by a quota of R230, the tags of the copy itself apart. -/
def State.copyHeld (s : State) (c : CoreId) (uid : Nat) (x : CtxId) (vas : List Nat) (write : Bool) (n : Nat) : Bool :=
  let s := s.modCore c (fun k => { k with stashTags := k.stashTags.filter (fun t => t.1 != uid) })
  (List.range ((n + 255) / 256)).any (fun i => match (s.copyLine c x vas write i).2 with | some pl => s.tagHeld c false pl | none => false)

/-- A copy still has its tensor to move: a recall always (R213), that of an XSTASH while its key has pages or a recall owed
after it wants them. -/
def Core.copyWanted (k : Core) (a : StashOp) : Bool :=
  a.isRecall || (match k.keyOf a.uid with | some e => e.state != .dropped | none => false)
    || k.stashOps.any (fun b => b.isRecall && b.uid = a.uid)

/-- The bytes of a copy are written: between the core store and its pages, or the HBM stash region; or the address refused. -/
def State.runCopy (s : State) (c : CoreId) (a : StashOp) : State × Option Nat :=
  let p := (s.ctx a.org.ctx).part
  let n := a.len * 64
  if a.src.isEmpty then
    (s.modStore c (fun m =>
      if a.isRecall then Mem.setBytes m a.off (pageBytes m a.pages n) else putPages m a.pages (Mem.bytes m a.off n)), none)
  else if a.isRecall then
    let r := s.hbmGet c p a.src n
    match r.2 with
    | .error va => (r.1, some va)
    | .ok bs => (r.1.modStore c (fun m => Mem.setBytes m a.off bs), none)
  else s.hbmPut c p a.src (Mem.bytes (s.core c).store a.off n)

/-- The oldest copy of the stash is written (R283): it completes its instruction. A copy waits for the spills that it needs (R284,
R285), while its pages are still being spilled, and while a quota of R230 holds one of its lines. -/
def execStashCopyComplete (c : CoreId) (s : State) : Out :=
  let k := s.core c
  match k.stashOps with
  | [] => .next s
  | a :: t =>
    let s' := s.modCore c (fun k => { k with stashOps := t, stashTags := k.stashTags.filter (fun y => y.1 != a.uid) })
    if a.isRecall && a.len != a.keyLen then .next ((s'.seqFault a.org .xIllegal []).freeEnded a.org.ctx)
    else if !k.copyWanted a then .next ((s'.completeStash a.org).freeEnded a.org.ctx)
    else if a.waits.any k.isMoving || k.pagesBusy a.uid a.pages || s.copyHeld c a.uid a.org.ctx a.src (!a.isRecall) (if a.src.isEmpty then 0 else a.len * 64)
    then .next s
    else
      let r := s'.runCopy c a
      match r.2 with
      | some va => .next ((r.1.seqFault a.org .strPerm [.word va]).freeEnded a.org.ctx)
      | none => .next ((r.1.completeStash a.org).freeEnded a.org.ctx)

/-- The copy of the oldest MOVING key is written (R284): its store pages are free. It waits for the key's own copy, for copies of
other keys that still need its HBM pages (R213), and for the quotas of R230. -/
def execStashSpillComplete (c : CoreId) (s : State) : Out :=
  let k := s.core c
  match k.stash.find? (fun e => e.state = .moving) with
  | none => .next s
  | some e =>
    if k.stashOps.any (fun a => if a.uid = e.uid then !a.isRecall else a.hpages.any e.hpages.contains) || k.pagesBusy e.uid e.pages
      || s.copyHeld c e.uid e.ctx (e.hpages.map (s.stashVa c e.ctx none)) true (e.len * 64) then .next s
    else .next (s.writeMove c e)

/-- EXHAUST_MS has passed since the stall timer last started (R286): the stalled XSTASH, or the row-engine command that
waits for a statistics line (R288), faults. -/
def execStashStallTimeout (c : CoreId) (row : Bool) (t : W64) (s : State) : Out :=
  let k := s.core c
  match (if row then k.rowStallAt else k.stallAt) with
  | none => .next s
  | some a =>
    if t.toNat < a.toNat + s.exhaustNs c then .next s else
    let s := s.atTime t
    if row then
      match k.rowQ with
      | r :: u => .next ((s.modCore c (fun k => { k with rowQ := u, rowStallAt := none })).seqFault r.org .xStashExhausted [])
      | [] => .next (s.modCore c (fun k => { k with rowStallAt := none }))
    else
      let z := s.seq c .F
      match k.ctx with
      | some x =>
        if z.stalled then
          .next (((s.modSeq c .F (fun z => { z with stalled := false })).modCore c (fun k => { k with stallAt := none })).seqFault (s.origin c .F x) .xStashExhausted [])
        else .next (s.modCore c (fun k => { k with stallAt := none }))
      | none => .next (s.modCore c (fun k => { k with stallAt := none }))

end Sys2Proof.Machine
end

