-- ==== Sys2Proof/Machine/UClass.lean ====
section
/-! DEFINITION. The U class (R216, R295 to R309): hand-off of gradients, sign export, application of codes, publication of
compute copies and the verdict. The accesses of an instruction itself are made in one step; its relay command runs on the
core's relay engine. -/

namespace Sys2Proof.Machine
open Sys2Proof

/-! ## Completion (R129, R216, R390) -/

def unitSeqU : Nat := 2

/-- A USIGN, UAPPLY or UPUB completes: its arrival, and its vector to the partition's VF. -/
def State.uDone (s : State) (o : Origin) : State :=
  ((s.complete o unitSeqU).sendVector (vfOf (s.ctx o.ctx).part) (65 + o.core)).freeEnded o.ctx

/-- A refused access of an instruction of SEQ-U (R216). -/
def State.uPerm (s : State) (o : Origin) (va : Nat) : State := s.seqFault o .strPerm [.word va]

/-- Put an instruction that waits on the core's list. -/
def State.addU (s : State) (c : CoreId) (u : UOp) : State := s.modCore c (fun k => { k with uops := k.uops ++ [u] })
def State.dropU (s : State) (c : CoreId) (relay : Nat) : State :=
  s.modCore c (fun k => { k with uops := k.uops.filter (fun u => u.relay != relay) })

/-- Hand an internal command to the relay engine, with its instruction waiting for it. Without a valid entry it aborts at
once with REFUSED (R344). -/
def State.relIssue (s : State) (c : CoreId) (k : RelCmd) (u : UOp) : State :=
  let id := (s.rel c).next
  let s := s.addU c { u with relay := id }
  if s.relValid c k.ctx then s.relAccept c k
  else (s.modRel c (fun r => { r with next := r.next + 1 })).relAbortEvent c { k with id := id } relRefused

/-- The words of a record, from bytes. -/
def recWord (bs : List Byte) (i : Nat) : Nat := leNat ((bs.drop (8 * i)).take 8)
def recBits (bs : List Byte) (i hi lo : Nat) : Nat := bitsOf (recWord bs i) hi lo
/-! ## USIGN (R297 to R301) -/

/-- The sign plane of a shard: bit i is 1 when element i is less than zero (R298). -/
def signPlane (vs : List W32) (bytes : Nat) : List Byte :=
  (List.range bytes).map (fun b => BitVec.ofNat 8 (((List.range 8).map (fun i =>
    match vs[8 * b + i]? with
    | some v => (match f32 v with
      | .nan => 0
      | .inf n => if n then 2 ^ i else 0
      | .fin n m _ => if n && m != 0 then 2 ^ i else 0)
    | none => 0)).sum))
/-- NaNs and infinities of a list. -/
def nonFinite (vs : List W32) : Nat := (vs.filter (fun v => match f32 v with | .fin .. => false | _ => true)).length

/-- The next export of a context on this package: its SEQ. -/
def State.nextExport (s : State) (x : CtxId) : State × W32 :=
  let n := (s.ctx x).exports + 1
  (s.modCtx x (fun k => { k with exports := n }), n)

/-- Reserved fields of a USIGN descriptor. -/
def usignZero (d : List W64) : Bool :=
  zeroBits d [(0, 61, 48), (1, 63, 57), (2, 63, 32), (3, 63, 16), (4, 63, 57), (5, 63, 0), (6, 63, 0), (7, 63, 0)]

/-- A PLANE export, from its acceptance: the plane, then the header; or the address that faults it. -/
def State.exportPlane (s : State) (o : Origin) (d : List W64) (base : Nat) : Except Nat State :=
  let c := o.core
  let p := (s.ctx o.ctx).part
  let dims := BitVec.ofNat 16 (wbits d 3 15 0)
  let ranks := 2 ^ (dimsOf dims).length
  let count := wbits d 0 31 0
  let r := rankOf s.pkg dims
  let layer := wbits d 0 47 32
  let len := shardLen count ranks r
  let dst := wbits d 1 56 0
  let sent := s.fld (Reg.ARR_SENTINEL c) 2 2
  let e := (s.setFld (Reg.ARR_SENTINEL c) 2 2 0).nextExport o.ctx
  let m := e.1.devRead (.core c) p (wbits d 4 56 0 + layer / 8) 1
  match m.2 with
  | .error va => .error va
  | .ok mask =>
    let frozen := bit (leNat mask) (layer % 8)
    let src := if frozen then (m.1, .ok []) else m.1.devRead (.core c) p base (len * 4)
    match src.2 with
    | .error va => .error va
    | .ok bs =>
      let vs := toWords bs.length bs
      let nonfin := nonFinite vs
      let pl := if frozen then (src.1, none) else src.1.devWrite (.core c) p (dst + 256) (signPlane vs (shardSize count ranks / 8)) unitSeqU
      match pl.2 with
      | some va => .error va
      | none =>
        let s := if sent != 0 || nonfin != 0 then pl.1.modCtx o.ctx (fun k => { k with stepSent := true }) else pl.1
        let hdr := [2 ^ 56 + (if frozen then 2 ^ 55 else 0) + sent * 2 ^ 54 + layer * 2 ^ 32 + len,
          s.pkg.toNat * 2 ^ 48 + r * 2 ^ 32 + wbits d 2 31 0, nonfin, e.2.toNat, 0, 0, 0, 0]
        let h := s.devWrite (.core c) p dst (wordBytes hdr) unitSeqU
        match h.2 with
        | some va => .error va
        | none => .ok (h.1.uDone o)

/-- USIGN with KIND PLANE; a reserved KIND faults. -/
def execUsignPlane (c : CoreId) (q : SeqId) (w : EA) (s : State) : Out :=
  s.issueEA c q w (q != .U || w.xf != 0) (fun s x => s.withDesc c q w.sd w.doff.toNat 64 (fun d =>
    let o := s.originE c q x w.hv w.hid w.sb
    if wbits d 0 63 62 = 1 then .wait s
    else if 2 ≤ wbits d 0 63 62 || !usignZero d then .fault .xIllegal []
    else if wbits d 0 31 0 = 0 then .retire ((s.uDone o).accepted c q)
    else if wbits d 1 56 0 % 256 != 0 || wbits d 4 56 0 % 256 != 0 then .fault .xAlign []
    else match s.exportPlane o d ((s.seq c q).ra w.ar).toNat with
      | .error va => .fault .strPerm [.word va]
      | .ok t => .retire (t.accepted c q)))

/-- The STEP header, from the norm tree's result. -/
def State.stepHeader (s : State) (u : UOp) (v : W64) (any : Bool) : State :=
  let o := u.org
  let hdr := [2 * 2 ^ 56 + (if any then 2 ^ 54 else 0), s.pkg.toNat * 2 ^ 48 + wbits u.desc 2 31 0, v.toNat, u.seq.toNat, 0, 0, 0, 0]
  let h := s.devWrite (.core o.core) (s.ctx o.ctx).part (wbits u.desc 1 56 0) (wordBytes hdr) unitSeqU
  match h.2 with
  | some va => h.1.uPerm o va
  | none => h.1.uDone o

/-! ## The generation table (R291, R292) -/

def Core.gen (k : Core) (x : CtxId) (layer : Nat) : Option GenEntry := k.gens.find? (fun e => e.ctx = x && e.layer.toNat = layer)
def State.setGen (s : State) (c : CoreId) (e : GenEntry) : State :=
  s.modCore c (fun k => { k with gens := k.gens.map (fun g => if g.ix = e.ix then e else g) })

/-! ## Publication (R308) -/

/-- Fields of a UAPPLY or UPUB descriptor (R306, R309). -/
def uFmt (d : List W64) : Nat := wbits d 0 58 56
def uBlk (d : List W64) : Nat := blockSize (wbits d 0 55 54)
def uLayer (d : List W64) : Nat := wbits d 0 47 32
def uCount (d : List W64) : Nat := wbits d 0 31 0
def uK (d : List W64) : Nat := wbits d 1 31 0
def uDims (d : List W64) : BitVec 16 := BitVec.ofNat 16 (wbits d 1 47 32)
def uStep (d : List W64) : Nat := wbits d 4 63 32
/-- Where the masters, the compute copy and the scales of a slot lie. -/
def uMaster (d : List W64) (base t : Nat) : Nat := base + t * wbits d 2 31 0 * 65536
def uCopy (d : List W64) (t : Nat) : Nat := wbits d 3 56 0 + t * wbits d 4 31 0 * 65536
def uScaleSpan (d : List W64) : Nat := (uCount d / uBlk d + 65535) / 65536 * 65536
def uScale (d : List W64) (t : Nat) : Nat := wbits d 5 56 0 + t * 2 * uScaleSpan d

/-- The issue checks of R306. -/
def uShapeOk (d : List W64) : Bool :=
  (uFmt d = 3 || uFmt d = 4) && uK d != 0 && uK d % 128 = 0 && uCount d % uK d = 0 && uCount d / uK d % uBlk d = 0

/-- Value of a list of words, or zero beyond it. -/
def wordAt32 (vs : List W32) (i : Nat) : W32 := (vs[i]?).getD 0

/-- The scale of a tile: parameter p = n × K + k, for its BLK × BLK values (R100, R308). -/
def tileScale (f : Fmt) (k blk : Nat) (vs : List W32) (kb nb : Nat) : Nat :=
  chooseScale f ((List.range blk).flatMap (fun j => (List.range blk).map (fun i =>
    f32 (wordAt32 vs ((nb * blk + j) * k + kb * blk + i)))))

/-- Write the compute copy of a slot and its scales; the counts are of the WGT class. -/
def State.publish (s : State) (o : Origin) (d : List W64) (base t : Nat) (sr : Bool) : State × Option Nat :=
  let c := o.core
  let p := (s.ctx o.ctx).part
  let r := s.devRead (.core c) p (uMaster d base t) (uCount d * 4)
  match r.2 with
  | .error va => (r.1, some va)
  | .ok bs =>
    let vs := toWords bs.length bs
    let k := uK d
    let n := uCount d / k
    let blk := uBlk d
    let f := if uFmt d = 3 then e4m3 else e5m2
    let scales : List (List Nat) := (List.range (n / blk)).map (fun nb => (List.range (k / blk)).map (fun kb => tileScale f k blk vs kb nb))
    let scaleOf (nb kb : Nat) : Nat := (((scales[nb]?).getD [])[kb]?).getD 0
    let pos : DrawPos := ⟨3, uLayer d, 0, 0, uStep d, s.seedOf o.ctx⟩
    let es := (List.range (uCount d)).map (fun i =>
      f.narrowScaled (if sr then .draw (drawOf pos i) else .rne) (scaleOf (i / k / blk) (i % k / blk)) (f32 (wordAt32 vs i)))
    let fwd := (List.range n).flatMap (fun j => (List.range (k / blk)).map (fun kb => BitVec.ofNat 8 (scaleOf (j / blk) kb)))
    let bwd := (List.range (n / blk)).flatMap (fun nb => (List.range k).map (fun i => BitVec.ofNat 8 (scaleOf nb (i / blk))))
    let a := r.1.devWrite (.core c) p (uCopy d t) (es.map (fun e => BitVec.ofNat 8 e.bits)) unitSeqU
    match a.2 with
    | some va => (a.1, some va)
    | none =>
      let b := a.1.devWrite (.core c) p (uScale d t) fwd unitSeqU
      match b.2 with
      | some va => (b.1, some va)
      | none =>
        let e := b.1.devWrite (.core c) p (uScale d t + uScaleSpan d) bwd unitSeqU
        match e.2 with
        | some va => (e.1, some va)
        | none => (e.1.countConv c none 1 (es.filter (·.sat)).length (es.filter (·.nonfin)).length (es.filter (·.under)).length, none)

/-! ## UAPPLY (R121, R122, R304 to R307) -/

/-- The new master of a parameter: its bits, and whether it saturated or was not finite (R122). -/
def applyCode (mode stepM stepE code : Nat) (draw : Nat) (w : W32) : W32 × Bool × Bool :=
  match f32 w with
  | .fin neg m e =>
    if code = 0 then (w, false, false) else
    let se : Int := (stepE : Int) - 142
    let half : Int := max (e + (Nat.log2 m : Int)) (-126) - 24
    let small := !leDyadic 1 half stepM se
    let step : FVal := .fin (code = 3) stepM se
    let v := (FVal.fin neg m e).add step
    match v with
    | .fin _ 0 _ => (0, false, false)
    | v =>
      let r := fp32.narrow (if mode = 2 || (mode = 1 && small) then .draw draw else .rne) v
      (BitVec.ofNat 32 r.bits, r.sat, false)
  | _ => (w, false, true)

/-- The code of a shard element in its plane (R304). -/
def codeAt (plane : List Byte) (i : Nat) : Nat := ((plane[i / 4]?).getD 0).toNat / 4 ^ (i % 4) % 4

/-- UAPPLY's record of a shard: its header and plane. -/
def uRecord (d : List W64) : Nat := 256 + shardSize (uCount d) (2 ^ (dimsOf (uDims d)).length) / 4

/-- The checks of step 3 of R307 on the gathered records, and the verdict of step 4 with whether the records disagree. -/
def checkRecords (d : List W64) (rs : List (List Byte)) : Except EvName (Nat × Bool) :=
  match rs.head? with
  | none => .error .uCodeHeader
  | some a =>
    let same (f : List Byte → Nat) : Bool := rs.all (fun r => f r = f a)
    let ranks := rs.length
    if !same (fun r => recBits r 2 15 0) || !same (fun r => recBits r 2 23 16) || !same (fun r => recBits r 0 53 52)
        || !same (fun r => recBits r 0 55 55) || rs.any (fun r => recBits r 3 1 0 = 3) then .error .uCodeHeader
    else if rs.zipIdx.any (fun r => (List.range (shardLen (uCount d) ranks r.2)).any (fun i => codeAt (r.1.drop 256) i = 2)) then
      .error .uCodeReserved
    else if 0xFE ≤ recBits a 2 23 16 || recBits a 0 53 52 = 3 then .error .uStepScale
    else if same (fun r => recBits r 3 1 0) then .ok (recBits a 3 1 0, false) else .ok (2, true)

/-- The gathered records of a UAPPLY, by rank. -/
def State.readRecords (s : State) (u : UOp) : Nat → Nat → State × Except Nat (List (List Byte))
  | 0, _ => (s, .ok [])
  | n + 1, t =>
    let r := s.devRead (.core u.org.core) (s.ctx u.org.ctx).part (wbits u.desc 7 56 0 + t * uRecord u.desc) (uRecord u.desc)
    match r.2 with
    | .error va => (r.1, .error va)
    | .ok bs =>
      let q := r.1.readRecords u n (t + 1)
      (q.1, match q.2 with | .ok l => .ok (bs :: l) | .error va => .error va)

/-- UAPPLY once its codes are gathered: checked, and complete on REJECT; otherwise it waits to write. -/
def State.codesGathered (s : State) (u : UOp) : State :=
  let o := u.org
  let s := s.dropU o.core u.relay
  let r := s.readRecords u (2 ^ (dimsOf (uDims u.desc)).length) 0
  match r.2 with
  | .error va => r.1.uPerm o va
  | .ok rs =>
    match checkRecords u.desc rs with
    | .error e => r.1.seqFault o e []
    | .ok (v, split) =>
      let s := if split then r.1.raiseRec .uVerdictSplit false ⟨some o.ctx, some o.core, some o.seq⟩ 0 [] else r.1
      if v = 2 then s.uDone o else s.addU o.core { u with checked := some (v, rs) }

/-- UAPPLY writes (steps 5 to 7 of R307): every new master in slot (CUR + 1) mod 2, the compute copy with PUBLISH, and the
table entry. -/
def State.applyWrite (s : State) (u : UOp) (e : GenEntry) (verdict : Nat) (rs : List (List Byte)) : State :=
  let o := u.org
  let c := o.core
  let d := u.desc
  let p := (s.ctx o.ctx).part
  let s := s.dropU c u.relay
  let old := e.cur.toNat % 2
  let new := (e.cur.toNat + 1) % 2
  let m := s.devRead (.core c) p (uMaster d u.base old) (uCount d * 4)
  match m.2 with
  | .error va => m.1.uPerm o va
  | .ok bs =>
    let vs := toWords bs.length bs
    let hdr := (rs.head?).getD []
    let size := shardSize (uCount d) rs.length
    let pos : DrawPos := ⟨2, uLayer d, 0, 0, uStep d, s.seedOf o.ctx⟩
    let ns := (List.range (uCount d)).map (fun i =>
      applyCode (recBits hdr 0 53 52) (recBits hdr 2 15 0) (recBits hdr 2 23 16)
        (codeAt (((rs[i / size]?).getD []).drop 256) (i % size)) (drawOf pos i) (wordAt32 vs i))
    let w := m.1.devWrite (.core c) p (uMaster d u.base new) (ofWords (ns.map (·.1))) unitSeqU
    match w.2 with
    | some va => w.1.uPerm o va
    | none =>
      let s := w.1.countConv c none 1 (ns.filter (·.2.1)).length (ns.filter (·.2.2)).length 0
      let b := if u.publish then s.publish o d u.base new (recBits hdr 0 55 55 = 1) else (s, none)
      match b.2 with
      | some va => b.1.uPerm o va
      | none => (b.1.setGen c (if verdict = 0 then { e with prov := true } else { e with cur := e.cur + 1 })).uDone o

/-- The oldest UAPPLY of a core that has its verdict writes, once its slot is referenced by no key (R293). -/
def execUapplyWrite (c : CoreId) (s : State) : Out :=
  match (s.core c).uops.find? (fun u => u.checked.isSome) with
  | none => .next s
  | some u =>
    match u.checked, (s.core c).gen u.org.ctx (uLayer u.desc) with
    | some (v, rs), some e =>
      if e.prov then .next ((s.dropU c u.relay).seqFault u.org .uGenState [])
      else if (s.core c).genRefs e ((e.cur + 1).toNat % 2) != 0 then
        if u.stallRaised then .next s
        else
          let s := s.raiseRec .uGenStall false ⟨some u.org.ctx, some c, some u.org.seq⟩ 0 []
          .next (s.modCore c (fun k => { k with uops := k.uops.map (fun z => if z.relay = u.relay then { z with stallRaised := true } else z) }))
      else .next (s.applyWrite u e v rs)
    | _, _ => .next ((s.dropU c u.relay).seqFault u.org .uGenState [])

/-! ## UPUB (R309) -/

/-- Reserved fields of a UPUB descriptor in the modes INIT and PUBLISH, and in VERDICT. -/
def upubZero (d : List W64) (verdict : Bool) : Bool :=
  zeroBits d [(0, 60, 59), (0, 53, 48), (2, 63, 32), (3, 63, 57), (5, 63, 57)]
    && (if verdict then zeroBits d [(0, 61, 61), (6, 63, 57), (7, 63, 30)] else zeroBits d [(6, 63, 0), (7, 63, 0)])

/-- The instruction's own part of UPUB: its mode, its descriptor and the checks of R306; then the body. -/
def State.upub (s : State) (c : CoreId) (q : SeqId) (w : EA) (mode : Nat) (body : State → CtxId → Origin → List W64 → Issued) : Out :=
  s.issueEA c q w (q != .U || w.xf != 0) (fun s x => s.withDesc c q w.sd w.doff.toNat 64 (fun d =>
    let m := wbits d 0 63 62
    if m = 3 then .fault .xIllegal []
    else if m != mode then .wait s
    else if !upubZero d (m = 2) then .fault .xIllegal []
    else body s x (s.originE c q x w.hv w.hid w.sb) d))

/-- The lowest free entry of a generation table. -/
def Core.genRoom (k : Core) : Option Nat := (List.range 256).find? (fun i => !k.gens.any (fun e => e.ix = i))

def execUpubInit (c : CoreId) (q : SeqId) (w : EA) (s : State) : Out :=
  s.upub c q w 0 (fun s x o d =>
    if uCount d = 0 then .retire ((s.uDone o).accepted c q)
    else if !uShapeOk d then .fault .xIllegal []
    else
      let k := s.core c
      let g : BitVec 16 := BitVec.ofNat 16 (wbits d 1 63 48)
      let entry : Option GenEntry :=
        match k.gen x (uLayer d) with
        | some e => if e.prov || k.genRefs e 0 != 0 || k.genRefs e 1 != 0 then none else some { e with cur := g }
        | none => k.genRoom.map (fun i => ⟨i, x, BitVec.ofNat 16 (uLayer d), g, false, false⟩)
      match entry with
      | none => .fault .uGenState []
      | some e =>
        let r := s.publish o d ((s.seq c q).ra w.ar).toNat (g.toNat % 2) (wbits d 0 61 61 = 1)
        match r.2 with
        | some va => .fault .strPerm [.word va]
        | none =>
          let s := r.1.modCore c (fun k => { k with gens := k.gens.filter (fun f => f.ix != e.ix) ++ [e] })
          .retire ((s.uDone o).accepted c q))

/-- UPUB in mode PUBLISH: it stalls while both generations are referenced (R216). -/
def execUpubPublish (c : CoreId) (q : SeqId) (w : EA) (s : State) : Out :=
  s.upub c q w 1 (fun s x o d =>
    if uCount d = 0 then .retire ((s.uDone o).accepted c q)
    else if !uShapeOk d then .fault .xIllegal []
    else match (s.core c).gen x (uLayer d) with
      | none => .fault .uGenState []
      | some e =>
        if (s.core c).genRefs e 0 != 0 && (s.core c).genRefs e 1 != 0 then
          .wait (if (s.seq c q).genStall then s
            else (s.raiseRec .uGenStall false ⟨some x, some c, some q⟩ 0 []).modSeq c q (fun z => { z with genStall := true }))
        else
        let g := if e.prov then e.cur.toNat + 1 else e.cur.toNat
        let r := s.publish o d ((s.seq c q).ra w.ar).toNat (g % 2) (wbits d 0 61 61 = 1)
        match r.2 with
        | some va => .fault .strPerm [.word va]
        | none => .retire ((r.1.uDone o).accepted c q))

/-- The outcome of a vote: every PROVISIONAL entry of the context on the core, RESULT, and completion (R292, R309). -/
def State.voteDone (s : State) (u : UOp) (bits : BitVec 2) : State :=
  let o := u.org
  let accept := bits.getLsbD 0
  let s := s.dropU o.core u.relay
  let s := if bits.getLsbD 1 && !accept then s.raiseRec .uVerdictSplit false ⟨some o.ctx, some o.core, some o.seq⟩ 0 [] else s
  let s := s.modCore o.core (fun k => ({ k with gens := k.gens.map (fun (e : GenEntry) =>
    if e.ctx = o.ctx && e.prov then
      if accept then { e with cur := e.cur + 1, prov := false, rejected := false } else { e with rejected := true }
    else e) }).settleGens)
  ((s.modStore o.core (fun m => Mem.writeN m (wbits u.desc 7 29 0) (if accept then 1 else 2) 8))).uDone o

/-! ## Relay commands that end (R344, R359) -/

/-- An instruction whose relay command has completed with a value, or a gather. -/
def State.uRelayed (s : State) (u : UOp) (v : W64 × BitVec 2) : State :=
  match u.kind with
  | .ugrad => s
  | .step => (s.dropU u.org.core u.relay).stepHeader u v.1 (v.2.getLsbD 0)
  | .apply => s.codesGathered u
  | .verdict => s.voteDone u v.2

/-- Instructions whose relay command is gone without having completed for them go on as though it had; what it would have
brought is free (R344). -/
def State.settleU (s : State) (d : CoreId) : State :=
  ((s.core d).uops.filter (fun u => u.checked.isNone && !(s.rel d).cmds.any (fun c => c.id = u.relay))).foldl (fun s u =>
    match u.kind with
    | .ugrad => ((s.dropU d u.relay).complete u.org unitOther).freeEnded u.org.ctx
    | _ =>
      let a := s.fresh
      let b := a.2.fresh
      b.2.uRelayed u (a.1, b.1.setWidth 2)) s

/-- An internal command is handed over; one that aborts at once lets its instruction complete at once (R344). -/
def State.relHand (s : State) (c : CoreId) (k : RelCmd) (u : UOp) : State := (s.relIssue c k u).settleU c

/-! ## The instructions that hand a command to the relay engine (R296, R297, R306, R309) -/

def execUgrad (c : CoreId) (q : SeqId) (w : EA) (s : State) : Out :=
  s.issueEA c q w (q != .U || w.xf != 0) (fun s x => s.withDesc c q w.sd w.doff.toNat 64 (fun d =>
    let o := s.originE c q x w.hv w.hid w.sb
    let count := wbits d 2 31 0
    let hbm := wbits d 0 63 63 = 1
    let red : RelCmd := { RelCmd.blank 0 opUgrad (.internal o) x with
      dims := BitVec.ofNat 16 (wbits d 2 47 32), len := count, tag := BitVec.ofNat 32 (wbits d 0 47 32)
      step := BitVec.ofNat 32 (wbits d 4 31 0), dstVa := wbits d 3 56 0, norm := wbits d 0 62 62 = 1
      srcVa := memBase (s.seq c q) w.ar (word d 1), srcStore := if hbm then none else some (wbits d 0 29 0)
      hv := wbits d 5 43 43 = 1, hid := BitVec.ofNat 12 (wbits d 5 55 44)
      baton := BitVec.ofNat 32 (o.gen.toNat * 65536 + o.mb.toNat) }
    if !zeroBits d [(0, 61, 48), (0, 31, 30), (2, 63, 48), (3, 63, 57), (4, 63, 32), (5, 63, 56), (5, 42, 0), (6, 63, 0), (7, 63, 0)] then
      .fault .xIllegal []
    else if count = 0 then .retire (((s.complete o unitOther).relDone c red).accepted c q)
    else if wbits d 3 56 0 % 256 != 0 || (if hbm then (word d 1).toNat % 64 != 0 else wbits d 0 29 0 % 64 != 0) then .fault .xAlign []
    else match (if hbm then .ok 0 else s.access c q o.win .read (wbits d 0 29 0) (count * 4)) with
      | .error e => .fault e []
      | .ok _ =>
        .retire ((s.relHand c red ⟨.ugrad, d, 0, false, o, 0, 0, none, false⟩).accepted c q)))

/-- USIGN with KIND STEP: the norm tree runs first. -/
def execUsignStep (c : CoreId) (q : SeqId) (w : EA) (s : State) : Out :=
  s.issueEA c q w (q != .U || w.xf != 0) (fun s x => s.withDesc c q w.sd w.doff.toNat 64 (fun d =>
    let o := s.originE c q x w.hv w.hid w.sb
    if wbits d 0 63 62 != 1 then .wait s
    else if !usignZero d then .fault .xIllegal []
    else if wbits d 1 56 0 % 256 != 0 then .fault .xAlign []
    else
      let e := s.nextExport x
      let k : RelCmd := { RelCmd.blank 0 opNorm (.internal o) x with
        dims := BitVec.ofNat 16 (wbits d 3 15 0), step := BitVec.ofNat 32 (wbits d 2 31 0) }
      .retire ((e.1.relHand c k ⟨.step, d, 0, false, o, 0, e.2, none, false⟩).accepted c q)))

def execUapply (c : CoreId) (q : SeqId) (w : EA) (s : State) : Out :=
  s.issueEA c q w (q != .U || w.xf.toNat % 16 != 0) (fun s x => s.withDesc c q w.sd w.doff.toNat 64 (fun d =>
    let o := s.originE c q x w.hv w.hid w.sb
    let p := (s.ctx x).part
    if !zeroBits d [(0, 63, 59), (0, 53, 48), (1, 63, 48), (2, 63, 32), (3, 63, 57), (5, 63, 57), (6, 63, 57), (7, 63, 57)] then
      .fault .xIllegal []
    else if uCount d = 0 then .retire ((s.uDone o).accepted c q)
    else if !uShapeOk d then .fault .xIllegal []
    else match (s.core c).gen x (uLayer d) with
      | none => .fault .uGenState []
      | some e =>
        if e.prov then .fault .uGenState [] else
        let ranks := 2 ^ (dimsOf (uDims d)).length
        let r := rankOf s.pkg (uDims d)
        let h := s.devRead (.core c) p (wbits d 6 56 0) (uRecord d)
        match h.2 with
        | .error va => .fault .strPerm [.word va]
        | .ok bs =>
          if recBits bs 0 31 0 != shardLen (uCount d) ranks r || recBits bs 1 47 32 != r || recBits bs 1 31 0 != uStep d
              || recBits bs 0 47 32 != uLayer d || recBits bs 3 1 0 = 3 then .fault .uCodeHeader []
          else
            let k : RelCmd := { RelCmd.blank 0 opCodes (.internal o) x with
              dims := uDims d, len := uRecord d, tag := BitVec.ofNat 32 (uLayer d), step := BitVec.ofNat 32 (uStep d)
              dstVa := wbits d 7 56 0, srcBytes := bs }
            .retire ((h.1.relHand c k ⟨.apply, d, ((s.seq c q).ra w.ar).toNat, w.xf.getLsbD 4, o, 0, 0, none, false⟩).accepted c q)))

def execUpubVerdict (c : CoreId) (q : SeqId) (w : EA) (s : State) : Out :=
  s.upub c q w 2 (fun s x o d =>
    if wbits d 7 29 0 % 8 != 0 then .fault .xAlign [] else
    match s.access c q o.win .write (wbits d 7 29 0) 8 with
    | .error e => .fault e []
    | .ok _ =>
      let r := s.devRead (.core c) (s.ctx x).part (wbits d 6 56 0) 64
      match r.2 with
      | .error va => .fault .strPerm [.word va]
      | .ok bs =>
        if recBits bs 1 31 0 != uStep d then .fault .uCodeHeader []
        else
          let k : RelCmd := { RelCmd.blank 0 opVote (.internal o) x with
            dims := uDims d, step := BitVec.ofNat 32 (uStep d), value := some (0, if recBits bs 0 1 0 = 1 then 3 else 0) }
          .retire ((r.1.relHand c k ⟨.verdict, d, 0, false, o, 0, 0, none, false⟩).accepted c q))

end Sys2Proof.Machine
end

