-- ==== Sys2Proof/Machine/RelayCmds.lean ====
section
/-! DEFINITION. What relay engines do by themselves and at messages: posted commands (R346 to R350), the steps of collectives
(R351 to R362), dispatch and combine (R363 to R367), and the end of a follow request (R371). -/

namespace Sys2Proof.Machine
open Sys2Proof

/-! ## Posted commands (R346 to R348) -/

/-- The ring of a queue: its offset in the core store and its entries. -/
def State.ringBase (s : State) (d : CoreId) (x : CtxId) (q : Nat) : Nat := s.fld (Reg.REL_Q_BASE d x q) 15 0 * 65536
def State.ringSize (s : State) (d : CoreId) (x : CtxId) (q : Nat) : Nat := 2 ^ min 10 (s.fld (Reg.REL_Q_BASE d x q) 31 28)

/-- A ring lies wholly in DATA regions that the context owns; it is at most 64 KiB, so in one. -/
def State.ringOwned (s : State) (d : CoreId) (x : CtxId) (q : Nat) : Bool :=
  (List.range 16).any (fun j => s.regKind d j = 2 && s.regCtx d j = x.val && s.regBase d j ≤ s.ringBase d x q
    && s.ringBase d x q + s.ringSize d x q * 64 ≤ s.regBase d j + s.regSize d j)

/-- The fields a posted entry may set, by word, high bit and low bit (R348). Word 6 carries no operand. -/
def postedFields : Nat → List (Nat × Nat × Nat)
  | 4 => [(0, 63, 42), (0, 31, 0), (1, 59, 48), (1, 31, 0), (2, 56, 0), (3, 56, 0), (4, 51, 0), (5, 56, 0), (7, 61, 0)]
  | 5 => [(0, 63, 43), (0, 31, 0), (1, 59, 48), (1, 31, 0), (2, 56, 0), (4, 47, 32), (7, 31, 0)]
  | _ => [(0, 63, 43), (0, 31, 0), (1, 63, 48), (1, 31, 0), (2, 56, 0), (3, 56, 0), (4, 63, 0), (7, 31, 0)]

/-- ROW_BYTES is a multiple of 64 from 64 to 32,768 (R364). -/
def rowBytesOk (n : Nat) : Bool := n % 64 = 0 && 64 ≤ n && n ≤ 32768

/-- A collective or a dispatch with nothing to do (R54, R349). -/
def RelCmd.empty (c : RelCmd) : Bool :=
  if c.op = opCombine then c.len % 65536 = 0
  else if c.op = opDispatch then c.len = 0 || wbits c.words 4 51 48 = 0
  else !c.votes && c.len = 0

/-- The command of an entry. -/
def postedCmd (x : CtxId) (q : Fin 3) (entry : Nat) (w : List W64) : RelCmd :=
  let op := wbits w 0 63 56
  let coll := op ≤ 3
  { RelCmd.blank 0 op (.posted q entry) x with
    hv := wbits w 0 43 43 = 1, hid := BitVec.ofNat 12 (wbits w 0 55 44), baton := BitVec.ofNat 32 (wbits w 0 31 0)
    dims := if coll then BitVec.ofNat 16 (wbits w 1 63 48) else 0
    len := wbits w 1 31 0
    srcVa := wbits w 2 56 0, dstVa := wbits w 3 56 0
    tag := if coll then BitVec.ofNat 32 (wbits w 4 63 32) else 0
    step := if coll then BitVec.ofNat 32 (wbits w 4 31 0) else 0
    words := w }

/-- An entry that can be run (R348). The addresses of an empty command are not checked (R54). -/
def postedOk (w : List W64) : Bool :=
  let op := wbits w 0 63 56
  let zero := [0, 1, 2, 3, 4, 5, 7].all (fun i =>
    let mask := ((postedFields op).filter (fun n => n.1 = i)).foldl (fun m n => m ||| maskOf n.2.1 n.2.2) 0
    (word w i).toNat &&& mask = (word w i).toNat)
  let vas := wbits w 2 56 0 % 256 = 0 && wbits w 3 56 0 % 256 = 0 && wbits w 5 56 0 % 256 = 0
  1 ≤ op && op ≤ 5 && zero && (vas || (postedCmd 0 0 0 w).empty)
    && (op != opGather || wbits w 1 31 0 % 256 = 0)
    && (op != opDispatch || (wbits w 4 51 48 ≤ 8 && rowBytesOk (wbits w 4 47 32)))
    && (op != opCombine || rowBytesOk (wbits w 4 47 32))

/-- One entry is accepted: run, or aborted at once. -/
def State.takeEntry (s : State) (d : CoreId) (x : CtxId) (q : Fin 3) (entry : Nat) : State :=
  let w := Mem.words (s.core d).store entry 8
  let c := postedCmd x q entry w
  if !postedOk w then (s.relStatus d c (relBadDesc * 2 ^ 56)).relAbortEvent d c relBadDesc
  else if !s.relValid d x then (s.relStatus d c (relRefused * 2 ^ 56)).relAbortEvent d c relRefused
  else s.relAccept d c

/-- Accept entries from REL_Q_HEAD onward, at most a ring: how many. -/
def State.readRing (s : State) (d : CoreId) (x : CtxId) (q : Fin 3) : Nat → State × Nat
  | 0 => (s, 0)
  | fuel + 1 =>
    let head := s.act (Reg.REL_Q_HEAD d x q)
    let entry := s.ringBase d x q + head.toNat % s.ringSize d x q * 64
    if wbits (Mem.words (s.core d).store entry 8) 7 31 0 != (head + 1).toNat then (s, 0) else
    let r := ((s.setAct (Reg.REL_Q_HEAD d x q) (head + 1)).takeEntry d x q entry).readRing d x q fuel
    (r.1, r.2 + 1)

/-- The ring of a queue is not its context's: no entry is read (R346). -/
def State.ringRefused (s : State) (d : CoreId) (x : CtxId) (q : Fin 3) : State :=
  s.raiseRec .relAbort false ⟨some x, some d, some (match q with | 0 => .F | 1 => .B | 2 => .U)⟩ 0 [.small 8 relFault]

/-- The oldest kick that no engine has served: the engine reads its queue. -/
def execRelayQueueKick (s : State) : Out :=
  match s.kicks with
  | [] => .next s
  | (d, x, q) :: t =>
    let s := { s with kicks := t }
    if !s.ringOwned d x q then .next (s.ringRefused d x q)
    else
      let r := s.readRing d x q (s.ringSize d x q)
      .next (if r.2 = 0 then r.1.modRel d (fun e => { e with polls := (e.polls.filter (fun p => !(p.1 = x && p.2.1 = q))) ++ [(x, q, 0)] })
        else r.1.modRel d (fun e => { e with polls := e.polls.filter (fun p => !(p.1 = x && p.2.1 = q)) }))

/-- A queue that a kick found without a new entry is read again; after 16 reads REL_QUEUE is raised. -/
def execRelayQueuePoll (d : CoreId) (x : CtxId) (q : Fin 3) (s : State) : Out :=
  match (s.rel d).polls.find? (fun p => p.1 = x && p.2.1 = q) with
  | none => .next s
  | some p =>
    let drop (s : State) : State := s.modRel d (fun e => { e with polls := e.polls.filter (fun p => !(p.1 = x && p.2.1 = q)) })
    if !s.ringOwned d x q then .next ((drop s).ringRefused d x q) else
    let r := s.readRing d x q (s.ringSize d x q)
    if r.2 != 0 then .next (drop r.1)
    else if 15 ≤ p.2.2 then
      .next ((drop r.1).raiseRec .relQueue false ⟨some x, some d, some (match q with | 0 => .F | 1 => .B | 2 => .U)⟩ 0 [])
    else .next (r.1.modRel d (fun e => { e with polls := e.polls.map (fun p => if p.1 = x && p.2.1 = q then (x, q, p.2.2 + 1) else p) }))

/-! ## Start (R349 to R351) -/

/-- The queue of a command: three times the context plus the sequencer; 192 for the internal commands. -/
def RelCmd.queue (c : RelCmd) : Nat := match c.src with | .posted q _ => 3 * c.ctx.val + q.val | .internal _ => 192

/-- Units of a context's work region on an engine that no command holds, ascending. -/
def State.scratchFree (s : State) (d : CoreId) (x : CtxId) : List Nat :=
  let held := ((s.rel d).cmds.filter (fun c => c.ctx = x)).flatMap (·.scratch)
  (List.range (s.fld (Reg.REL_WORK_SIZE d x) 15 0)).filter (fun i => !held.contains i)

/-- The first waiting commands of the queues. -/
def Rel.heads (r : Rel) : List RelCmd :=
  let ws := r.cmds.filter (fun c => !c.started)
  ws.filter (fun c => !ws.any (fun e => e.queue = c.queue && decide (e.id < c.id)))

/-- A head that may start: its scratch is free, and no head of its context that came before waits for scratch (R350). -/
def State.startable (s : State) (d : CoreId) (c : RelCmd) : Bool :=
  let n := (s.scratchFree d c.ctx).length
  let size := s.fld (Reg.REL_WORK_SIZE d c.ctx) 15 0
  c.need = 0 || size < c.need
    || (c.need ≤ n && !(s.rel d).heads.any (fun e => e.ctx = c.ctx && decide (e.id < c.id) && n < e.need && e.need ≤ size))

/-- The lowest number of a list at or after a point in a rotation of 193. -/
def nextInTurn (last : Nat) (ks : List RelCmd) : Option RelCmd :=
  ((List.range 193).map (fun i => (last + 1 + i) % 193)).findSome? (fun q => ks.find? (fun c => c.queue = q))

/-- READY of a step goes to its partner; a step whose partner cannot be reached aborts the command. -/
def State.sendReady (s : State) (d : CoreId) (id : Nat) : List Nat → State
  | [] => s
  | j :: t =>
    match s.relCmd d id with
    | none => s
    | some c =>
      let r := s.relSend d c vcHctl (s.relPartner c j) 0 j (.ready (BitVec.ofNat 64 c.len))
      if r.2 then r.1.sendReady d id t else r.1.relAbort d c relPeerLost j 0

/-- A sender whose READY does not match learns it from the command's own READY: one that it has not been sent goes back to it
(R351; notes/assumptions/82). -/
def State.tellMismatch (s : State) (d : CoreId) (c : RelCmd) (org : BitVec 16) (j : Nat) : State :=
  if (List.range c.steps).any (fun i => s.relPartner c i = org && !c.again.contains i) then s
  else (s.relSend d c vcHctl org 0 j (.ready (BitVec.ofNat 64 c.len))).1

/-- A READY reaches a started command: noted, or a mismatch, which aborts it on both sides (R351). -/
def State.gotReady (s : State) (d : CoreId) (id : Nat) (r : ReadyRec) : State :=
  match s.relCmd d id with
  | none => s
  | some c =>
    let j := r.j
    if r.dims != c.dims || r.count.toNat != c.len then (s.tellMismatch d c r.org j).relAbort d c relMismatch j 0
    else s.putRelCmd d { c with ready := if c.ready.contains j then c.ready else c.ready ++ [j] }

/-- A command starts: its scratch, its READY messages, and the READY messages that came before it. -/
def State.relStart (s : State) (d : CoreId) (c : RelCmd) : State :=
  let units := (s.scratchFree d c.ctx).take c.need
  let c := { c with started := true, since := s.ptb, scratch := units }
  let s := (s.putRelCmd d c).modRel d (fun r => { r with
    rot := c.queue
    ret := if c.op = opDispatch then (c.ctx, c.dstVa, wbits c.words 4 51 48, wbits c.words 4 47 32) :: r.ret.filter (fun e => e.1 != c.ctx) else r.ret })
  let s := s.sendReady d c.id (List.range c.steps)
  let key := s.relKey d c
  let mine := (s.rel d).readies.filter (fun r => r.key = key)
  let s := s.modRel d (fun r => { r with readies := r.readies.filter (fun e => e.key != key) })
  mine.foldl (fun s r => s.gotReady d c.id r) s

/-- The next command in rotation starts, while fewer than 16 run. A context whose entry is no longer VALID runs none (R344). -/
def execRelayCommandStart (d : CoreId) (s : State) : Out :=
  let r := s.rel d
  if s.relHeld || 16 ≤ (r.cmds.filter (·.started)).length then .next s else
  match nextInTurn r.rot (r.heads.filter (s.startable d)) with
  | none => .next s
  | some c =>
    if !s.relValid d c.ctx then .next ((s.relAbort d c relRefused 0 0).settleU d)
    else if c.empty then .next (((s.modRel d (fun r => { r with rot := c.queue })).relFinish d c).settleU d)
    else if s.fld (Reg.REL_WORK_SIZE d c.ctx) 15 0 < c.need then .next ((s.relAbort d c relWork 0 0).settleU d)
    else .next ((s.relStart d c).settleU d)

/-! ## Collectives advance (R352 to R362) -/

/-- The next action of a reduction or a gather: copy, add what has been held, send, or complete. -/
def State.relAdvance (s : State) (d : CoreId) (c : RelCmd) : State :=
  match s.relCopy? c with
  | some g => s.relCopy d c g
  | none =>
    match c.held.find? (fun h => c.applies h.1 h.2.1) with
    | some h => s.relApply d { c with held := c.held.filter (fun k => k != h) } h.1 h.2.1 h.2.2.1 h.2.2.2
    | none =>
      match (List.range c.steps).findSome? (fun j => (s.relSend? c j).map (fun g => (j, g))) with
      | some (j, g) => s.relSendSeg d c j g
      | none =>
        if !s.relComplete c then s else
        match s.relNorm d c with
        | none => s
        | some s =>
          let s := s.relFinish d c
          match (s.core d).uops.find? (fun u => u.relay = c.id && u.kind = .apply) with
          | some u => if c.op = opCodes then s.uRelayed u (0, 0) else s
          | none => s

/-- NORM or VOTE advances; complete, its instruction goes on. -/
def State.voteAdvance (s : State) (d : CoreId) (c : RelCmd) : State :=
  let r := s.relValue d c
  match r.2 with
  | none => r.1
  | some v =>
    let s := (if c.op = opNorm then r.1.normClear c.ctx else r.1).relFinish d c
    match (s.core d).uops.find? (fun u => u.relay = c.id) with
    | some u => s.uRelayed u v
    | none => s

/-- A started command of an operation. -/
def State.running? (s : State) (d : CoreId) (id op : Nat) : Option RelCmd :=
  (s.rel d).cmds.find? (fun c => c.id = id && c.op = op && c.started)

/-- A command of an operation takes its next action, if it runs and no commit holds the engines. -/
def State.relTurn (s : State) (d : CoreId) (id op : Nat) (f : State → RelCmd → State) : Out :=
  if s.relHeld then .next s else
  match s.running? d id op with
  | some c => .next ((f s c).settleU d)
  | none => .next s

def execReduceScatter (d : CoreId) (id : Nat) (s : State) : Out := s.relTurn d id opScatter (fun s c => s.relAdvance d c)
def execAllReduce (d : CoreId) (id : Nat) (s : State) : Out := s.relTurn d id opAllReduce (fun s c => s.relAdvance d c)
def execAllGather (d : CoreId) (id : Nat) (s : State) : Out := s.relTurn d id opGather (fun s c => s.relAdvance d c)
def execUgradReduce (d : CoreId) (id : Nat) (s : State) : Out := s.relTurn d id opUgrad (fun s c => s.relAdvance d c)
def execCodes (d : CoreId) (id : Nat) (s : State) : Out := s.relTurn d id opCodes (fun s c => s.relAdvance d c)
def execNorm (d : CoreId) (id : Nat) (s : State) : Out := s.relTurn d id opNorm (fun s c => s.voteAdvance d c)
def execVote (d : CoreId) (id : Nat) (s : State) : Out := s.relTurn d id opVote (fun s c => s.voteAdvance d c)

/-! ## Expert maps and packs (R363 to R365) -/

/-- An entry of an expert map. -/
structure Expert where
  valid : Bool
  core : CoreId
  pkg : BitVec 16
  cap : Nat
  buf : Nat

def expertOf (bs : List Byte) : Expert :=
  ⟨recBits bs 0 63 63 = 1, Fin.ofNat 8 (recBits bs 0 50 48), BitVec.ofNat 16 (recBits bs 0 47 32), recBits bs 0 19 0, recBits bs 1 56 0⟩

/-- Where the origin entry of a position lies. -/
def Expert.entry (e : Expert) (rowBytes p : Nat) : Nat := e.buf + (e.cap * rowBytes + 255) / 256 * 256 + 8 * p

def RelCmd.rowBytes (c : RelCmd) : Nat := wbits c.words 4 47 32
def RelCmd.mapVa (c : RelCmd) : Nat := if c.op = opDispatch then wbits c.words 5 56 0 else c.srcVa
def RelCmd.notify (c : RelCmd) : Hid := BitVec.ofNat 12 (wbits c.words 1 59 48)

/-- Bytes of a pack as a message carries them. -/
def packBytes (rs : List RowItem) : Nat := (rs.map (fun r => 16 + r.bytes.length)).sum

/-- WHERE of a command that carries rows (R358), of a pack: the token of its first row, or the position for COMBINE. -/
def RelCmd.rowAt (c : RelCmd) (p : Pack) : Nat :=
  match p.rows.head? with
  | some r => if c.op = opDispatch then r.token.toNat else r.pos.toNat
  | none => 0

/-- Send a pack of a command as a ROWS message. -/
def State.sendPackOf (s : State) (d : CoreId) (c : RelCmd) (p : Pack) : State :=
  let s := (s.rouse 5 d (s.rel d).holds).modRel d (fun e => { e with packs := e.packs.filter (fun q => q.dst != p.dst) })
  let c := { c with rowsOut := c.rowsOut + 1 }
  let t := s.sendReq vcDisp p.dst 0 (.relay (s.relKey d c) 0 0 (.rows 0 p.rows)) (.relay d c.id 0 (BitVec.ofNat 64 (c.rowAt p))) (some c.ctx)
  if t.2 then t.1.putRelCmd d c else t.1.relAbort d c relPeerLost 0 (c.rowAt p)

/-- Send an open pack of an engine. -/
def State.sendPack (s : State) (d : CoreId) (p : Pack) : State :=
  match s.relCmd d p.cmd with
  | some c => s.sendPackOf d c p
  | none => s.modRel d (fun e => { e with packs := e.packs.filter (fun q => q.dst != p.dst) })

/-- Put a row into the pack of its destination: a pack that cannot take it or is another command's, whose key a ROWS message carries,
or the least recently used of 64, is sent first. -/
def State.addRow (s : State) (d : CoreId) (id : Nat) (dst : BitVec 16) (r : RowItem) (places : List (Nat × Nat)) : State :=
  let limit := s.fld (Reg.REL_CFG d) 21 16 * 1024
  let packs := (s.rel d).packs
  let full : Option Pack :=
    match packs.find? (fun p => p.dst = dst) with
    | some p => if p.cmd != id || limit < packBytes p.rows + 16 + r.bytes.length then some p else none
    | none => if 64 ≤ packs.length then packs.head? else none
  let s := match full with | some p => s.sendPack d p | none => s
  match s.relCmd d id with
  | none => s
  | some c =>
    let s := s.putRelCmd d { c with places := c.places ++ (if dst = s.pkg then places else []) }
    s.modRel d (fun e =>
      let old := match e.packs.find? (fun p => p.dst = dst) with | some p => p.rows | none => []
      { e with packs := e.packs.filter (fun p => p.dst != dst) ++ [⟨id, dst, old ++ [r], s.ptb⟩] })

/-- One arrival to a command's NOTIFY_HID on each of some packages. -/
def State.notifyAll (s : State) (d : CoreId) (c : RelCmd) (ps : List (BitVec 16)) : State :=
  let a := s.relayArrival d c.ctx c.notify c.baton
  ps.foldl (fun s p =>
    if p = s.pkg then s.sendArrival d a
    else s.sendNote vcHctl p (.arrive c.notify a.baton) (some c.ctx)) s

/-- The command goes on at its next position, unless it is gone. -/
def State.relNextPos (s : State) (d : CoreId) (id pos sub : Nat) : State :=
  match s.relCmd d id with | some c => s.putRelCmd d { c with pos := pos, sub := sub } | none => s

/-- Packs are sent, then acknowledgements awaited; then the notifications and the command's own completion. -/
def State.rowsEnd (s : State) (d : CoreId) (c : RelCmd) (ps : State → State × Except Nat (List (BitVec 16))) : State :=
  match (s.rel d).packs.find? (fun p => p.cmd = c.id) with
  | some p => s.sendPackOf d c p
  | none =>
    if c.rowsOut != 0 then s else
    let r := ps s
    match r.2 with
    | .error e => r.1.relAbort d c e 0 c.sub
    | .ok l => (r.1.notifyAll d c l).relFinish d c

/-! ## DISPATCH and COMBINE (R364, R366, R367) -/

/-- The packages that a VALID entry of the map names. -/
def State.mapPackages (s : State) (d : CoreId) (c : RelCmd) : State × Except Nat (List (BitVec 16)) :=
  let r := s.relRead d c.ctx c.mapVa 32768
  (r.1, match r.2 with
    | .error e => .error e
    | .ok bs => .ok (((List.range 2048).filterMap (fun i =>
        let e := expertOf ((bs.drop (16 * i)).take 16)
        if e.valid then some e.pkg else none)).eraseDups))

/-- A routing word without a row: with ZERO_RET its return slot is zeroed. -/
def State.noRow (s : State) (d : CoreId) (c : RelCmd) : State :=
  let slot := c.dstVa + c.pos * c.rowBytes
  let zero := wbits c.words 0 42 42 = 1
  let r := if zero then s.relWrite d c.ctx slot (List.replicate c.rowBytes 0) else (s, none)
  let c := if zero then { c with places := c.places ++ [(slot, c.rowBytes)] } else c
  let r : State × Option Nat := (r.1.putRelCmd d c, r.2)
  match r.2 with
  | some e => r.1.relAbort d c e 0 (c.pos / wbits c.words 4 51 48)
  | none => r.1.relNextPos d c.id (c.pos + 1) 0

/-- One routing word of a DISPATCH. -/
def State.dispatchWord (s : State) (d : CoreId) (c : RelCmd) : State :=
  let choices := wbits c.words 4 51 48
  let t := c.pos / choices
  let w := Mem.readN (s.core d).store (wbits c.words 7 61 32 + 4 * c.pos) 4
  if w = 0xFFFFFFFF || bit w 31 then s.noRow d c else
  let ex := bitsOf w 30 20
  let pos := bitsOf w 19 0
  let m := s.relRead d c.ctx (c.mapVa + 16 * ex) 16
  match m.2 with
  | .error e => m.1.relAbort d c e 0 t
  | .ok bs =>
    let e := expertOf bs
    if !e.valid then m.1.noRow d c
    else if e.cap ≤ pos then (m.1.bump (Reg.REL_CAP_DROP d) 1).noRow d c
    else
      let r := m.1.relRead d c.ctx (c.srcVa + t * wbits c.words 4 31 0 * 64) c.rowBytes
      match r.2 with
      | .error e => r.1.relAbort d c e 0 t
      | .ok row =>
        let item : RowItem := ⟨BitVec.ofNat 16 ex, BitVec.ofNat 20 pos, BitVec.ofNat 32 t, BitVec.ofNat 3 (c.pos % choices), d,
          some (BitVec.ofNat 57 (e.buf + pos * c.rowBytes), BitVec.ofNat 57 (e.entry c.rowBytes pos)), row⟩
        (r.1.addRow d c.id e.pkg item [(e.buf + pos * c.rowBytes, c.rowBytes), (e.entry c.rowBytes pos, 8)]).relNextPos d c.id (c.pos + 1) 0

def State.dispatchTurn (s : State) (d : CoreId) (c : RelCmd) : State :=
  if c.pos < c.len * wbits c.words 4 51 48 then s.dispatchWord d c
  else s.rowsEnd d c (fun s => s.mapPackages d c)

/-- The return slot of a row of COMBINE: of its token and choice, of the context's last DISPATCH on the origin core (R367;
notes/assumptions/21). -/
def State.returnSlot (s : State) (x : CtxId) (r : RowItem) : Option Nat :=
  ((s.rel r.core).ret.find? (fun e => e.1 = x)).map (fun e => e.2.1 + (r.token.toNat * e.2.2.1 + r.choice.toNat) * e.2.2.2)

/-- One position of an expert of this package and core. -/
def State.combinePos (s : State) (d : CoreId) (c : RelCmd) (ex : Nat) (e : Expert) : State :=
  let at_ := e.entry c.rowBytes c.sub
  let o := s.relRead d c.ctx at_ 8
  match o.2 with
  | .error er => o.1.relAbort d c er 0 c.sub
  | .ok ob =>
    if recBits ob 0 63 63 = 0 then o.1.relNextPos d c.id c.pos (c.sub + 1) else
    let r := o.1.relRead d c.ctx (e.buf + c.sub * c.rowBytes) c.rowBytes
    match r.2 with
    | .error er => r.1.relAbort d c er 0 c.sub
    | .ok row =>
      let dst : BitVec 16 := BitVec.ofNat 16 (recBits ob 0 55 40)
      let item : RowItem := ⟨BitVec.ofNat 16 ex, BitVec.ofNat 20 c.sub, BitVec.ofNat 32 (recBits ob 0 31 0), BitVec.ofNat 3 (recBits ob 0 62 60),
        Fin.ofNat 8 (recBits ob 0 58 56), none, row⟩
      let s := r.1.putRelCmd d { c with dests := if c.dests.contains dst then c.dests else c.dests ++ [dst] }
      let s := s.addRow d c.id dst item ((s.returnSlot c.ctx item).toList.map (fun a => (a, c.rowBytes)))
      match s.relCmd d c.id with
      | none => s
      | some c =>
        let w := s.relWrite d c.ctx at_ (List.replicate 8 0)
        match w.2 with
        | some er => w.1.relAbort d c er 0 c.sub
        | none => w.1.relNextPos d c.id c.pos (c.sub + 1)

def State.combineTurn (s : State) (d : CoreId) (c : RelCmd) : State :=
  if c.pos < c.len % 65536 then
    let ex := c.len / 65536 + c.pos
    let m := s.relRead d c.ctx (c.mapVa + 16 * ex) 16
    match m.2 with
    | .error e => m.1.relAbort d c e 0 c.sub
    | .ok bs =>
      let e := expertOf bs
      if !e.valid || e.pkg != s.pkg || e.core != d || e.cap ≤ c.sub then m.1.relNextPos d c.id (c.pos + 1) 0
      else m.1.combinePos d c ex e
  else s.rowsEnd d c (fun s => (s, .ok c.dests))

def execDispatch (d : CoreId) (id : Nat) (s : State) : Out := s.relTurn d id opDispatch (fun s c => s.dispatchTurn d c)
def execCombine (d : CoreId) (id : Nat) (s : State) : Out := s.relTurn d id opCombine (fun s c => s.combineTurn d c)

/-- No row has joined a pack for PACK_NS: it is sent. -/
def execPackIdle (d : CoreId) (id : Nat) (dst : BitVec 16) (t : W64) (s : State) : Out :=
  match (s.rel d).packs.find? (fun p => p.cmd = id && p.dst = dst) with
  | some p =>
    if t.toNat < p.joined.toNat + s.fld (Reg.REL_CFG d) 15 0 then .next s else .next (((s.atTime t).sendPack d p).settleU d)
  | none => .next s

/-! ## Messages (R344, R351, R352, R359, R361, R366) -/

/-- A message of the inbox: the n-th, when nothing of its port and channel waits before it; and the state without it. What wakes the part is served after
the exit (R478). -/
def State.takeMsg (s : State) (n : Nat) : Option (InMsg × State) :=
  match s.inbox[n]? with
  | none => none
  | some m =>
    if (s.inbox.take n).any (fun e => e.port = m.port && e.vc = m.vc) || (wakes m.msg.body && s.psc.state != .run) then none
    else some (m, { s with inbox := s.inbox.eraseIdx n })

/-- A message that matches no entry is refused and counted (R344). -/
def State.relUnknown (s : State) (d : CoreId) : State := s.bump (Reg.REL_REFUSED d) 1

/-- A refusal returned to a sender. -/
def State.relRefuse (s : State) (m : Msg) (k : RelayKey) (j : BitVec 5) (dims : BitVec 16) (full : Bool) : State :=
  (s.sendMsg vcHctl ⟨m.org, s.pkg, m.tag, 0, .relay k j dims (.refuse full)⟩ none).1

/-- The command of a key on an engine, of the context that the message is bound to (R344). -/
def State.relFind (s : State) (d : CoreId) (x : CtxId) (k : RelayKey) : Option RelCmd :=
  (s.rel d).cmds.find? (fun c => c.ctx = x && s.relKey d c = k)

def execReady (n : Nat) (s : State) : Out :=
  match s.takeMsg n with
  | some (m, s) =>
    match m.msg.body with
    | .relay k j dims (.ready count) =>
      let d := k.core
      (match s.relBind d k.job with
      | none => .next ((s.relUnknown d).relRefuse m.msg k j dims false)
      | some x =>
        let r : ReadyRec := ⟨m.msg.org, k, j.toNat, dims, count⟩
        match (s.relFind d x k).filter (·.started) with
        | some c => .next ((s.gotReady d c.id r).settleU d)
        | none =>
          if 1024 ≤ (s.rel d).readies.length then .next (s.relRefuse m.msg k j dims true)
          else .next (s.modRel d (fun e => { e with readies := e.readies ++ [r] })))
    | _ => .next s
  | none => .next s

/-- Whether the n-th message of the inbox is of a kind. -/
def State.msgIs (s : State) (n : Nat) (p : MsgBody → Bool) : Bool := match s.inbox[n]? with | some m => p m.msg.body | none => false

def execRelayData (n : Nat) (s : State) : Out :=
  match s.takeMsg n with
  | some (m, t) =>
    match m.msg.body with
    | .relay k j _ (.data seg bytes) =>
      let d := k.core
      (match t.relBind d k.job with
      | none => .next (t.relUnknown d)
      | some x =>
      match (t.relFind d x k).filter (·.started) with
      | none => .next t
      | some c =>
        if c.applies j.toNat seg.toNat && !t.relHeld then .next ((t.relApply d c j.toNat seg.toNat m.msg.tag bytes).settleU d)
        else .next (t.putRelCmd d { c with held := c.held ++ [(j.toNat, seg.toNat, m.msg.tag, bytes)] }))
    | _ => .next s
  | none => .next s

/-- A segment, or a ROWS message, is acknowledged. -/
def execRelayAck (n : Nat) (s : State) : Out :=
  match s.takeMsg n with
  | some (m, t) =>
    match m.msg.body with
    | .relay k _ _ (.ack _) =>
      if (t.relBind k.core k.job).isNone then .next (t.relUnknown k.core) else
      let r := t.takeReq m.msg.tag
      (match r.1 with
      | some q =>
        match q.who with
        | .relay d id j seg =>
          let t := r.2.beat 5 d
          (match t.relCmd d id with
          | some c =>
            if c.collects then .next (t.putRelCmd d { c with unacked := c.unacked.filter (fun u => u != (j, seg.toNat)) })
            else .next (t.putRelCmd d { c with rowsOut := c.rowsOut - 1 })
          | none => .next t)
        | _ => .next t
      | none => .next t)
    | _ => .next s
  | none => .next s

def execRelayAbort (n : Nat) (s : State) : Out :=
  match s.takeMsg n with
  | some (m, t) =>
    match m.msg.body with
    | .relay k j _ .abort =>
      let d := k.core
      (match t.relBind d k.job with
      | none => .next (t.relUnknown d)
      | some x =>
        match t.relFind d x k with
        | some c => .next ((t.relAbort d c relPeerLost j.toNat 0).settleU d)
        | none => .next t)
    | _ => .next s
  | none => .next s

/-- Where a row goes: its position with its origin entry, or the return slot of its token and choice. -/
def State.writeRow (s : State) (d : CoreId) (x : CtxId) (org : BitVec 16) (r : RowItem) : State × Option Nat :=
  match r.dest with
  | some (a, e) =>
    let w := s.relWrite d x a.toNat r.bytes
    match w.2 with
    | some er => (w.1, some er)
    | none => w.1.relWrite d x e.toNat (leBytes (2 ^ 63 + r.choice.toNat * 2 ^ 60 + r.core.val * 2 ^ 56 + org.toNat * 2 ^ 40 + r.token.toNat) 8)
  | none =>
    match s.returnSlot x r with
    | none => (s, some relRefused)
    | some a => s.relWrite d x a r.bytes

def execRows (n : Nat) (s : State) : Out :=
  match s.takeMsg n with
  | some (m, t) =>
    match m.msg.body with
    | .relay k j dims (.rows seg rs) =>
      let d := k.core
      (match t.relBind d k.job with
      | none => .next ((t.relUnknown d).relRefuse m.msg k j dims false)
      | some x =>
        let r := rs.foldl (fun (r : State × Option Nat) i => match r.2 with | some _ => r | none => r.1.writeRow d x m.msg.org i) (t, none)
        match r.2 with
        | some _ => .next (r.1.relRefuse m.msg k j dims false)
        | none => .next (r.1.sendMsg vcHctl ⟨m.msg.org, s.pkg, m.msg.tag, 0, .relay k j dims (.ack seg)⟩ none).1)
    | _ => .next s
  | none => .next s

def execRelayValue (n : Nat) (s : State) : Out :=
  match s.takeMsg n with
  | some (m, t) =>
    match m.msg.body with
    | .relay k j _ (.value v b) =>
      if (t.relBind k.core k.job).isNone then .next (t.relUnknown k.core)
      else .next (t.modRel k.core (fun r => { r with values := r.values ++ [⟨k, j.toNat, v, b⟩] }))
    | _ => .next s
  | none => .next s

/-- A refusal: of a READY for want of room, which is sent again after 1 µs; or of the command. -/
def execRelayRefuse (n : Nat) (s : State) : Out :=
  match s.takeMsg n with
  | some (m, t) =>
    match m.msg.body with
    | .relay k j _ (.refuse full) =>
      let d := k.core
      (match t.relBind d k.job with
      | none => .next (t.relUnknown d)
      | some x =>
      let r := t.takeReq m.msg.tag
      match r.1.bind (fun q => match q.who with | .relay e id j seg => (r.2.relCmd e id).map (fun c => (e, c, j, seg)) | _ => none) with
      | some (e, c, j, seg) => .next ((r.2.relAbort e c relRefused j seg.toNat).settleU e)
      | none =>
        match t.relFind d x k with
        | none => .next t
        | some c =>
          if full then .next (t.putRelCmd d { c with again := c.again ++ [j.toNat] })
          else .next ((t.relAbort d c relRefused j.toNat 0).settleU d))
    | _ => .next s
  | none => .next s

/-- A refused READY is sent again. -/
def execReadyResend (d : CoreId) (id j : Nat) (s : State) : Out :=
  match s.relCmd d id with
  | none => .next s
  | some c =>
    if !c.again.contains j then .next s else
    let s := s.putRelCmd d { c with again := c.again.filter (· != j) }
    .next (((s.bump (Reg.REL_READY_RETRY d) 1).sendReady d id [j]).settleU d)

/-- A command has waited READY_MS for a partner's READY (R352). -/
def execReadyWaitExpire (d : CoreId) (id : Nat) (t : W64) (s : State) : Out :=
  match s.relCmd d id with
  | none => .next s
  | some c =>
    if !c.started || c.waitRaised || (List.range c.steps).all (fun j => c.ready.contains j)
        || t.toNat < c.since.toNat + s.fld (Reg.REL_CFG d) 31 22 * 1000000 then .next s
    else .next (((s.atTime t).raiseRec .relWaitLong false ⟨some c.ctx, some d, c.seq⟩ 0 []).putRelCmd d { c with waitRaised := true })

/-! ## The end of a follow request (R371) -/

/-- PROBE_US after its last follow request, a context's cores return to their own setting. -/
def execFollowProbe (n : CoreId) (x : CtxId) (t : W64) (s : State) : Out :=
  let k := s.ctx x
  if k.follow.isNone || s.fld (Reg.REL_FOLLOW n x) 31 31 = 0
      || t.toNat < k.followAt.toNat + max 1 (s.fld (Reg.REL_PACE_CFG n) 15 8) * 1000000 then .next s
  else
    let s := (s.atTime t).modCtx x (fun k => { k with follow := none })
    .next (allCores.foldl (fun (s : State) (d : CoreId) => s.setFld (Reg.REL_FOLLOW d x) 31 31 0) s)

end Sys2Proof.Machine
end

