-- ==== Sys2Proof/Machine/Prim.lean ====
section
/-! DEFINITION. The row-engine primitives recip, rsqrt, exp, log, tanh, sigmoid and erf (R209): the exact result to some
200 bits, the bound around it, and the value inside the bound that the part takes. -/

namespace Sys2Proof.Machine
open Sys2Proof

/-! ## Fixed point: an integer z stands for z times 2 to the −400 -/

def fxOne : Int := 2 ^ 400
def fxMul (a b : Int) : Int := a * b / fxOne
def fxDiv (a b : Int) : Int := a * fxOne / b

/-- A finite value that is a multiple of 2 to the −400, as every FP32 value is. -/
def fxOf (neg : Bool) (m : Nat) (e : Int) : Int := sgn neg m * 2 ^ (e + 400).toNat

/-- Terms of the exponential series, nested: 1 + y/(k+1) × (1 + y/(k+2) × …). -/
def expSum (y : Int) : Nat → Nat → Int
  | 0, _ => fxOne
  | n + 1, k => fxOne + fxMul y (expSum y n (k + 1)) / (k + 1)

/-- Terms t to the j over 2j + 1, from j = k: of atan and atanh. -/
def oddSum (t : Int) : Nat → Nat → Int
  | 0, _ => 0
  | n + 1, k => fxOne / (2 * k + 1) + fxMul t (oddSum t n (k + 1))

/-- Terms t to the j over j! × (2j + 1), from j = k, nested: of erf. -/
def erfSum (t : Int) : Nat → Nat → Int
  | 0, _ => 0
  | n + 1, k => fxOne / (2 * k + 1) + fxMul t (erfSum t n (k + 1)) / (k + 1)

/-- The exponential; arguments beyond ±128 give results beyond every FP32 value, or below every bound. -/
def fxExp (x : Int) : Int :=
  let x := max (-(128 * fxOne)) (min x (128 * fxOne))
  (List.range 8).foldl (fun a _ => fxMul a a) (expSum (x / 256) 64 0)

def fxAtanh (z : Int) : Int := fxMul z (oddSum (fxMul z z) 72 0)
def fxAtan (z : Int) : Int := fxMul z (oddSum (-(fxMul z z)) 96 0)

/-- The logarithm of m times 2 to the e, m not zero. -/
def fxLog (m : Nat) (e : Int) : Int :=
  let p : Int := 2 ^ Nat.log2 m
  2 * ((e + Nat.log2 m) * fxAtanh (fxOne / 3) + fxAtanh (fxDiv (m - p) (m + p)))

/-- 2/√π, with π by Machin's formula. -/
def fxTwoRootPi : Int :=
  let pi : Int := 16 * fxAtan (fxOne / 5) - 4 * fxAtan (fxOne / 239)
  fxDiv (2 * fxOne) (Nat.sqrt (pi.toNat * 2 ^ 400) : Nat)

/-- The error function; beyond ±8 it is ±1 to within 2 to the −96. -/
def fxErf (x : Int) : Int :=
  if 8 * fxOne ≤ x then fxOne else if x ≤ -(8 * fxOne) then -fxOne
  else fxMul (fxMul fxTwoRootPi x) (erfSum (-(fxMul x x)) 280 0)

/-! ## Bounds (R209) -/

/-- Exponent of the unit in the last place of an exact result. -/
def FVal.ulpExp : FVal → Int
  | .fin _ m e => if m = 0 then -149 else max (e + Nat.log2 m) (-126) - 23
  | _ => -149

/-- Whether a value lies within n times 2 to the q of an exact result; an infinity stands at 2 to the 128. -/
def FVal.within (r v : FVal) (n : Nat) (q : Int) : Bool :=
  let r : FVal := match r with | .inf s => .fin s 1 128 | r => r
  match r, v with
  | .fin na ma ea, .fin nb mb eb =>
    let e := min (min ea eb) q
    decide ((sgn na ma * 2 ^ (ea - e).toNat - sgn nb mb * 2 ^ (eb - e).toNat).natAbs ≤ n * 2 ^ (q - e).toNat)
  | _, _ => false

/-- The result of a primitive with exact result v and error bound n times 2 to the q: the part's own value where the bound
allows it, else v rounded. -/
def bounded (own : W32) (v : FVal) (n : Nat) (q : Int) : W32 := if (f32 own).within v n q then own else toF32 v

/-- 2 ulp or 2 to the −30, whichever is larger. -/
def bounded2 (own : W32) (v : FVal) : W32 := if v.ulpExp < -31 then bounded own v 1 (-30) else bounded own v 2 v.ulpExp

/-! ## The primitives -/

/-- recip: within 1 ulp of 1/x, IEEE limits at the special inputs. -/
def recipF (x : W32) : W32 :=
  match f32 x with
  | .nan => 0x7FC00000
  | .inf neg => BitVec.ofNat 32 (fp32.sign neg)
  | .fin neg m e =>
    if m = 0 then BitVec.ofNat 32 (fp32.sign neg + 0x7F800000)
    else
      let v : FVal := .fin neg (2 ^ 320 / m) (-320 - e)
      bounded (Config.primRecip x) v 1 v.ulpExp

/-- rsqrt: within 1 ulp of 1/√x, IEEE limits at the special inputs. -/
def rsqrtF (x : W32) : W32 :=
  match f32 x with
  | .nan => 0x7FC00000
  | .inf neg => if neg then 0x7FC00000 else 0
  | .fin neg m e =>
    if m = 0 then BitVec.ofNat 32 (fp32.sign neg + 0x7F800000)
    else if neg then 0x7FC00000
    else
      let m2 := if e % 2 = 0 then m else 2 * m
      let h := if e % 2 = 0 then e / 2 else (e - 1) / 2
      let v : FVal := .fin false (Nat.sqrt (2 ^ 400 / m2)) (-200 - h)
      bounded (Config.primRsqrt x) v 1 v.ulpExp

/-- exp: within 2 ulp for results of 2⁻¹²⁶ or more, 2⁻¹⁴⁹ absolute below. -/
def expF (x : W32) : W32 :=
  match f32 x with
  | .nan => 0x7FC00000
  | .inf neg => if neg then 0 else 0x7F800000
  | .fin neg m e =>
    let v := ofInt (fxExp (fxOf neg m e)) (-400) false
    if leDyadic 1 (-126) (fxExp (fxOf neg m e)).toNat (-400) then bounded (Config.primExp x) v 2 v.ulpExp
    else bounded (Config.primExp x) v 1 (-149)

/-- log: within 2 ulp. -/
def logF (x : W32) : W32 :=
  match f32 x with
  | .nan => 0x7FC00000
  | .inf neg => if neg then 0x7FC00000 else 0x7F800000
  | .fin neg m e =>
    if m = 0 then 0xFF800000
    else if neg then 0x7FC00000
    else
      let v := ofInt (fxLog m e) (-400) false
      bounded (Config.primLog x) v 2 v.ulpExp

/-- tanh, sigmoid and erf: within 2 ulp or 2⁻³⁰ absolute, whichever is larger. -/
def tanhF (x : W32) : W32 :=
  match f32 x with
  | .nan => 0x7FC00000
  | .inf neg => if neg then 0xBF800000 else 0x3F800000
  | .fin neg m e =>
    let y := fxExp (2 * fxOf neg m e)
    bounded2 (Config.primTanh x) (ofInt (fxDiv (y - fxOne) (y + fxOne)) (-400) false)
def sigmoidF (x : W32) : W32 :=
  match f32 x with
  | .nan => 0x7FC00000
  | .inf neg => if neg then 0 else 0x3F800000
  | .fin neg m e =>
    let y := fxExp (fxOf neg m e)
    bounded2 (Config.primSigmoid x) (ofInt (fxDiv y (fxOne + y)) (-400) false)
def erfF (x : W32) : W32 :=
  match f32 x with
  | .nan => 0x7FC00000
  | .inf neg => if neg then 0xBF800000 else 0x3F800000
  | .fin neg m e => bounded2 (Config.primErf x) (ofInt (fxErf (fxOf neg m e)) (-400) false)

end Sys2Proof.Machine
end

