-- ==== Sys2Proof/Machine/RowFn.lean ====
section
/-! DEFINITION. What the row engine computes (R197 to R206): rows read and widened, sums and maxima along a row, and each
function by its sequence of FP32 operations. -/

namespace Sys2Proof.Machine
open Sys2Proof

/-! ## The descriptor (R197) -/

structure RowDesc where
  xScale : Nat
  xBlk : Nat
  xBase : Nat
  yScale : Nat
  yBlk : Nat
  yBase : Nat
  zScale : Nat
  zBlk : Nat
  zBase : Nat
  fn : Nat
  sr : Bool
  cls : Nat
  zFmt : Nat
  yFmt : Nat
  xFmt : Nat
  p : Nat
  maskOff : Int
  len : Nat
  rows : Nat
  layer : Nat
  zPitch : Nat
  yPitch : Nat
  xPitch : Nat
  tensor : Nat
  elem : Nat
  step : Nat
  alpha : W32
  deriving DecidableEq, Repr

def rowDesc (d : List W64) : RowDesc where
  xScale := wbits d 0 61 32
  xBlk := blockSize (wbits d 0 31 30)
  xBase := wbits d 0 29 0
  yScale := wbits d 1 61 32
  yBlk := blockSize (wbits d 1 31 30)
  yBase := wbits d 1 29 0
  zScale := wbits d 2 61 32
  zBlk := blockSize (wbits d 2 31 30)
  zBase := wbits d 2 29 0
  fn := wbits d 3 51 44
  sr := wbits d 3 42 42 == 1
  cls := wbits d 3 41 39
  zFmt := wbits d 3 38 36
  yFmt := wbits d 3 35 33
  xFmt := wbits d 3 32 30
  p := wbits d 3 29 0
  maskOff := (BitVec.ofNat 16 (wbits d 4 63 48)).toInt
  len := wbits d 4 47 24
  rows := wbits d 4 23 0
  layer := wbits d 5 63 48
  zPitch := wbits d 5 47 32 * 64
  yPitch := wbits d 5 31 16 * 64
  xPitch := wbits d 5 15 0 * 64
  tensor := wbits d 6 57 42
  elem := wbits d 6 41 0
  step := wbits d 7 63 32
  alpha := BitVec.ofNat 32 (wbits d 7 31 0)

/-- A gated function of WACT and WACTB (R204). -/
def RowDesc.gated (d : RowDesc) : Bool := d.fn == 5 || d.fn == 6
/-- Elements of an X row, and of a Z row. -/
def RowDesc.xLen (d : RowDesc) : RowOp → Nat | .act | .actB => if d.gated then 2 * d.len else d.len | _ => d.len
def RowDesc.zLen (d : RowDesc) : RowOp → Nat | .actB => if d.gated then 2 * d.len else d.len | _ => d.len
/-- Y is a row operand that is read (R205, R206). -/
def RowDesc.readsY (d : RowDesc) : RowOp → Bool
  | .normB | .smaxB | .actB => true | .ew => 1 ≤ d.fn && d.fn ≤ 3 | _ => false

/-- Bytes of a row of n elements, and its scales: one for each block of its own elements, so that a row of a gated function
with 2L elements has the scales of 2L (DEDUCED, notes/assumptions/78). -/
def rowBytes (fmt n : Nat) : Nat := (n * outHalf fmt + 1) / 2
def rowScales (blk n : Nat) : Nat := (n + blk - 1) / blk

/-! ## Rows widened to FP32 (R98, R106, R198) -/

/-- Encoding j of a row of elements. -/
def elemAt (m : Mem) (half base j : Nat) : Nat :=
  if half = 1 then (m.byte (base + j / 2)).toNat / 16 ^ (j % 2) % 16 else m.readN (base + j * (half / 2)) (half / 2)

/-- Row r of an operand as FP32 values, and how many widenings saturated. A pitch of zero repeats row 0. -/
def widenRow (m : Mem) (fmt blk base scale pitch n r : Nat) : List W32 × Nat :=
  let r := if pitch = 0 then 0 else r
  match outFmt fmt with
  | none => ([], 0)
  | some f =>
    let w (j : Nat) : Nat := elemAt m (outHalf fmt) (base + r * pitch) j
    let one (j : Nat) : W32 × Bool :=
      if isBsf fmt then
        widenScaled f (w j) (if scale = scaleNone then 127 else (m.byte (scale + r * rowScales blk n + j / blk)).toNat)
      else if fmt = 0 then (BitVec.ofNat 32 (w j), false)
      else (toF32 (f.decode (w j)), false)
    let vs := (List.range n).map one
    (vs.map (·.1), (vs.filter (·.2)).length)

def RowDesc.xRow (d : RowDesc) (m : Mem) (op : RowOp) (r : Nat) : List W32 × Nat :=
  widenRow m d.xFmt d.xBlk d.xBase d.xScale d.xPitch (d.xLen op) r
def RowDesc.yRow (d : RowDesc) (m : Mem) (r : Nat) : List W32 × Nat :=
  widenRow m d.yFmt d.yBlk d.yBase d.yScale d.yPitch d.len r

/-- L FP32 parameters, vector i after P_BASE. -/
def RowDesc.param (d : RowDesc) (m : Mem) (i : Nat) : List W32 :=
  (List.range d.len).map (fun j => BitVec.ofNat 32 (m.readN (d.p + 4 * (i * d.len + j)) 4))

/-! ## Sums and maxima (R199) -/

/-- What a lane adds: its terms in ascending index, from +0; a masked term takes no part. -/
def laneSum (ts : List (Option W32)) (lane : Nat) : W32 :=
  ts.zipIdx.foldl (fun a t => if t.2 % 512 = lane then (match t.1 with | some v => fAdd a v | none => a) else a) 0

/-- Step t of the tree. -/
def treeStep (v : List W32) (t : Nat) : List W32 :=
  v.zipIdx.map (fun x => if x.2 % 2 ^ (t + 1) = 0 then fAdd x.1 ((v[x.2 + 2 ^ t]?).getD 0) else x.1)

/-- row_sum. -/
def rowSumO (ts : List (Option W32)) : W32 :=
  (((List.range 9).foldl treeStep ((List.range 512).map (laneSum ts))).head?).getD 0
def rowSum (ts : List W32) : W32 := rowSumO (ts.map some)

/-- row_max: a NaN takes precedence; none when no element takes part. -/
def rowMax (ts : List (Option W32)) : Option W32 :=
  ts.foldl (fun b t =>
    match t with
    | none => b
    | some v =>
      if f32 v = .nan then some 0x7FC00000 else
      match b with
      | none => some v
      | some a => if f32 a = .nan then some a else
        match (f32 a).cmp (f32 v) with
        | some z => if z < 0 then some v else some a
        | none => some a) none

/-! ## Activation functions (R204) -/

def cHalf : W32 := 0x3F000000
def cNegHalf : W32 := 0xBF000000
def cOne : W32 := 0x3F800000
/-- 1/√2, 1/√(2π), 0.044715, √(2/π) and 0.134145 as the nearest FP32 values. -/
def c1 : W32 := 0x3F3504F3
def c2 : W32 := 0x3ECC422A
def c3 : W32 := 0x3D372713
def c4 : W32 := 0x3F4C422A
def c5 : W32 := 0x3E095D4F

/-- y if x > 0, the canonical NaN if x is NaN, +0 otherwise. -/
def reluPick (x y : W32) : W32 :=
  match f32 x with
  | .nan => 0x7FC00000
  | .inf n => if n then 0 else y
  | .fin n m _ => if !n && m != 0 then y else 0

/-- q, t and b of GELU_TANH. -/
def geluTanhQtb (x : W32) : W32 × W32 × W32 :=
  let q := fMul x x
  let m := fMul q c3
  let n := fMul m x
  let v := fAdd x n
  let y := fMul v c4
  let t := tanhF y
  (q, t, fAdd cOne t)

def geluErf (x : W32) : W32 :=
  let a := fMul x c1
  let e := erfF a
  let b := fAdd cOne e
  let h := fMul cHalf x
  fMul h b

/-- z of WACT, with the gate input g. -/
def actZ (fn : Nat) (x g : W32) : W32 :=
  match fn with
  | 0 => x
  | 1 => reluPick x x
  | 2 => geluErf x
  | 3 => fMul (fMul cHalf x) (geluTanhQtb x).2.2
  | 4 => fMul x (sigmoidF x)
  | 5 => fMul (fMul x (sigmoidF x)) g
  | 6 => fMul (geluErf x) g
  | 7 => sigmoidF x
  | _ => tanhF x

/-- w of SILU. -/
def siluW (x : W32) : W32 :=
  let s := sigmoidF x
  let t := fSub cOne s
  let u := fMul x t
  let v := fAdd cOne u
  fMul s v

/-- w of GELU_ERF. -/
def geluErfW (x : W32) : W32 :=
  let b := fAdd cOne (erfF (fMul x c1))
  let p := fMul cHalf b
  let q := fMul x x
  let r := fMul q cNegHalf
  let g := expF r
  let k := fMul x c2
  let m := fMul k g
  fAdd p m

/-- w of GELU_TANH. -/
def geluTanhW (x : W32) : W32 :=
  let (q, t, b) := geluTanhQtb x
  let p := fMul cHalf b
  let u := fMul t t
  let o := fSub cOne u
  let j := fMul q c5
  let k := fAdd cOne j
  let l := fMul k c4
  let r := fMul x o
  let s := fMul r l
  let d := fMul cHalf s
  fAdd p d

/-- dx and dg of WACTB. -/
def actB (fn : Nat) (x g dz : W32) : W32 × W32 :=
  match fn with
  | 0 => (dz, 0)
  | 1 => (reluPick x dz, 0)
  | 2 => (fMul dz (geluErfW x), 0)
  | 3 => (fMul dz (geluTanhW x), 0)
  | 4 => (fMul dz (siluW x), 0)
  | 5 => (fMul (fMul dz g) (siluW x), fMul dz (fMul x (sigmoidF x)))
  | 6 => (fMul (fMul dz g) (geluErfW x), fMul dz (geluErf x))
  | 7 => (let s := sigmoidF x; fMul dz (fMul s (fSub cOne s)), 0)
  | _ => (let t := tanhF x; fMul dz (fSub cOne (fMul t t)), 0)

/-- WEW (R205). -/
def ewZ (fn : Nat) (alpha x y : W32) : W32 :=
  match fn with
  | 0 => x
  | 1 => fAdd x y
  | 2 => fMul x y
  | 3 => fAdd (fMul alpha x) y
  | _ => fMul alpha x

/-! ## Rows (R200 to R206) -/

/-- What a row gives: its Z values, its statistics, and what its function leaves besides. -/
structure RowRes where
  z : List W32
  stat : Option (W32 × W32)
  loss : W32
  /-- The products added into dγ, and the values added into dβ. -/
  dg : List W32
  db : List W32
  deriving DecidableEq, Repr

def RowRes.of (z : List W32) : RowRes := ⟨z, none, 0, [], []⟩

/-- Two lists combined element by element, a missing element of the second as +0. -/
def zipF (f : W32 → W32 → W32) (a b : List W32) : List W32 := a.zipIdx.map (fun x => f x.1 ((b[x.2]?).getD 0))

/-- WNORM (R200). -/
def normRow (d : RowDesc) (gamma beta x : List W32) : RowRes :=
  let invL := recipF (natToF d.len)
  let mean : W32 := if d.fn.testBit 0 then 0 else fMul (rowSum x) invL
  let dv := x.map (fSub · mean)
  let var := fMul (rowSum (dv.map (fun t => fMul t t))) invL
  let rstd := rsqrtF (fAdd var d.alpha)
  let z := dv.map (fMul · rstd)
  let z := if d.fn.testBit 1 then zipF fMul z gamma else z
  let z := if d.fn.testBit 2 then zipF fAdd z beta else z
  { RowRes.of z with stat := if d.fn.testBit 6 then none else some (mean, rstd) }

/-- WNORMB (R201). -/
def normBRow (d : RowDesc) (st : W32 × W32) (gamma x dz : List W32) : RowRes :=
  let invL := recipF (natToF d.len)
  let xh := x.map (fun v => fMul (fSub v st.1) st.2)
  let gd := zipF fMul dz gamma
  let c1 : W32 := if d.fn.testBit 0 then 0 else fMul (rowSum gd) invL
  let c2 := fMul (rowSum (zipF fMul gd xh)) invL
  { RowRes.of (zipF (fun a h => fMul (fSub (fSub a c1) (fMul h c2)) st.2) gd xh) with
    dg := zipF fMul dz xh, db := if d.fn.testBit 2 then dz else [] }

/-- α × x for each element that the mask of row r leaves (R202). -/
def maskedRow (d : RowDesc) (r : Nat) (x : List W32) : List (Option W32) :=
  x.zipIdx.map (fun v => if d.fn % 4 = 1 && decide ((r : Int) + d.maskOff < (v.2 : Int)) then none else some (fMul d.alpha v.1))

/-- WSMAX (R202). -/
def smaxRow (d : RowDesc) (r : Nat) (x : List W32) : RowRes :=
  let y := maskedRow d r x
  let keep : Bool := !d.fn.testBit 6
  match rowMax y with
  | none => { RowRes.of (x.map (fun _ => 0)) with stat := if keep then some (0, 0) else none }
  | some m =>
    let e := y.map (Option.map (fun v => expF (fSub v m)))
    let s := rowSumO e
    let q := recipF s
    { RowRes.of (e.map (fun v => match v with | some v => fMul v q | none => 0)) with
      stat := if keep then some (m, s) else none }

/-- WSMAXB (R203). -/
def smaxBRow (d : RowDesc) (r : Nat) (st : W32 × W32) (x dz : List W32) : RowRes :=
  let q := recipF st.2
  let z := (maskedRow d r x).map (Option.map (fun v => fMul (expF (fSub v st.1)) q))
  let t := rowSumO (z.zipIdx.map (fun v => v.1.map (fun u => fMul ((dz[v.2]?).getD 0) u)))
  RowRes.of (z.zipIdx.map (fun v => match v.1 with
    | some u => fMul (fMul d.alpha u) (fSub ((dz[v.2]?).getD 0) t)
    | none => 0))

/-- WLOSS (R206), with target t. -/
def lossRow (d : RowDesc) (t : Nat) (x : List W32) : RowRes :=
  if d.len ≤ t then { RowRes.of (x.map (fun _ => 0)) with loss := 0 } else
  match rowMax (x.map some) with
  | none => RowRes.of []
  | some m =>
    let e := x.map (fun v => expF (fSub v m))
    let s := rowSum e
    let q := recipF s
    { RowRes.of (e.zipIdx.map (fun v => if v.2 = t then fMul (fSub (fMul v.1 q) cOne) d.alpha else fMul (fMul v.1 q) d.alpha)) with
      loss := fSub (fAdd (logF s) m) ((x[t]?).getD 0) }

/-- WACT and WACTB: the gate input is the second half of the row. -/
def actRow (d : RowDesc) (x : List W32) : RowRes :=
  RowRes.of ((x.take d.len).zipIdx.map (fun v => actZ d.fn v.1 ((x[d.len + v.2]?).getD 0)))
def actBRow (d : RowDesc) (x dz : List W32) : RowRes :=
  let r := (x.take d.len).zipIdx.map (fun v => actB d.fn v.1 ((x[d.len + v.2]?).getD 0) ((dz[v.2]?).getD 0))
  RowRes.of (r.map (·.1) ++ if d.gated then r.map (·.2) else [])

/-- Row r of a command, from the core store m and its statistics entry: the result, and widenings that saturated. -/
def rowRes (op : RowOp) (d : RowDesc) (m : Mem) (st : W32 × W32) (r : Nat) : RowRes × Nat :=
  let x := d.xRow m op r
  let y : List W32 × Nat := if d.readsY op then d.yRow m r else ([], 0)
  let sat := x.2 + y.2
  match op with
  | .norm => (normRow d (d.param m 0) (d.param m 1) x.1, sat)
  | .normB => (normBRow d st (d.param m 0) x.1 y.1, sat)
  | .smax => (smaxRow d r x.1, sat)
  | .smaxB => (smaxBRow d r st x.1 y.1, sat)
  | .act => (actRow d x.1, sat)
  | .actB => (actBRow d x.1 y.1, sat)
  | .ew => (RowRes.of (zipF (ewZ d.fn d.alpha) x.1 y.1), sat)
  | .loss => (lossRow d (m.readN (d.yBase + 4 * r) 4) x.1, sat)

end Sys2Proof.Machine
end

