-- ==== Sys2Proof/Machine/Row.lean ====
section
/-! DEFINITION. The W class at issue (R133, R197, R198, R210), the statistics memory and its spill (R207, R288), and what a
command of the row engine does. -/

namespace Sys2Proof.Machine
open Sys2Proof

/-! ## Issue -/

/-- A reserved FN value (R200 to R206). -/
def rowFnBad (op : RowOp) (fn : Nat) : Bool :=
  match op with
  | .norm => fn &&& 0x47 != fn
  | .normB => fn &&& 0x85 != fn
  | .smax => fn &&& 0x43 != fn || 1 < fn % 4
  | .smaxB => fn &&& 0x83 != fn || 1 < fn % 4
  | .act | .actB => 8 < fn
  | .ew => 4 < fn
  | .loss => fn != 0

/-- ROW_FORMAT (R210). -/
def rowFormatBad (op : RowOp) (d : RowDesc) : Bool :=
  rowFnBad op d.fn || 5 < d.xFmt || 5 < d.zFmt || (op != .loss && 5 < d.yFmt) || 4 < d.cls
    || ((op = .norm || op = .normB) && 65536 < d.len) || (isBsf d.zFmt && d.zScale = scaleNone)

/-- The extent of `rows` rows of n elements, and of their scales. -/
def rowExtent (rows pitch fmt n : Nat) : Nat := (if pitch = 0 then 0 else (rows - 1) * pitch) + rowBytes fmt n
def rowScaleExtent (rows pitch blk n : Nat) : Nat := (if pitch = 0 then 1 else rows) * rowScales blk n

/-- The checks of a W-class instruction (R198, R210): the words with redirected addresses, or the fault. -/
def State.checkRow (s : State) (c : CoreId) (q : SeqId) (win : Option (Fin 2)) (op : RowOp) (w : List W64) :
    Except EvName (List W64) :=
  let d := rowDesc w
  if !zeroBits w [(0, 63, 62), (1, 63, 62), (2, 63, 62), (3, 63, 52), (3, 43, 43), (6, 63, 58)] then .error .xIllegal
  else if rowFormatBad op d then .error .rowFormat
  else if d.rows = 0 || d.len = 0 then .ok w
  else
    let zBytes := rowBytes d.zFmt (d.zLen op)
    if 1 < d.rows && d.zPitch < zBytes then .error .xIllegal
    else
      let xS := isBsf d.xFmt && d.xScale != scaleNone
      let yR := d.readsY op
      let yS := yR && isBsf d.yFmt && d.yScale != scaleNone
      let zS := isBsf d.zFmt
      let pRead := match op with
        | .norm => if d.fn.testBit 2 then 2 else if d.fn.testBit 1 then 1 else 0
        | .normB => if d.fn.testBit 2 then 3 else 2
        | _ => 0
      let pUsed := pRead != 0 || op = .loss
      if d.xBase % 64 != 0 || (xS && d.xScale % 64 != 0) || ((yR || op = .loss) && d.yBase % 64 != 0)
          || (yS && d.yScale % 64 != 0) || d.zBase % 64 != 0 || (zS && d.zScale % 64 != 0) || (pUsed && d.p % 64 != 0) then
        .error .xAlign
      else
        match s.checkExtents c q win
          [⟨d.xBase, rowExtent d.rows d.xPitch d.xFmt (d.xLen op), false⟩,
           ⟨d.xScale, if xS then rowScaleExtent d.rows d.xPitch d.xBlk (d.xLen op) else 0, false⟩,
           ⟨d.yBase, if yR then rowExtent d.rows d.yPitch d.yFmt d.len else if op = .loss then 4 * d.rows else 0, false⟩,
           ⟨d.yScale, if yS then rowScaleExtent d.rows d.yPitch d.yBlk d.len else 0, false⟩,
           ⟨d.zBase, (d.rows - 1) * d.zPitch + zBytes, true⟩,
           ⟨d.zScale, if zS then d.rows * rowScales d.zBlk (d.zLen op) else 0, true⟩,
           ⟨d.p, 4 * d.len * pRead, false⟩,
           ⟨if op = .loss then d.p else d.p + 4 * d.len,
            if op = .loss then 4 * d.rows else if op = .normB then 4 * d.len * (pRead - 1) else 0, true⟩] with
        | .error e => .error e
        | .ok [x, xs, y, ys, z, zs, p, pw] =>
          .ok (putOff (putOff (putOff (putOff (putOff (putOff (putOff w 0 0 x) 0 32 xs) 1 0 y) 1 32 ys) 2 0 z) 2 32 zs) 3 0
            (if op = .loss then pw else p))
        | .ok _ => .ok w

/-- A W-class instruction (R133, R134): it waits for the row engine's queue and its arbiter, then is checked and
accepted. -/
def State.issueW (s : State) (c : CoreId) (q : SeqId) (w : EF) (op : RowOp) : Out :=
  s.issueE c q w (w.xf != 0) (fun s x => s.withDesc c q w.sd w.doff.toNat 64 (fun d =>
    if !s.hasRoom c .row || s.arbiter c .row q != some q then .wait s else
    let o := s.originE c q x w.hv w.hid w.sb
    match s.checkRow c q o.win op d with
    | .error e => .fault e []
    | .ok d => .retire ((((s.grant c .row q).rouse 4 c (s.core c).rowHolds).modCore c (fun k => { k with rowQ := k.rowQ ++ [⟨op, d, o⟩] })).accepted c q)))

def execWnorm (c : CoreId) (q : SeqId) (w : EF) (s : State) : Out := s.issueW c q w .norm
def execWnormb (c : CoreId) (q : SeqId) (w : EF) (s : State) : Out := s.issueW c q w .normB
def execWsmax (c : CoreId) (q : SeqId) (w : EF) (s : State) : Out := s.issueW c q w .smax
def execWsmaxb (c : CoreId) (q : SeqId) (w : EF) (s : State) : Out := s.issueW c q w .smaxB
def execWact (c : CoreId) (q : SeqId) (w : EF) (s : State) : Out := s.issueW c q w .act
def execWactb (c : CoreId) (q : SeqId) (w : EF) (s : State) : Out := s.issueW c q w .actB
def execWew (c : CoreId) (q : SeqId) (w : EF) (s : State) : Out := s.issueW c q w .ew
def execWloss (c : CoreId) (q : SeqId) (w : EF) (s : State) : Out := s.issueW c q w .loss

/-! ## The statistics memory (R207, R288) -/

def Stat.is (e : Stat) (x : CtxId) (layer tensor mb gen : BitVec 16) (row : Nat) : Bool :=
  e.ctx = x && e.layer = layer && e.tensor = tensor && e.mb = mb && e.gen = gen && e.row.toNat = row

/-- The key of row r of a command. -/
def RowCmd.isKey (k : RowCmd) (r : Nat) (e : Stat) : Bool :=
  e.is k.org.ctx (BitVec.ofNat 16 (rowDesc k.desc).layer) (BitVec.ofNat 16 (rowDesc k.desc).tensor) k.org.mb k.org.gen r

def statRoom : Nat := 524288
/-- Entries in the memory itself. -/
def Core.resident (k : Core) : List Stat := k.stats.filter (fun e => e.line.isNone)

/-- How a statistics access that may spill or fetch ends. -/
inductive StatRes where
  | ok
  | stall
  | refused (va : Nat)
  deriving DecidableEq, Repr

/-- The lowest free line of 256 B of the HBM stash region: in a page of lines, else in a free page. -/
def State.statLine (s : State) (c : CoreId) : Option Nat :=
  let k := s.core c
  let used := k.stats.filterMap (fun e => e.line.map (·.1))
  match (k.statPages.flatMap (fun p => (List.range 16).map (16 * p + ·))).find? (fun l => !used.contains l) with
  | some l => some l
  | none => (s.hbmRoom c 1).bind (fun ps => ps.head?.map (16 * ·))

/-- Bytes of a statistics entry. -/
def Stat.bytes (e : Stat) : List Byte := leBytes e.v0.toNat 4 ++ leBytes e.v1.toNat 4

/-- Spill the 32 oldest entries that are not speculative as one line (R288). -/
def State.spillStats (s : State) (c : CoreId) (p : CoreId) : State × StatRes :=
  let k := s.core c
  let old := ((k.resident.filter (fun e => e.win.isNone)).take 32)
  if old.length < 32 then (s, .stall) else
  let r := s.dropFor c (k.ctx.getD 0) (fun s => s.statLine c) k.stash.length
  match r.2 with
  | none => (r.1, .stall)
  | some l =>
    let w := r.1.devWrite (.core c) p (r.1.hstashVa c + l * 256) (old.flatMap Stat.bytes) unitRow
    match w.2 with
    | some va => (w.1, .refused va)
    | none =>
      ((w.1.modCore c (fun k => { k with stats := k.stats.map (fun e =>
          match old.findIdx? (· = e) with
          | some i => { e with line := some (l, Fin.ofNat 32 i), v0 := 0, v1 := 0 }
          | none => e) })).bump (Reg.STORE_STASH_SPILLS c) 1, .ok)

/-- Make room for n entries. -/
def State.statSpace (s : State) (c : CoreId) (p : CoreId) (n : Nat) : Nat → State × StatRes
  | 0 => (s, .ok)
  | fuel + 1 =>
    if (s.core c).resident.length + n ≤ statRoom then (s, .ok) else
    let r := s.spillStats c p
    match r.2 with
    | .ok => r.1.statSpace c p n fuel
    | e => (r.1, e)

/-- Write the entry of row r of a command (R207). -/
def State.statWrite (s : State) (c : CoreId) (k : RowCmd) (r : Nat) (v : W32 × W32) : State × StatRes :=
  let p := (s.ctx k.org.ctx).part
  let s := s.modCore c (fun z => { z with stats := z.stats.filter (fun e => !k.isKey r e) })
  let t := s.statSpace c p 1 (statRoom + 1)
  match t.2 with
  | .ok =>
    (t.1.modCore c (fun z => { z with stats := z.stats ++ [{
      ctx := k.org.ctx, layer := BitVec.ofNat 16 (rowDesc k.desc).layer, tensor := BitVec.ofNat 16 (rowDesc k.desc).tensor
      mb := k.org.mb, gen := k.org.gen, row := BitVec.ofNat 24 r, v0 := v.1, v1 := v.2, win := k.org.win, line := none }] }), .ok)
  | e => (t.1, e)

/-- Fetch a spilled line back (R288): its entries are resident again, the youngest. -/
def State.fetchLine (s : State) (c : CoreId) (p : CoreId) (l : Nat) : State × StatRes :=
  let r := s.devRead (.core c) p (s.hstashVa c + l * 256) 256
  match r.2 with
  | .error va => (r.1, .refused va)
  | .ok bs =>
    let mine := (r.1.core c).stats.filter (fun e => match e.line with | some x => x.1 = l | none => false)
    let back := mine.map (fun e =>
      let i := (match e.line with | some x => x.2.val | none => 0)
      { e with line := none, v0 := BitVec.ofNat 32 (leNat ((bs.drop (8 * i)).take 4))
               v1 := BitVec.ofNat 32 (leNat ((bs.drop (8 * i + 4)).take 4)) })
    let s := r.1.modCore c (fun k => { k with stats := k.stats.filter (fun e => match e.line with | some x => x.1 != l | none => true) })
    let t := s.statSpace c p back.length (statRoom + 1)
    match t.2 with
    | .ok => (t.1.modCore c (fun k => { k with stats := k.stats ++ back }), .ok)
    | e => (r.1, e)

/-- The entries of rows 0 up, fetched where they are spilled. -/
def State.statRead (s : State) (c : CoreId) (k : RowCmd) : List Nat → State × StatRes × List (W32 × W32)
  | [] => (s, .ok, [])
  | r :: t =>
    let p := (s.ctx k.org.ctx).part
    let f : State × StatRes := match (s.core c).stats.find? (k.isKey r) with
      | some e => (match e.line with | some l => s.fetchLine c p l.1 | none => (s, .ok))
      | none => (s, .ok)
    match f.2 with
    | .ok =>
      let v := match (f.1.core c).stats.find? (k.isKey r) with | some e => (e.v0, e.v1) | none => (0, 0)
      let u := State.statRead f.1 c k t
      (u.1, u.2.1, v :: u.2.2)
    | e => (f.1, e, [])

/-! ## A command (R208) -/

/-- Write row r of Z (R198): elements, scales and counts; the draws of R198 with SR. -/
def State.putRow (s : State) (c : CoreId) (k : RowCmd) (r : Nat) (z : List W32) : State :=
  let d := rowDesc k.desc
  let pos : DrawPos := ⟨1, d.layer, d.tensor, k.org.mb.toNat, d.step, (s.ctx k.org.ctx).seed⟩
  let rnd (j : Nat) : Rnd := if d.sr then .draw (drawOf pos ((d.elem + r * d.len + j) % 2 ^ 42)) else .rne
  let o := convRow d.zFmt d.zBlk rnd z
  let s := s.modStore c (fun m => Mem.setBytes m (d.zBase + r * d.zPitch) (packElems (outHalf d.zFmt) o.elems))
  let s := if isBsf d.zFmt then
    s.modStore c (fun m => Mem.setBytes m (d.zScale + r * rowScales d.zBlk z.length) (o.scales.map (BitVec.ofNat 8))) else s
  s.countConv c k.org.win d.cls o.sat o.nonfin o.under

/-- A row's term added into a vector. -/
def addInto (acc term : List W32) : List W32 := if term.isEmpty then acc else zipF fAdd acc term

def wordsBytes (vs : List W32) : List Byte := vs.flatMap (fun v => leBytes v.toNat 4)

/-- Infinities and NaNs among values that are written in FP32 (R105). -/
def nonfinite (vs : List W32) : Nat := (vs.filter (fun v => match f32 v with | .fin .. => false | _ => true)).length

/-- Everything a command writes, from the core store as its start finds it and its rows' statistics (R200 to R206). The loss, dγ and dβ are written in FP32, and
their non-finite values are counted (R105). -/
def State.writeRows (s : State) (c : CoreId) (k : RowCmd) (sts : List (W32 × W32)) : State :=
  let d := rowDesc k.desc
  let m := (s.core c).store
  let rs := (List.range d.rows).map (fun r => rowRes k.op d m ((sts[r]?).getD (0, 0)) r)
  let s := (rs.zipIdx).foldl (fun s r => (s.putRow c k r.2 r.1.1.z).countConv c k.org.win d.cls r.1.2 0 0) s
  let count (s : State) (vs : List W32) : State := s.countConv c k.org.win d.cls 0 (nonfinite vs) 0
  let s := if k.op = .loss then
    (count s (rs.map (·.1.loss))).modStore c (fun m => (rs.zipIdx).foldl (fun m r => Mem.writeN m (d.p + 4 * r.2) r.1.1.loss.toNat 4) m) else s
  if k.op = .normB then
    let dg := rs.foldl (fun a r => addInto a r.1.dg) (d.param m 1)
    let db := rs.foldl (fun a r => addInto a r.1.db) (d.param m 2)
    (count s (dg ++ if d.fn.testBit 2 then db else [])).modStore c (fun m =>
      let m := Mem.setBytes m (d.p + 4 * d.len) (wordsBytes dg)
      if d.fn.testBit 2 then Mem.setBytes m (d.p + 8 * d.len) (wordsBytes db) else m)
  else s

/-- The statistics a command writes, row by row. -/
def State.writeStats (s : State) (c : CoreId) (k : RowCmd) : List (Nat × (W32 × W32)) → State × StatRes
  | [] => (s, .ok)
  | r :: t =>
    let x := s.statWrite c k r.1 r.2
    match x.2 with
    | .ok => State.writeStats x.1 c k t
    | e => (x.1, e)

/-- A command that waits for room in the statistics memory (R288): X_STASH_FULL once, or the fault at once. -/
def State.rowStall (s : State) (c : CoreId) (k : RowCmd) : State :=
  if s.exhaustNs c = 0 then
    (s.modCore c (fun z => { z with rowQ := z.rowQ.tail, rowStallAt := none })).seqFault k.org .xStashExhausted []
  else if (s.core c).rowStallAt.isSome then s
  else (s.raiseRec .xStashFull false ⟨some k.org.ctx, some c, some k.org.seq⟩ 0 []).modCore c (fun z => { z with rowStallAt := some s.ptb })

/-- The command at the head of the row engine's queue runs and completes (R208, R210). -/
def execRowCommandComplete (c : CoreId) (s : State) : Out :=
  match (s.core c).rowQ with
  | [] => .next s
  | k :: t =>
    let d := rowDesc k.desc
    let pop (s : State) : State := (s.beat 4 c).modCore c (fun z => { z with rowQ := t, rowStallAt := none })
    let fault (s : State) (e : EvName) (is : List Item) : Out := .next (((pop s).seqFault k.org e is).freeEnded k.org.ctx)
    if d.rows = 0 || d.len = 0 then .next (((pop s).complete k.org unitRow).freeEnded k.org.ctx)
    else
      let backs := k.op = .normB || k.op = .smaxB
      let rows := List.range d.rows
      if backs && rows.any (fun r => !(s.core c).stats.any (k.isKey r)) then fault s .rowStatMissing []
      else
        let sts := if backs then s.statRead c k rows else (s, .ok, [])
        match sts.2.1 with
        | .refused va => fault sts.1 .strPerm [.word va]
        | .stall => .next (sts.1.rowStall c k)
        | .ok =>
          let m := (s.core c).store
          let outs := if k.op = .norm || k.op = .smax then
            rows.filterMap (fun r => ((rowRes k.op d m (0, 0) r).1.stat).map (fun v => (r, v))) else []
          let w := sts.1.writeStats c k outs
          match w.2 with
          | .refused va => fault w.1 .strPerm [.word va]
          | .stall => .next (w.1.rowStall c k)
          | .ok =>
            let s := w.1.writeRows c k sts.2.2
            let s := if backs && d.fn.testBit 7 then
              (s.modCore c (fun z => { z with stats := z.stats.filter (fun e => !rows.any (fun r => k.isKey r e)) })).stashFreed c
              else s
            .next (((pop s).complete k.org unitRow).freeEnded k.org.ctx)

end Sys2Proof.Machine
end

