-- ==== Sys2Proof/Machine/Stops.lean ====
section
/-! DEFINITION. Stops, saves and restores of contexts (R152 to R157, R240, R409, R410), heats (R403 to R407) and the charging
of energy (R413). -/

namespace Sys2Proof.Machine
open Sys2Proof

/-! ## Stops (R154) -/

/-- Request a stop of a context on every core: sequencers run on to their next cheap points; one that waits is at one. -/
def State.requestStop (s : State) (x : CtxId) (why : StopFor) : State :=
  let s := s.modCtx x (fun k => { k with state := .stopping, stopFor := why })
  let s := (s.boundCores x).foldl (fun s c => allSeqs.foldl (fun s q =>
    s.modSeq c q (fun z => match z.state with
      | .run => { z with state := .stopping, stopHold := false, stopAt := s.ptb }
      | .wait => { z with state := .stopped, stopHold := false }
      | _ => z)) s) s
  s.settleStop x

/-- The sequencers of a core of a stopped context are all stopped or ended. -/
def State.coreHalted (s : State) (c : CoreId) : Bool :=
  allSeqs.all (fun q => match (s.seq c q).state with | .stopped | .ended => true | _ => false)

/-- A restore of the context runs: nothing of it is on the cores yet (R404). -/
def State.restoring (s : State) (x : CtxId) : Bool :=
  (s.part (s.ctx x).part).switching && !(s.ctx x).saving && !(s.boundCores x).isEmpty
    && (s.boundCores x).all (fun c => allSeqs.all (fun q => (s.seq c q).state = .idle))

/-! ## Live ranges (R152, R153) -/

structure Live where
  s : W32
  a : BitVec 16
  p : BitVec 8
  banks : BitVec 2
  ranges : List (Nat × Nat)
  deriving DecidableEq, Repr

def Live.empty : Live := ⟨0, 0, 0, 0, []⟩

/-- The range words of a descriptor, each inside a region of the context. -/
def State.liveRanges (s : State) (c : CoreId) : List W64 → Except EvName (List (Nat × Nat))
  | [] => .ok []
  | w :: t =>
    let off := w.toNat % 2 ^ 30
    let len := bitsOf w.toNat 55 32 * 64
    if len = 0 then s.liveRanges c t
    else if off % 64 != 0 then .error .xAlign
    else if (s.regionOf c off len).isNone then .error .xRegion
    else match s.liveRanges c t with
      | .ok r => .ok ((off, len) :: r)
      | e => e

/-- What a stopped sequencer's live-range descriptor names; an ENDED one names nothing. The descriptor is read with the
sequencer's execute permission on its CODE region (DESIGN CHOICE, notes/assumptions/76). -/
def State.live (s : State) (c : CoreId) (q : SeqId) : Except EvName Live :=
  let z := s.seq c q
  match (if z.state = .ended then none else z.lrp) with
  | none => .ok Live.empty
  | some o =>
    let off := o.toNat
    if (s.permitted c q .exec off 8).isNone then .error .xRegion else
    let h := (Mem.readN (s.core c).store off 8)
    let n := h % 32
    if 16 < n then .error .xDescriptor
    else if n != 0 && (s.permitted c q .exec off (8 + 8 * n)).isNone then .error .xRegion
    else match s.liveRanges c (Mem.words (s.core c).store (off + 8) n) with
      | .ok r => .ok ⟨BitVec.ofNat 32 (bitsOf h 63 32), BitVec.ofNat 16 (bitsOf h 31 16), BitVec.ofNat 8 (bitsOf h 15 8),
          BitVec.ofNat 2 (bitsOf h 7 6), r⟩
      | .error e => .error e

/-! ## Frames (R156, R409, R410) -/

/-- A bank drained without conversion: a poisoned entry is the canonical NaN (R62, R80). -/
def drained (b : Bank) : Bank :=
  { b with cells := b.cells.filterMap (fun kv =>
      let v : W32 := if kv.2.2 then 0x7FC00000 else kv.2.1
      if v = 0 then none else some (kv.1, (v, false))) }

/-- The banks that a sequencer's descriptor names and the sequencer owns. -/
def State.liveBanks (s : State) (c : CoreId) (q : SeqId) (l : Live) : List (Fin 2 × Bank) :=
  ([0, 1] : List (Fin 2)).filterMap (fun b =>
    let z := s.bank c b
    if l.banks.getLsbD b && z.owner = some q && (z.state = .loaded || z.state = .full) then some (b, drained z) else none)

/-- A slot saved with its position (R240): one that is HALTED, or that waits on its gate or its credits. -/
def savedSlot (x : CtxId) (z : Slot) : Bool :=
  z.cur.org.ctx = x && (match z.state with | .halted | .armed | .running => true | _ => false)

/-- The frame of a core of a context, or the fault of the stop with the sequencer it belongs to. -/
def State.frameOf (s : State) (c : CoreId) (x : CtxId) : Except (EvName × SeqId) SavedCore :=
  match s.live c .F, s.live c .B, s.live c .U with
  | .error e, _, _ => .error (e, .F)
  | _, .error e, _ => .error (e, .B)
  | _, _, .error e => .error (e, .U)
  | .ok f, .ok b, .ok u =>
    let ranges := f.ranges ++ b.ranges ++ u.ranges
    let k := s.core c
    if (s.ctx x).saveStore && (s.ctx x).stride.toNat * 2 ^ 21 < 0x810000 + (ranges.map (·.2)).sum then .error (.xSaveOverflow, .F)
    else .ok {
      seqs := k.seqs, sMask := #v[f.s, b.s, u.s], aMask := #v[f.a, b.a, u.a], pMask := #v[f.p, b.p, u.p]
      sentinel := BitVec.ofNat 32 (s.fld (Reg.ARR_SENTINEL c) 4 0)
      banks := s.liveBanks c .F f ++ s.liveBanks c .B b ++ s.liveBanks c .U u
      ranges := ranges
      str := (List.range 32).filterMap (fun j =>
        let z := vget k.str (Fin.ofNat 32 j)
        if savedSlot x z then some (Fin.ofNat 32 j, z) else none)
      gth := (List.range 8).filterMap (fun j =>
        let z := vget k.gth (Fin.ofNat 8 j)
        if savedSlot x z then some (Fin.ofNat 8 j, z) else none)
      valid := false }

/-- DONE and CANCELLED slots of a context return to IDLE at a stop (R240). -/
def idleSlot (x : CtxId) (z : Slot) : Slot :=
  if z.cur.org.ctx = x && (z.state = .done || (z.state = .cancelled && z.reqs.isEmpty)) then { Slot.reset with faultVa := z.faultVa } else z

/-- The frames of the cores from the i-th on; the first fault stops the context. -/
def State.takeFrames (s : State) (x : CtxId) : List (CoreId × Nat) → State × Bool
  | [] => (s, true)
  | (c, i) :: t =>
    match s.frameOf c x with
    | .error (e, q) => (s.seqFault ⟨x, c, q, (s.seq c q).pc, none, false, 0, 0, 0⟩ e [], false)
    | .ok f =>
      let s := s.modCtx x (fun k => { k with frames := vset k.frames (Fin.ofNat 8 i) f })
      ((s.modCore c (fun k => { k with str := k.str.map (idleSlot x), gth := k.gth.map (idleSlot x) })).unwatchIdle c).takeFrames x t

/-- The cores of a context with their positions. -/
def State.placedCores (s : State) (x : CtxId) : List (CoreId × Nat) := (s.boundCores x).zipIdx

/-- After a stop, every engine instruction of the context has completed (R155): the save begins, with what the live-range
descriptors name. -/
def execQuiesceComplete (x : CtxId) (s : State) : Out :=
  let k := s.ctx x
  if k.state != .stopping || k.stopFor = .hold || k.saving then .next s
  else if s.restoring x then
    .next (s.modCtx x (fun k => { k with saving := true }))
  else if !((s.boundCores x).all s.coreHalted) || !s.ctxQuiet x then .next s
  else
    let s := s.modCtx x (fun k => { k with frames := k.frames.map (fun f => { f with valid := false }) })
    let r := s.takeFrames x (s.placedCores x)
    if r.2 then .next ((r.1.modCtx x (fun k => { k with saving := true })).modPart k.part (fun q => { q with switching := true }))
    else .next r.1

/-- Address of a core's ranges in its frame (R409). -/
def Ctx.rangeVa (k : Ctx) (i : Nat) : Nat := k.saveVa.toNat + i * k.stride.toNat * 2 ^ 21 + 0x810000

/-- Copy a core's live ranges to its frame, one after another (R410). -/
def State.putRanges (s : State) (c : CoreId) (p : CoreId) : List (Nat × Nat) → Nat → State
  | [], _ => s
  | (off, len) :: t, va => ((s.devWrite (.core c) p va (Mem.bytes (s.core c).store off len) unitOther).1).putRanges c p t (va + len)

/-- Copy them back; what cannot be read is free (notes/assumptions/13). -/
def State.getRanges (s : State) (c : CoreId) (p : CoreId) : List (Nat × Nat) → Nat → State
  | [], _ => s
  | (off, len) :: t, va =>
    let r := s.devRead (.core c) p va len
    let b : State × List Byte := match r.2 with | .ok bs => (r.1, bs) | .error _ => r.1.freshBytes len
    (b.1.modStore c (fun m => Mem.setBytes m off b.2)).getRanges c p t (va + len)

/-- A write of bytes of a frame, unless one before it was refused: by a core's save, or by a restore of a split. -/
abbrev FramePut := State × Option Nat → Nat → List Byte → State × Option Nat

/-- Free bytes at an address of a frame, where R409 gives an item without its bits (notes/assumptions/13). -/
def putFree (put : FramePut) (r : State × Option Nat) (va n : Nat) : State × Option Nat :=
  let b := r.1.freshBytes n
  put (b.1, r.2) va b.2

/-- A physical row of a drained bank, in FP32 (R65, R409). -/
def bankRow (b : Bank) (p : Nat) : List Byte :=
  (List.range 1024).flatMap (fun col => leBytes (b.cell (p % shapeM b.tag) (p / shapeM b.tag * 1024 + col)).1.toNat 4)

/-- A frame but for its ranges (R409): its header, the three sequencers' records, the slots and index streams saved, and the live
banks row by row. -/
def putFrame (put : FramePut) (r : State × Option Nat) (va : Nat) (f : SavedCore) : State × Option Nat :=
  let r := putFree put r va 0x1000
  let r := (List.range 3).foldl (fun r j => putFree put r (va + 0x1000 + 0x400 * j) 0x400) r
  let r := f.str.foldl (fun r e => putFree put r (va + 0x2000 + 0x200 * e.1.val) 0x200) r
  let r := f.gth.foldl (fun r e => putFree put r (va + 0x6000 + 0x200 * e.1.val) 0x200) r
  f.banks.foldl (fun r e => (List.range 1024).foldl (fun r i => put r (va + 0x10000 + 0x400000 * e.1.val + 4096 * i) (bankRow e.2 i)) r) r

/-- Address of the i-th core's frame (R409). -/
def Ctx.frameVa (k : Ctx) (i : Nat) : Nat := k.saveVa.toNat + i * k.stride.toNat * 2 ^ 21

/-- A core of a context writes its frame, and with SAVE_STORE its ranges. -/
def State.saveFrame (s : State) (x : CtxId) (c : CoreId) (i : Nat) : State :=
  let k := s.ctx x
  let f := vget k.frames (Fin.ofNat 8 i)
  let s := (putFrame (fun r va bs => ((r.1.devWrite (.core c) k.part va bs unitOther).1, none)) (s, none) (k.frameVa i) f).1
  if k.saveStore then s.putRanges c k.part f.ranges (k.rangeVa i) else s

/-- Accesses of a context's frames: a HOLD that one of them asks for (R340) takes effect when the context goes on. -/
def State.deferHold (s : State) (x : CtxId) (f : State → State) : State :=
  (f (s.modCtx x (fun k => { k with state := .ready }))).modCtx x (fun k => { k with state := (s.ctx x).state })

/-- A HOLD that was asked for meanwhile takes effect. -/
def State.dueHold (s : State) (x : CtxId) : State :=
  match (s.ctx x).holdDue with
  | some e => (s.modCtx x (fun k => { k with holdDue := none })).requestHold x e
  | none => s

/-- The frames of a context are written (R409). -/
def State.writeFrames (s : State) (x : CtxId) : State :=
  let k := s.ctx x
  let s := s.deferHold x (fun s => (s.placedCores x).foldl (fun s ci => s.saveFrame x ci.1 ci.2) s)
  (s.modCtx x (fun k => { k with saving := false, savedAt := s.ptb, frames := k.frames.map (fun f => { f with valid := true }) })).modPart k.part
    (fun q => { q with switching := false })

/-- A sequencer goes on at a time after a stop that left its state in place (R439, R423). -/
def resumeSeq (t : W64) (z : Seq) : Seq :=
  match z.state with
  | .stopped | .held => { z with state := if z.wait.isSome then .wait else .run, stopHold := false, restAt := t }
  | _ => z

/-- Wake what waits on the cores of a context, for rounds that passed while it was stopped (R157, R408). -/
def State.wakeAll (s : State) (x : CtxId) : State :=
  (s.boundCores x).foldl (fun s c =>
    let s := allSeqs.foldl (fun s q => match (s.seq c q).wait with | some w => s.wakeSeq w.1 c q | none => s) s
    (List.range 32).foldl (fun s j => s.wakeSlot c (Fin.ofNat 32 j)) s) s

def State.resumeInPlace (s : State) (x : CtxId) : State :=
  let s := s.modCtx x (fun k => { k with state := .running, stopFor := .none })
  (((s.boundCores x).foldl (fun s c => allSeqs.foldl (fun s q => s.modSeq c q (resumeSeq s.ptb)) s) s).wakeAll x).dueHold x

/-- The banks of the cores of a context are EMPTY once saved (R156). -/
def State.emptyBanks (s : State) (x : CtxId) : State :=
  (s.boundCores x).foldl (fun s c => s.modArr c (fun a => { a with bank := Vector.replicate 2 Bank.reset })) s

/-- A saved context leaves its cores in a state; the next turn starts (R400, R403). -/
def State.leaveCores (s : State) (x : CtxId) (st : CtxState) : State :=
  let p := (s.ctx x).part
  let s := (s.endTurn p).modCtx x (fun k => { k with state := st, stopFor := .none })
  let s := (s.emptyBanks x).unbind x
  (s.modPart p (fun q => { q with prev := if st = .ready then some x else none })).startTurn p

/-! ## Restore (R157, R240, R409) -/

/-- Registers that are live keep their values; the others are free (R156). -/
def State.freshRegs {n : Nat} {α : Type} (conv : W64 → α) (s : State) (v : Vector α n) (live : Nat → Bool) : State × Vector α n :=
  (List.range n).foldl (fun r i =>
    if h : i < n then
      if live i then r else
        let f := r.1.fresh
        (f.2, r.2.set i (conv f.1))
    else r) (s, v)

/-- A sequencer as a frame restores it. -/
def State.restoreSeq (s : State) (f : SavedCore) (q : SeqId) : State × Seq :=
  let z := vget f.seqs (seqIx q)
  let i := seqIx q
  let r := s.freshRegs id z.s (fun j => (vget f.sMask i).getLsbD j)
  let a := r.1.freshRegs (fun w => w.setWidth 57) z.a (fun j => (vget f.aMask i).getLsbD j)
  let p := a.1.freshRegs (fun w => w.getLsbD 0) z.p (fun j => j = 0 || (vget f.pMask i).getLsbD j)
  (p.1, { Seq.reset with
    s := r.2, a := a.2, p := vset p.2 0 true, pc := z.pc, lrp := z.lrp, wait := z.wait, waitDf := z.waitDf, restAt := p.1.ptb
    state := if z.state = .ended then .ended else if z.wait.isSome then .wait else .run })

/-- Core-store bytes of the context's DATA and SHADOW regions that no range names are free after a restore (R156). -/
def State.forgetStore (s : State) (c : CoreId) (ranges : List (Nat × Nat)) : State :=
  (List.range 16).foldl (fun s j =>
    if (s.regKind c j = 2 || s.regKind c j = 4) && (match (s.core c).ctx with | some x => s.regCtx c j == x.val | none => false) then
      (List.range (s.regSize c j)).foldl (fun s i =>
        let a := s.regBase c j + i
        if ranges.any (fun r => decide (r.1 ≤ a) && decide (a < r.1 + r.2)) then s else
        let f := s.fresh
        f.2.modStore c (fun m => Mem.setByte m a (f.1.setWidth 8))) s
    else s) s

/-- A saved bank read back from the save area by a TILE preload, physical row by physical row (R80, R409); what cannot be read is
free (notes/assumptions/13). -/
def State.getBank (s : State) (c : CoreId) (p : CoreId) (va : Nat) (b : Bank) : State × Bank :=
  (List.range 1024).foldl (fun r i =>
    let t := r.1.devRead (.core c) p (va + 4096 * i) 4096
    let x : State × List Byte := match t.2 with | .ok bs => (t.1, bs) | .error _ => t.1.freshBytes 4096
    (x.1, (List.range 1024).foldl (fun b col =>
      b.setCell (i % shapeM b.tag) (i / shapeM b.tag * 1024 + col) (BitVec.ofNat 32 (leNat ((x.2.drop (4 * col)).take 4)), false)) r.2))
    (s, { b with cells := [] })

/-- The saved banks of a core's frame. -/
def State.getBanks (s : State) (c : CoreId) (p : CoreId) (va : Nat) : List (Fin 2 × Bank) → State × List (Fin 2 × Bank)
  | [] => (s, [])
  | e :: t =>
    let b := s.getBank c p (va + 0x10000 + 0x400000 * e.1.val) e.2
    let r := b.1.getBanks c p va t
    (r.1, (e.1, b.2) :: r.2)

/-- A slot as a restore reinstates it: it moves again what it had not completed. -/
def reinstate (z : Slot) : Slot :=
  match z.reqs.head? with
  | some r => { z with reqs := [], pos := r.pos, next := r.n }
  | none => z

/-- A core of a context as its frame has it. -/
def State.restoreCore (s : State) (x : CtxId) (c : CoreId) (i : Nat) : State :=
  let k := s.ctx x
  let f := vget k.frames (Fin.ofNat 8 i)
  let s := s.forgetStore c f.ranges
  let s := if k.saveStore then s.getRanges c k.part f.ranges (k.rangeVa i) else s
  let banks := s.getBanks c k.part (k.frameVa i) f.banks
  let a := banks.1.restoreSeq f .F
  let b := a.1.restoreSeq f .B
  let u := b.1.restoreSeq f .U
  let s := u.1.modCore c (fun z => { z with
    seqs := #v[a.2, b.2, u.2]
    str := f.str.foldl (fun v e => vset v e.1 (reinstate e.2)) z.str
    gth := f.gth.foldl (fun v e => vset v e.1 (reinstate e.2)) z.gth
    arr := { z.arr with bank := banks.2.foldl (fun v e =>
      vset v e.1 { e.2 with state := .loaded, cmd := none, anyShape := false, win := none }) z.arr.bank } })
  s.setFld (Reg.ARR_SENTINEL c) 4 0 f.sentinel.toNat

/-- A stop that was requested while the context was being restored reaches its sequencers. -/
def stopNew (st : CtxState) (hold : Bool) (t : W64) (z : Seq) : Seq :=
  if st = .stopping then
    match z.state with
    | .run => { z with state := .stopping, stopHold := hold, stopAt := t }
    | .wait => { z with state := if hold then .held else .stopped, stopHold := hold }
    | _ => z
  else z

/-- A context's state is restored, and its sequencers resume (R157). -/
def execRestoreComplete (x : CtxId) (s : State) : Out :=
  let k := s.ctx x
  if !s.restoring x || !(k.state = .running || k.state = .stopping) then .next s else
  let s := s.deferHold x (fun s => (s.placedCores x).foldl (fun s ci => s.restoreCore x ci.1 ci.2) s)
  let s := s.modPart k.part (fun q => { q with switching := false, prev := none })
  let s := (s.boundCores x).foldl (fun s c => allSeqs.foldl (fun s q => s.modSeq c q (stopNew k.state (k.stopFor = .hold) s.ptb)) s) s
  .next ((((s.dueHold x).wakeAll x).settleStop x).settleHold x)

/-! ## Heats (R404 to R407) -/

/-- Another context of the partition is READY. -/
def State.otherReady (s : State) (p : CoreId) (x : CtxId) : Bool :=
  (List.range (s.ctxCount p)).any (fun i =>
    let y : CtxId := Fin.ofNat 64 (s.ctxBase p + i)
    y != x && (s.ctx y).state = .ready)

/-- The credit at the start of a heat, raised by the heat length until it is above zero (R404). -/
def raiseCredit (heat : Int) (c : Int) : Nat → Int
  | 0 => c
  | n + 1 => let d := clampCredit (c + heat); if d ≤ 0 then raiseCredit heat d n else d

/-- A new heat of the same context begins where the last ended (R405). -/
def State.newHeat (s : State) (p : CoreId) (x : CtxId) : State :=
  let s := s.endTurn p
  let c := raiseCredit (s.fld (Reg.SCH_HEAT p) 19 0 * 1000 : Nat) (s.ctx x).credit 21476
  let s := s.modCtx x (fun k => { k with credit := c, switches := k.switches + 1 })
  s.modPart p (fun q => { q with
    turn := true, turnStart := s.ptb, heatEnd := BitVec.ofInt 64 (s.ptb.toNat + c), stopLate := false, heatHeld := s.partHeld p })

/-- The heat of a partition's context ends (R405): a stop for another context, or a new heat. A replay runs to its own end
(R441). -/
def execHeatEnd (p : CoreId) (t : W64) (s : State) : Out :=
  let q := s.part p
  match q.running with
  | none => .next s
  | some x =>
    if !q.turn || t.toNat < q.heatEnd.toNat || (s.ctx x).state != .running || (s.ctx x).replay then .next s else
    let s := s.atTime t
    .next (if s.otherReady p x then s.requestStop x .switch_ else s.newHeat p x)

/-- A sequencer waits or has ended, and came to it no later than a time (R405). -/
def Seq.restedBy (z : Seq) (wait t : Nat) : Bool :=
  match z.state with
  | .wait | .ended => decide (z.restAt.toNat + wait ≤ t)
  | _ => false

/-- Every sequencer of the partition's context has been waiting or ended for YIELD_WAIT_US, and another context is READY
(R405). -/
def execYieldWaitExpire (p : CoreId) (t : W64) (s : State) : Out :=
  match (s.part p).running with
  | none => .next s
  | some x =>
    let wait := s.fld (Reg.SCH_HEAT p) 31 20 * 1000
    let still := (s.boundCores x).all (fun c => allSeqs.all (fun q => (s.seq c q).restedBy wait t.toNat))
    if s.fld (Reg.SCH_HEAT p) 31 20 = 0 || (s.ctx x).state != .running || (s.ctx x).replay || !still || !s.otherReady p x then .next s
    else .next ((s.atTime t).requestStop x .switch_)

/-- A stop is not complete STOP_LIMIT_US after the heat end (R407): raised once for the turn. -/
def execStopLimitExpire (p : CoreId) (t : W64) (s : State) : Out :=
  let q := s.part p
  match q.running with
  | none => .next s
  | some x =>
    if !q.turn || q.stopLate || (s.ctx x).state != .stopping
        || t.toNat < q.heatEnd.toNat + s.fld (Reg.SCH_STOPLIM p) 19 0 * 1000 then .next s
    else .next (((s.atTime t).ctxEvent .xStopLate x []).modPart p (fun q => { q with stopLate := true }))

/-! ## Energy (R413) -/

/-- Charge nanojoules to a context: whole microjoules are counted, the rest is carried. -/
def State.chargeCtx (s : State) (x : CtxId) (nj : Nat) : State :=
  let n := (s.ctx x).energyRem + nj
  let s := s.modCtx x (fun k => { k with energy := k.energy + BitVec.ofNat 64 (n / 1000), energyRem := n % 1000 })
  s.setPair Reg.SCH_ENERGY_ALL_LO ((s.pair Reg.SCH_ENERGY_ALL_LO + n / 1000) % 2 ^ 64)

/-- Charge nanojoules to SCH_ENERGY_OVH. -/
def State.chargeOvh (s : State) (nj : Nat) : State :=
  let n := s.ovhRem + nj
  let s := { s with ovhRem := n % 1000 }
  let s := s.setPair Reg.SCH_ENERGY_OVH_LO ((s.pair Reg.SCH_ENERGY_OVH_LO + n / 1000) % 2 ^ 64)
  s.setPair Reg.SCH_ENERGY_ALL_LO ((s.pair Reg.SCH_ENERGY_ALL_LO + n / 1000) % 2 ^ 64)

/-- Charge a source's energy to contexts in proportion to their weights, the last taking what division leaves; to the
overhead where no context has any. -/
def State.chargeShares (s : State) (nj : Nat) (ws : List (CtxId × Nat)) : State :=
  let ws := ws.filter (fun w => w.2 != 0)
  let total := (ws.map (·.2)).sum
  if total = 0 then s.chargeOvh nj else
  let r := ws.foldl (fun (r : State × Nat) w => (r.1.chargeCtx w.1 (nj * w.2 / total), r.2 + nj * w.2 / total)) (s, 0)
  match ws.getLast? with
  | some w => r.1.chargeCtx w.1 (nj - r.2)
  | none => r.1

/-- Every 10 µs the PSC measures what each core and each stack has used, and the rest, in nJ (R413). -/
def execEnergySample (t : W64) (core stack : List Nat) (rest : Nat) (s : State) : Out :=
  let s := s.atTime t
  let s := allCores.foldl (fun s c =>
    let k := s.core c
    let now := match k.ctx with | some x => [(x, (s.ptb - k.boundAt).toNat)] | none => []
    (s.chargeShares ((core[c.val]?).getD 0) (k.boundNs ++ now)).modCore c (fun k => { k with boundNs := [], boundAt := s.ptb })) s
  let s := (List.range 16).foldl (fun s m =>
    s.chargeShares ((stack[m]?).getD 0) ((s.lineReqs.filter (fun kv => kv.1 / 64 = m)).map (fun kv => (Fin.ofNat 64 kv.1, kv.2)))) s
  .next ({ s with lineReqs := [] }.chargeOvh rest)

end Sys2Proof.Machine
end

