-- ==== Sys2Proof/Machine/Split.lean ====
section
/-! DEFINITION. Splits (chapter 14): the areas and what a slot holds (R416 to R421), captures (R422 to R426), and the interval
between splits (R429). -/

namespace Sys2Proof.Machine
open Sys2Proof

/-! ## Areas (R416, R418) -/

/-- The buddy of this package. -/
def State.buddy (s : State) : BitVec 16 := s.pkg ^^^ BitVec.ofNat 16 (2 ^ s.fld Reg.SPL_CFG 31 28)

def State.areaSize (s : State) (p : CoreId) : Nat := s.fld (Reg.SPL_AREA p) 15 0 * 2 ^ 30
def State.slotSize (s : State) (p : CoreId) : Nat := s.areaSize p / 2
/-- Start of an area in the buddy region, and of the buddy's extents on the SSD: areas in ascending partition order. -/
def State.areaOffset (s : State) (p : CoreId) : Nat := ((allCores.filter (fun q => q < p)).map s.areaSize).sum
/-- Address of a slot: physical, or a byte of namespace 1. -/
def State.slotAddr (s : State) (p : CoreId) (i : Nat) : Nat :=
  s.fld Reg.SPL_BUDDY_BASE 15 0 * 2 ^ 30 + s.areaOffset p + i * s.slotSize p
def State.flashAddr (s : State) (p : CoreId) (i : Nat) : Nat := s.areaOffset p + i * s.slotSize p

def State.area (s : State) (p : CoreId) : SplArea := vget s.areas p
def State.modArea (s : State) (p : CoreId) (f : SplArea → SplArea) : State := { s with areas := vmod s.areas p f }

/-- SPL_AREA_FLAGS: a slot sealed in HBM, and in flash. -/
def State.slotSealed (s : State) (p : CoreId) (i : Fin 2) : Bool := s.fld (Reg.SPL_AREA_FLAGS p) i i = 1
def State.setSealed (s : State) (p : CoreId) (i : Fin 2) (v : Nat) : State := s.setFld (Reg.SPL_AREA_FLAGS p) i i v
def State.setFlashSealed (s : State) (p : CoreId) (i : Fin 2) (v : Bool) : State :=
  (s.setFld (Reg.SPL_AREA_FLAGS p) (2 + i) (2 + i) (if v then 1 else 0)).modArea p (fun a => { a with
    fslots := vmod a.fslots i (fun z => { z with sealed := v }) })

/-- The drain of an area is abandoned (R427): its flash slot stays unsealed. -/
def State.abandonDrain (s : State) (p : CoreId) : State :=
  ((s.modArea p (fun a => { a with drain := none, again := none })).setFld (Reg.SPL_AREA_FLAGS p) 5 5 0).event .splDrainAbandoned []

/-- The SSD serves the flash tier: usable, with a namespace of at least BUDDY_GIB GiB (R418). -/
def State.flashOk (s : State) : Bool :=
  s.fld Reg.FLP_STATUS 31 31 = 1
    && decide (s.fld Reg.SPL_CFG 15 0 * 2 ^ 30 ≤ s.pair Reg.FLP_LBAS_LO * (if s.fld Reg.FLP_STATUS 21 21 = 1 then 4096 else 512))

/-! ## Causes (R426) -/

def scGate : Nat := 1
def scProvisional : Nat := 2
def scStash : Nat := 3
def scTooLarge : Nat := 4
def scPeerLost : Nat := 5
def scUncorrectable : Nat := 6
def scFault : Nat := 7
def scReset : Nat := 8
def scNotFound : Nat := 9
def scCrc : Nat := 10
def scSeed : Nat := 11
def scOwner : Nat := 12
def scHurdle : Nat := 13
def scStale : Nat := 14
def scNoFlash : Nat := 15

/-- The status a split command completes with for a cause. -/
def causeStatus (c : Nat) : BitVec 8 :=
  if c = scGate || c = scProvisional then stTimeout
  else if c = scPeerLost then stPeerLost
  else if c = scUncorrectable || c = scCrc then stUncorrectable
  else if c = scFault then stFault
  else if c = scReset || c = scStale then stAborted
  else if c = scHurdle then stDenied
  else stBadField

/-- A cause is recorded and carried by SPL_ABORT. -/
def State.splAbort (s : State) (x : CtxId) (cause : Nat) : State :=
  ((s.setFld (Reg.SPL_CTX_STATE x) 31 29 0).setFld (Reg.SPL_CTX_STATE x) 27 20 cause).ctxEvent .splAbort x [.small 8 cause]

/-- The status of the command behind a capture. -/
def State.takeStatus (s : State) (k : Take) (st : BitVec 8) : State :=
  match k.who with | some w => s.cmdStatus w.1 w.2.1 w.2.2 st | none => s

def State.modTake (s : State) (x : CtxId) (k : Take) : State := s.modCtx x (fun c => { c with take := some k })

/-! ## The interval (R429) -/

/-- The largest number below 2^48 whose square is at most n. -/
def isqrt (n : Nat) : Nat := ((List.range 48).reverse).foldl (fun r i => if (r + 2 ^ i) * (r + 2 ^ i) ≤ n then r + 2 ^ i else r) 0

/-- T_RUN in ns, and in whole seconds. -/
def State.runNs (s : State) (h : SplitHist) : Nat := h.run + (match h.runFrom with | some t => (s.ptb - t).toNat | none => 0)
def State.runSec (s : State) (h : SplitHist) : Nat := s.runNs h / 1000000000

/-- C in µs. -/
def SplitHist.costUs (h : SplitHist) : Nat := if h.costs.isEmpty then 0 else h.costs.sum / h.costs.length / 1000

/-- MTBF_est as a fraction: its numerator and denominator; a denominator of zero is infinite. -/
def State.mtbf (s : State) (p : CoreId) (h : SplitHist) : Nat × Nat :=
  let host := s.fld (Reg.SPL_FLEET p) 31 16
  let prior := s.fld (Reg.SPL_FLEET p) 15 0
  let run := s.runSec h
  if host = 0 then (run, h.restores.toNat) else ((run + prior * 3600) * host, h.restores.toNat * host + prior)

/-- The registers of a context's splits after a seal or a restore (rounding: notes/assumptions/23). -/
def State.splInterval (s : State) (x : CtxId) : State :=
  let k := s.ctx x
  let m := s.mtbf k.part k.hist
  let lo := s.fld Reg.SPL_TAU 15 0
  let hi := s.fld Reg.SPL_TAU 31 16
  let tau := if m.2 = 0 then hi else min (max (isqrt (2 * k.hist.costUs * m.1 / (1000000 * m.2))) lo) hi
  let s := s.setAct (Reg.SPL_CTX_TAU x) (BitVec.ofNat 32 tau)
  let s := s.setAct (Reg.SPL_CTX_COST x) (BitVec.ofNat 32 (min k.hist.costUs 0xFFFFFFFF))
  let s := s.setAct (Reg.SPL_CTX_MTBF x) (if m.2 = 0 then 0xFFFFFFFF else BitVec.ofNat 32 (min (m.1 / m.2) 0xFFFFFFFF))
  s.setAct (Reg.SPL_CTX_FAIL x) k.hist.restores

/-- The PTB passes the last seal plus τ: SPL_DUE once, until the next seal. -/
def execSplitDue (x : CtxId) (t : W64) (s : State) : Out :=
  match (s.ctx x).hist.lastSeal with
  | none => .next s
  | some a =>
    if s.fld (Reg.SPL_CTX_STATE x) 28 28 = 1 || t.toNat ≤ a.toNat + (s.act (Reg.SPL_CTX_TAU x)).toNat * 1000000000 then .next s
    else .next (((s.atTime t).setFld (Reg.SPL_CTX_STATE x) 28 28 1).ctxEvent .splDue x [])

/-! ## Leaving a capture (R423, R425) -/

/-- CTX_SUSPEND commands of a context that has been saved complete. -/
def State.finishSuspends (s : State) (x : CtxId) : State :=
  ((s.ctx x).suspendCmds.foldl (fun s a => s.cmdStatus a.1 a.2.1 a.2.2 stOk) s).modCtx x (fun k => { k with suspendCmds := [] })

/-- A captured context goes on as after any stop: suspended, if that was asked for; at its heat end as R405 says; or on its
cores. -/
def State.endCapture (s : State) (x : CtxId) : State :=
  let k := s.ctx x
  if k.state != .stopping || k.stopFor != .capture then s
  else if !k.suspendCmds.isEmpty then (s.finishSuspends x).leaveCores x .suspended
  else
    let q := s.part k.part
    if !q.turn || s.ptb.toNat < q.heatEnd.toNat then s.resumeInPlace x
    else if s.otherReady k.part x then s.leaveCores x .ready
    else (s.newHeat k.part x).resumeInPlace x

/-- A capture aborts (R423): it writes nothing more, and its context goes on. With PEER_LOST the context is affected. -/
def State.abortTake (s : State) (x : CtxId) (cause : Nat) : State :=
  match (s.ctx x).take with
  | none => s
  | some k =>
    let s := (s.modCtx x (fun c => { c with take := none })).splAbort x cause
    let s := s.takeStatus k (causeStatus cause)
    if cause = scReset then s
    else if cause = scPeerLost then (s.endCapture x).affected x
    else s.endCapture x

/-! ## SPL_TAKE (R422) -/

/-- A function may name a context: the PF any, a VF those of its partition's range (R401). -/
def State.mayCtx (s : State) (f : FnId) (x : CtxId) : Bool :=
  match partOfFn f with | none => true | some p => s.inRange p x

def newTake (id : Nat) (who : Option (FnId × Nat × W32)) (ops : TakeOps) (since : W64) (seq : W32) (slot : Fin 2) : Take where
  id := id
  who := who
  ops := ops
  gate := 0
  target := 0
  limit := 0xFFFFFFFF
  since := since
  phase := .gate
  stopAt := 0
  still := false
  slot := slot
  seq := seq
  pos := []
  parts := []
  unacked := []
  exts := []
  crcs := []
  used := 0

/-- A capture of a context begins. -/
def State.beginTake (s : State) (x : CtxId) (who : Option (FnId × Nat × W32)) (ops : TakeOps) (g : Take → Take) : State :=
  let c := s.ctx x
  let slot : Fin 2 := if vget s.lastSlot c.part = 0 then 1 else 0
  (s.modCtx x (fun c => { c with splitNo := c.splitNo + 1, take := some (g (newTake c.splitNo who ops s.ptb (c.hist.seq + 1) slot)) })).setFld
    (Reg.SPL_CTX_STATE x) 31 29 1

def execSplTake (f : FnId) (q : Fin 64) (s : State) : Out :=
  s.startCmd f q 0x20 [(1, 56, 0), (2, 56, 0), (3, 31, 0), (4, 19, 8), (4, 5, 0), (5, 31, 0)] (fun s r =>
    let x : CtxId := Fin.ofNat 64 (wbits r.words 4 5 0)
    let list := wbits r.words 1 56 0
    let pos := wbits r.words 2 56 0
    if !s.mayCtx f x || s.oos then (s, some stDenied)
    else if list % 256 != 0 || pos % 256 != 0 || (s.ctx x).state = .free || (s.ctx x).take.isSome || (s.ctx x).restore.isSome then
      (s, some stBadField)
    else (s.beginTake x (some (f, q.val, r.idx)) ⟨list, pos⟩ (fun k => { k with
      gate := BitVec.ofNat 12 (wbits r.words 4 19 8), target := BitVec.ofNat 32 (wbits r.words 3 31 0), limit := wbits r.words 5 31 0 }), none))

/-! ## Steps 1 to 3 (R423) -/

/-- A generation entry of the context is PROVISIONAL on some core (R292). -/
def State.provisional (s : State) (x : CtxId) : Bool := allCores.any (fun c => (s.core c).gens.any (fun e => e.ctx = x && e.prov))

/-- The gate of a capture has been passed. An activation's captures pass theirs at once (R504). -/
def State.gatePassed (s : State) (k : Take) : Bool := k.who.isNone || satisfied (s.hurdle k.gate) k.target

/-- Gate passed and no provisional generation: the stop is requested on every core. A SUSPENDED context is saved already, and
stays so (R504). -/
def execSplitCaptureStop (x : CtxId) (s : State) : Out :=
  match (s.ctx x).take with
  | none => .next s
  | some k =>
    if k.phase != .gate || !s.gatePassed k || s.provisional x || (s.ctx x).replay then .next s
    else if (s.ctx x).state = .running then
      .next (((s.modTake x { k with phase := .stop, stopAt := s.ptb }).setFld (Reg.SPL_CTX_STATE x) 31 29 2).requestStop x .capture)
    else if (s.ctx x).state = .suspended then
      .next ((s.modTake x { k with phase := .saved, stopAt := s.ptb, still := true }).setFld (Reg.SPL_CTX_STATE x) 31 29 2)
    else .next s

/-- LIMIT_MS has passed in step 1 or step 2. It does not cover the wait for the stop of step 3. -/
def execSplitTakeTimeout (x : CtxId) (t : W64) (s : State) : Out :=
  match (s.ctx x).take with
  | none => .next s
  | some k =>
    if k.phase != .gate || k.limit = 0xFFFFFFFF || t.toNat < k.since.toNat + k.limit * 1000000 then .next s
    else if !s.gatePassed k then .next ((s.atTime t).abortTake x scGate)
    else if s.provisional x then .next ((s.atTime t).abortTake x scProvisional)
    else .next s

/-! ## What is captured (R420, R421) -/

/-- The split list: its extents. -/
def State.splitList (s : State) (x : CtxId) (va : Nat) : State × Except Nat (List (Nat × Nat)) :=
  let h := s.splitRead x va 64
  match h.2 with
  | .error e => (h.1, .error e)
  | .ok hs =>
    let n := leNat (hs.take 8) % 512
    if 256 < n then (h.1, .error relFault) else
    let b := h.1.splitRead x (va + 64) (n * 16)
    match b.2 with
    | .error e => (b.1, .error e)
    | .ok bs => (b.1, .ok ((List.range n).map (fun i => (leNat ((bs.drop (16 * i)).take 8) % 2 ^ 57, leNat ((bs.drop (16 * i + 8)).take 8)))))

/-- What a split keeps of a hurdle: a POISONED one is recorded as IDLE. -/
def splitHurdle (h : Hurdle) : Hurdle :=
  { Hurdle.reset with
    state := if h.state = .poisoned then .idle else h.state, expect := h.expect, count := h.count, releases := h.releases
    auto := h.auto, ports := h.ports, hostOk := h.hostOk }

/-- The bytes of the core-store ranges that a context's frames hold in HBM (R409, R410). -/
def State.frameStores (s : State) (x : CtxId) : State × Except Nat (List (List Byte)) :=
  let k := s.ctx x
  if !k.saveStore then (s, .ok []) else
  (List.range (s.partCores k.part).length).foldl (fun r i =>
    match r.2 with
    | .error e => (r.1, .error e)
    | .ok l =>
      let b := r.1.splitRead x (k.rangeVa i) (((vget k.frames (Fin.ofNat 8 i)).ranges.map (·.2)).sum)
      (b.1, b.2.map (fun bs => l ++ [bs]))) (s, .ok [])

/-- The items of a context whose layout the spec does not give. -/
def State.gatherItems (s : State) (x : CtxId) (posVa : Nat) (stores : List (List Byte)) : SplitItems :=
  let k := s.ctx x
  { gens := allCores.flatMap (fun c => ((s.core c).gens.filter (fun e => e.ctx = x)).map (fun e => (c, e)))
    hurdles := (s.hurdles.filter (fun h => h.2.owner = x)).map (fun h => (BitVec.ofNat 12 h.1, splitHurdle h.2))
    norms := allCores.map (fun (d : CoreId) => BitVec.ofNat 64 (s.pair (Reg.REL_NORM_LO d x)))
    counters := allCores.flatMap (fun (c : CoreId) =>
      ((List.range 5).flatMap (fun i => [s.act (Reg.ARR_SAT c i), s.act (Reg.ARR_NONFIN c i), s.act (Reg.ARR_UNDER c i)]))
        ++ [BitVec.ofNat 32 (s.fld (Reg.ARR_SENTINEL c) 4 0)])
    frames := k.frames.toList
    stores := stores
    saveVa := k.saveVa, stride := k.stride, saveStore := k.saveStore
    stats := allCores.flatMap (fun c => ((s.core c).stats.filter (fun e => e.ctx = x)).map (fun e => (c, e)))
    costs := k.hist.costs, posVa := posVa }

def roundUp (n m : Nat) : Nat := (n + m - 1) / m * m

/-- Offsets of a slot's items (notes/assumptions/22): the header, the extent table, the position record, the items, and the
extents, each from a 256-byte boundary on. -/
def posAt (exts : Nat) : Nat := roundUp (0x1000 + 32 * exts) 256
def itemsAt (exts : Nat) : Nat := posAt exts + 256

/-- The bytes of the items of a split whose layout the spec does not give. -/
def splitBytes (k : SplitItems) : List Byte := (List.range (Config.splitSize k).toNat).map (Config.splitByte k)

/-- Bytes followed by zeros up to a 256-byte boundary. -/
def padLine (bs : List Byte) : List Byte := bs ++ List.replicate (roundUp bs.length 256 - bs.length) 0

/-- Extents laid one after another. -/
def layExts : Nat → List (Nat × Nat) → List (Nat × Nat × Nat)
  | _, [] => []
  | off, (va, len) :: t => (va, len, off) :: layExts (off + len) t

/-- The header and the extent table of a capture, SEALED zero (R421). -/
def State.splitHead (s : State) (x : CtxId) (k : Take) : List Byte :=
  let c := s.ctx x
  let table := (k.exts.zip k.crcs).flatMap (fun e =>
    leBytes e.1.1 8 ++ leBytes e.1.2.1 8 ++ leBytes e.1.2.2 8 ++ leBytes (~~~e.2).toNat 8)
  let ws : List Nat := [
    0x05 * 2 ^ 56 + s.pkg.toNat * 2 ^ 32 + (word k.pos 0).toNat % 2 ^ 32,
    (s.relJob 0 x).toNat * 2 ^ 48 + c.part.val * 2 ^ 45 + x.val * 2 ^ 32 + k.seq.toNat,
    c.seed.toNat, s.ptb.toNat, k.used, k.exts.length,
    s.runSec c.hist % 2 ^ 32 * 2 ^ 32 + c.hist.restores.toNat]
  let body := ws.flatMap (fun w => leBytes w 8)
  let head := body ++ leBytes (crc32c (body ++ table)).toNat 8
  head ++ List.replicate (4096 - head.length) 0 ++ table

/-! ## Steps 4 to 6 (R423, R424) -/

/-- Send a split message to the buddy that asks for a reply. -/
def State.splitSend (s : State) (x : CtxId) (id : Nat) (h : SplitHead) (b : SplitKind) : State × Bool :=
  s.sendReq vcSplit s.buddy 0 (.split h b) (.split x id h.off) (some x)

def State.takeHead (s : State) (x : CtxId) (k : Take) (off len : Nat) : SplitHead :=
  ⟨(s.ctx x).part, ⟨k.slot.val, by omega⟩, false, k.seq, BitVec.ofNat 64 off, BitVec.ofNat 32 len⟩

/-- The cause of a capture's abort for a failed access. -/
def accessCause (e : Nat) : Nat := if e = relUncorr then scUncorrectable else scFault

/-- One segment leaves; the parts still to send are those given. -/
def State.sendSegment (s : State) (x : CtxId) (k : Take) (rest : List SplitPart) (off : Nat) (bs : List Byte) : State :=
  let k := { k with parts := rest, unacked := k.unacked ++ [off] }
  let n := (s.ctx x).part.val
  let s := s.rouse 6 n (allCtxs.any (s.splitHolds n))
  let r := (s.modTake x k).splitSend x k.id (s.takeHead x k off bs.length) (.data bs)
  if r.2 then r.1 else r.1.abortTake x scPeerLost

/-- The next segment of a capture, of at most 32 KiB. -/
def State.sendPart (s : State) (x : CtxId) (k : Take) : State :=
  match k.parts with
  | [] => s
  | .bytes off bs :: t =>
    let n := min 32768 bs.length
    s.sendSegment x k (if bs.length ≤ n then t else .bytes (off + n) (bs.drop n) :: t) off (bs.take n)
  | .ext i va off len :: t =>
    if len = 0 then s.modTake x { k with parts := t } else
    let n := min 32768 len
    let b := s.splitRead x va n
    (match b.2 with
    | .error e => b.1.abortTake x (accessCause e)
    | .ok bs =>
      let k := { k with crcs := k.crcs.set i (crcOn ((k.crcs[i]?).getD crcStart) bs) }
      b.1.sendSegment x k (if len ≤ n then t else .ext i (va + n) (off + n) (len - n) :: t) off bs)
  | .head :: t => s.modTake x { k with parts := .bytes 0 (s.splitHead x k) :: t }

/-- Send while fewer than 32 segments are unacknowledged; once every one is acknowledged, SEAL. -/
def State.pumpTake (s : State) (x : CtxId) : Nat → State
  | 0 => s
  | fuel + 1 =>
    match (s.ctx x).take with
    | none => s
    | some k =>
      if k.phase != .copy then s
      else if k.parts.isEmpty then
        if !k.unacked.isEmpty then s else
        let r := (s.modTake x { k with phase := .seal }).splitSend x k.id
          { s.takeHead x k 0 0 with act := k.who.isNone } .seal
        if r.2 then r.1 else r.1.abortTake x scPeerLost
      else if 32 ≤ k.unacked.length then s
      else (s.sendPart x k).pumpTake x fuel

/-- The context has no relay command running (R349). -/
def State.relayQuiet (s : State) (x : CtxId) : Bool := allCores.all (fun d => !(s.rel d).cmds.any (fun c => c.ctx = x && c.started))

/-- Every extent is aligned, and each line of it lies in a LOCAL window of the partition. -/
def extsAligned (es : List (Nat × Nat)) : Bool := es.all (fun e => e.1 % 256 = 0 && e.2 % 256 = 0)

/-- The save is complete and no relay command runs: the checks, and the copy to the buddy's older slot. -/
def execSplitCopyStart (x : CtxId) (s : State) : Out :=
  match (s.ctx x).take with
  | none => .next s
  | some k =>
    if k.phase != .saved || !s.relayQuiet x then .next s
    else if allCores.any (fun c => (s.core c).stash.any (fun e => e.ctx = x)) then .next (s.abortTake x scStash)
    else
      let l := s.splitList x k.ops.list
      let p := l.1.splitRead x k.ops.pos 256
      let st := p.1.frameStores x
      match l.2, p.2, st.2 with
      | .error e, _, _ | _, .error e, _ | _, _, .error e => .next (st.1.abortTake x (accessCause e))
      | .ok es, .ok pos, .ok stores =>
        if !extsAligned es then .next (st.1.abortTake x scFault) else
        let s := st.1
        let items := padLine (splitBytes (s.gatherItems x k.ops.pos stores))
        let exts := layExts (itemsAt es.length + items.length) es
        let used := itemsAt es.length + items.length + (es.map (·.2)).sum
        if s.slotSize (s.ctx x).part < used then .next (s.abortTake x scTooLarge) else
        .next ((s.modTake x { k with
          phase := .copy, exts := exts, crcs := List.replicate es.length crcStart, used := used
          pos := (List.range 32).map (fun i => BitVec.ofNat 64 (leNat ((pos.drop (8 * i)).take 8)))
          parts := (exts.zipIdx.map (fun e => SplitPart.ext e.2 e.1.1 e.1.2.2 e.1.2.1))
            ++ [.bytes (itemsAt es.length) items, .bytes (posAt es.length) pos, .head] }).pumpTake x 64)

/-- The capture that a reply to this package belongs to. -/
def State.takeOf (s : State) (who : Requester) : Option (CtxId × Take × Nat) :=
  match who with
  | .split x id off =>
    match (s.ctx x).take with
    | some k => if k.id = id then some (x, k, off.toNat) else none
    | none => none
  | _ => none

def execSplitAck (n : Nat) (s : State) : Out :=
  match s.takeMsg n with
  | some (m, t) =>
    match m.msg.body with
    | .split _ .ack =>
      let r := t.takeReq m.msg.tag
      (match r.1.bind (fun q => r.2.takeOf q.who) with
      | some (x, k, off) => .next (((r.2.beat 6 (r.2.ctx x).part).modTake x { k with unacked := k.unacked.erase off }).pumpTake x 64)
      | none => .next r.2)
    | _ => .next s
  | none => .next s

/-- Step 7: the capture is sealed; its command completes and the context goes on. -/
def State.finishTake (s : State) (x : CtxId) (k : Take) : State :=
  let step : W32 := (word k.pos 0).setWidth 32
  let p := (s.ctx x).part
  let s := s.modCtx x (fun c => { c with
    take := none, lastTake := some k.ops
    hist := { c.hist with
      seq := k.seq, costs := (((s.ptb - k.stopAt).toNat) :: c.hist.costs).take 4
      runFrom := some (c.hist.runFrom.getD s.ptb), lastSeal := some s.ptb } })
  let s : State := { s with lastSlot := vset s.lastSlot p k.slot }
  let s := (s.setFld (Reg.SPL_CTX_STATE x) 31 28 0).setAct (Reg.SPL_CTX_STEP x) step
  let s := (s.splInterval x).ctxEvent .splSealed x [.word step.toNat, .word k.seq.toNat]
  (s.takeStatus k stOk).endCapture x

def execSealAck (n : Nat) (s : State) : Out :=
  match s.takeMsg n with
  | some (m, t) =>
    match m.msg.body with
    | .split _ .sealAck =>
      let r := t.takeReq m.msg.tag
      (match r.1.bind (fun q => r.2.takeOf q.who) with
      | some (x, k, _) => .next (if k.phase = .seal then r.2.finishTake x k else r.2)
      | none => .next r.2)
    | _ => .next s
  | none => .next s

end Sys2Proof.Machine
end

