-- ==== Sys2Proof/Machine/SplitHeld.lean ====
section
/-! DEFINITION. The splits a package holds for its buddy: segments and seals (R424), drains to the flash SSD (R427), the SSD's
completions (R393) and SPL_STORE (R428). -/

namespace Sys2Proof.Machine
open Sys2Proof

/-! ## Segments and seals (R423, R424) -/

/-- A split message of the buddy that stays inside its area's slot. -/
def State.splitFits (s : State) (m : Msg) (h : SplitHead) : Bool :=
  m.org = s.buddy && decide (h.off.toNat + h.len.toNat ≤ s.slotSize h.part) && s.slotSize h.part != 0

/-- Answer a split message. -/
def State.splitReply (s : State) (m : Msg) (h : SplitHead) (vc : Fin 4) (b : SplitKind) : State :=
  (s.sendMsg vc ⟨m.org, s.pkg, m.tag, 0, .split h b⟩ none).1

/-- A split message is refused. -/
def State.splitRefuse (s : State) (m : Msg) (h : SplitHead) : State := s.splitReply m h vcHctl .refuse

/-- The HBM slot a message names. -/
def hbmSlot (h : SplitHead) : Option (Fin 2) := if h.slot = 0 then some 0 else if h.slot = 1 then some 1 else none

/-- Bit 55 of the header's first word in HBM: SEALED (R421). -/
def State.writeSeal (s : State) (p : CoreId) (i : Fin 2) (v : Bool) : State :=
  let a := s.slotAddr p i
  let r := s.physRead a 8 false 1
  let w := leNat r.2.1
  let w := w % 2 ^ 55 + (if v then 2 ^ 55 else 0) + w / 2 ^ 56 * 2 ^ 56
  r.1.physWrite a (leBytes w 8) false 1 unitOther

/-- A capture begins to overwrite a slot: it is unsealed, and a drain of it is abandoned. -/
def State.overwriteSlot (s : State) (p : CoreId) (i : Fin 2) : State :=
  let s := if s.slotSealed p i then (s.setSealed p i 0).writeSeal p i false else s
  match (s.area p).drain with
  | some d => if d.src = i then s.abandonDrain p else s
  | none => s

def execSplitData (n : Nat) (s : State) : Out :=
  match s.takeMsg n with
  | some (m, t) =>
    match m.msg.body with
    | .split h (.data bytes) =>
      if !t.splitFits m.msg h then .next (t.splitRefuse m.msg h) else
      (match hbmSlot h with
      | none => .next (t.splitRefuse m.msg h)
      | some i =>
        let t := (t.overwriteSlot h.part i).physWrite (t.slotAddr h.part i + h.off.toNat) bytes false 1 unitOther
        .next (t.splitReply m.msg h vcSplit .ack))
    | _ => .next s
  | none => .next s

/-! ## Drains (R427) -/

/-- The 8 I/O queue pairs of depth 1,024 take another command (R393). -/
def State.nvmeRoom (s : State) : Bool := s.nvme.length < 8 * 1024

/-- Put an NVMe command to the SSD: a Read, a Write or a Flush. -/
def State.nvmePut (s : State) (c : NvmeCmd) : State := { s.rouse 6 8 (!s.nvme.isEmpty) with nvme := s.nvme ++ [c] }

/-- The next Write of a drain, of at most 32 KiB; the Flush and the seal follow the last (R418). -/
def State.drainNext (s : State) (p : CoreId) (d : Drain) : State :=
  if d.off < d.used then s.nvmePut (.write p d.off (min 32768 (d.used - d.off))) else s.nvmePut (.flush p)

/-- SPL_ABORT of a drain: its context is the one the slot's header names. -/
def State.abortDrain (s : State) (p : CoreId) (i : Fin 2) (cause : Nat) : State :=
  s.ctxEvent .splAbort (vget (s.area p).slots i).ctx [.small 8 cause]

/-- Drain a sealed slot into the older flash slot of its area; NO_FLASH where there is none to drain to. -/
def State.startDrain (s : State) (p : CoreId) (i : Fin 2) (act : Bool) : State :=
  if !s.flashOk then s.abortDrain p i scNoFlash else
  let a := s.area p
  match a.drain with
  | some _ => s.modArea p (fun a => { a with again := some (i, act || (match a.again with | some (_, b) => b | none => false)) })
  | none =>
    let dst : Fin 2 := if a.fnew = 0 then 1 else 0
    let d : Drain := ⟨i, dst, 0, (vget a.slots i).used, act, false⟩
    let s := (s.setFlashSealed p dst false).modArea p (fun a => { a with drain := some d })
    (s.setFld (Reg.SPL_AREA_FLAGS p) 5 5 1).drainNext p d

/-- A seal in an area: every FLASH_EVERY-th one, and one with ACT at once, is drained. -/
def State.sealDrain (s : State) (p : CoreId) (i : Fin 2) (act : Bool) : State :=
  let every := s.fld Reg.SPL_CFG 23 16
  let n := (s.area p).seals + 1
  let s := s.modArea p (fun a => { a with seals := n })
  if every = 0 then (if act then s.abortDrain p i scNoFlash else s)
  else if act || n % every = 0 then s.startDrain p i act
  else s

def execSeal (n : Nat) (s : State) : Out :=
  match s.takeMsg n with
  | some (m, t) =>
    match m.msg.body with
    | .split h .seal =>
      if !t.splitFits m.msg h then .next (t.splitRefuse m.msg h) else
      (match hbmSlot h with
      | none => .next (t.splitRefuse m.msg h)
      | some i =>
        let p := h.part
        let t := (t.overwriteSlot p i).writeSeal p i true
        let r := t.physRead (t.slotAddr p i) 64 false 1
        let w (k : Nat) : Nat := leNat ((r.2.1.drop (8 * k)).take 8)
        let t := (r.1.setSealed p i 1).setFld (Reg.SPL_AREA_FLAGS p) 4 4 i
        let t := t.setAct (if i = 0 then Reg.SPL_AREA_STEP0 p else Reg.SPL_AREA_STEP1 p) (BitVec.ofNat 32 (w 0))
        let t := t.modArea p (fun a => { a with
          slots := vset a.slots i ⟨BitVec.ofNat 32 (w 1), Fin.ofNat 64 (w 1 / 2 ^ 32), min (w 4) (t.slotSize p)⟩ })
        .next ((t.sealDrain p i h.act).splitReply m.msg h vcSplit .sealAck))
    | _ => .next s
  | none => .next s

/-- The newer sealed flash slot of an area, as SPL_AREA_FSTEP reports it. -/
def State.showFlash (s : State) (p : CoreId) : State :=
  let a := s.area p
  let other : Fin 2 := if a.fnew = 0 then 1 else 0
  s.setAct (Reg.SPL_AREA_FSTEP p) (if (vget a.fslots a.fnew).sealed then (vget a.fslots a.fnew).step
    else if (vget a.fslots other).sealed then (vget a.fslots other).step else 0)

/-- A drain ends; one that waits for it starts. -/
def State.endDrain (s : State) (p : CoreId) : State :=
  let a := s.area p
  let s := (s.modArea p (fun a => { a with drain := none, again := none })).setFld (Reg.SPL_AREA_FLAGS p) 5 5 0
  match a.again with
  | some (i, act) => if s.slotSealed p i then s.startDrain p i act else s
  | none => s

/-- A drain whose seal word has been written is complete: the flash slot is sealed in the split index. -/
def execFlashDrainComplete (p : CoreId) (s : State) : Out :=
  match (s.area p).drain with
  | none => .next s
  | some d =>
    if !d.finished then .next s else
    let z := vget (s.area p).slots d.src
    let step := if d.src = 0 then s.act (Reg.SPL_AREA_STEP0 p) else s.act (Reg.SPL_AREA_STEP1 p)
    let s := s.modArea p (fun a => { a with fnew := d.dst, fslots := vset a.fslots d.dst ⟨true, step, z.seq, z.used⟩ })
    let s := (s.setFlashSealed p d.dst true).showFlash p
    .next ((s.endDrain p).event .splDrainDone [.small 4 p, .word step.toNat])

/-! ## The SSD (R392, R393) -/

/-- The drain that an NVMe command belongs to goes on, when the command is still of it. SEALED, bit 55 of the header, is zero in the
data and is written with the seal (R418, R421); a poisoned line of the slot aborts the drain (notes/assumptions/54). -/
def State.nvmeDone (s : State) (c : NvmeCmd) : State :=
  match c with
  | .write p off len =>
    (match (s.area p).drain with
    | none => s
    | some d =>
      if off != d.off || d.used < off + len || d.finished then s else
      let r := s.physRead (s.slotAddr p d.src + off) len false 1
      (match r.2.2 with
      | some pa => ((r.1.ueEvent (pa / 256 * 256)).abortDrain p d.src scUncorrectable).endDrain p
      | none =>
        let bs := if off = 0 then r.2.1.modify 6 (fun b => b &&& 0x7F) else r.2.1
        let s := { r.1 with flash := Mem.setBytes r.1.flash (r.1.flashAddr p d.dst + off) bs }
        let d := { d with off := off + len }
        (s.modArea p (fun a => { a with drain := some d })).drainNext p d))
  | .flush p => (match (s.area p).drain with | some d => if d.used ≤ d.off && !d.finished then s.nvmePut (.seal p) else s | none => s)
  | .seal p =>
    (match (s.area p).drain with
    | some d =>
      if d.off < d.used || d.finished then s else
      let a := s.flashAddr p d.dst + 6
      let s := { s with flash := Mem.setByte s.flash a (Mem.byte s.flash a ||| 0x80) }
      s.modArea p (fun a => { a with drain := some { d with finished := true } })
    | none => s)
  | .read h dst tag =>
    let i : Fin 2 := if h.slot = 2 then 0 else 1
    (s.sendMsg vcSplit ⟨dst, s.pkg, tag, 0, .split h (.readRsp (Mem.bytes s.flash (s.flashAddr h.part i + h.off.toNat) h.len.toNat))⟩ none).1

/-- The partition whose drain a command belongs to. -/
def NvmeCmd.drains : NvmeCmd → Option CoreId
  | .write p _ _ | .flush p | .seal p => some p
  | .read _ _ _ => none

/-- An NVMe command ends with an error status: its drain is abandoned; a read has nothing to give and is refused. -/
def State.nvmeFail (s : State) (c : NvmeCmd) : State :=
  match c with
  | .read h dst tag => (s.sendMsg vcHctl ⟨dst, s.pkg, tag, 0, .split h .refuse⟩ none).1
  | _ => match c.drains with
    | some p => if (s.area p).drain.isSome then s.abandonDrain p else s
    | none => s

/-- An NVMe command completes, with or without an error status: the n-th outstanding I/O command, or, beyond them, the admin command
Get Log Page; and the SMART critical warning, as last read (R393; notes/assumptions/84). -/
def execNvmeCompletion (n : Nat) (error : Bool) (warn : BitVec 8) (s : State) : Out :=
  if s.fld Reg.FLP_STATUS 31 31 = 0 then .next s else
  let changed := s.fld Reg.FLP_STATUS 7 0 != warn.toNat
  let t := ({ s.beat 6 8 with nvme := s.nvme.eraseIdx n } : State).setFld Reg.FLP_STATUS 7 0 warn.toNat
  let t := if error || changed then t.event .hifFlashError [] else t
  match s.nvme[n]? with
  | none => .next t
  | some c => .next (if error then t.nvmeFail c else t.nvmeDone c)

/-- The SSD is lost (R393): it returns only at the next start; drains abort with NO_FLASH, and reads are refused. -/
def State.flashLost (s : State) : State :=
  if s.fld Reg.FLP_STATUS 31 31 = 0 then s else
  let s := (s.setFld Reg.FLP_STATUS 31 30 1).event .hifFlashDown []
  let cs := s.nvme
  let s := cs.foldl (fun s c => match c with | .read _ _ _ => s.nvmeFail c | _ => s) { s with nvme := [] }
  allCores.foldl (fun s p => match (s.area p).drain with
    | some d => (s.abortDrain p d.src scNoFlash).endDrain p
    | none => s) s

/-- An NVMe command, of I/O or admin, has been outstanding for 1 s. -/
def execFlashCommandTimeout (s : State) : Out := .next s.flashLost
def execFlashLinkDown (s : State) : Out := .next s.flashLost

/-! ## SPL_STORE (R428) -/

/-- Host memory takes bytes of a sealed slot, if its SEQ is the expected one. `hostErr`: the host refuses an access. -/
def execSplStore (f : FnId) (q : Fin 64) (hostErr : Bool) (s : State) : Out :=
  s.startCmd f q 0x21 [(1, 63, 0), (2, 63, 0), (3, 63, 0), (4, 2, 0), (4, 8, 8), (5, 31, 0)] (fun s r =>
    let host := (word r.words 1).toNat
    let off := (word r.words 2).toNat
    let len := (word r.words 3).toNat
    let p : CoreId := Fin.ofNat 8 (wbits r.words 4 2 0)
    let i : Fin 2 := Fin.ofNat 2 (wbits r.words 4 8 8)
    if f.val != 0 then (s, some stDenied)
    else if len = 0 then (s, some stOk)
    else if host % 256 != 0 || len % 256 != 0 || 2 ^ 30 < len || s.slotSize p < off + len then (s, some stBadField)
    else if !s.slotSealed p i || (vget (s.area p).slots i).seq.toNat != wbits r.words 5 31 0 then
      (s.setFld (Reg.SPL_CTX_STATE (vget (s.area p).slots i).ctx) 27 20 scStale, some (causeStatus scStale))
    else if hostErr then (s, some stHostError)
    else
      let b := s.physRead (s.slotAddr p i + off) len false 1
      match b.2.2 with
      | some pa => (b.1.ueEvent (pa / 256 * 256), some stUncorrectable)
      | none => ({ b.1 with host := Mem.setBytes b.1.host host b.2.1 }, some stOk))

/-! ## Reads of a slot (R430) -/

/-- The buddy serves a read of a sealed slot: from HBM at once, from flash through the SSD; an unsealed slot reads as zeros. -/
def execReadReq (n : Nat) (s : State) : Out :=
  match s.takeMsg n with
  | some (m, t) =>
    match m.msg.body with
    | .split h .readReq =>
      if !t.splitFits m.msg h then .next (t.splitRefuse m.msg h) else
      let zeros := List.replicate h.len.toNat (0 : Byte)
      (match hbmSlot h with
      | some i =>
        if !t.slotSealed h.part i then .next (t.splitReply m.msg h vcSplit (.readRsp zeros)) else
        let r := t.physRead (t.slotAddr h.part i + h.off.toNat) h.len.toNat false 1
        .next (match r.2.2 with
          | some pa =>
            let b := (r.1.ueEvent (pa / 256 * 256)).freshBytes h.len.toNat
            b.1.splitReply m.msg h vcSplit (.readRsp b.2)
          | none => r.1.splitReply m.msg h vcSplit (.readRsp r.2.1))
      | none =>
        let i : Fin 2 := if h.slot = 2 then 0 else 1
        if !t.flashOk || !(vget (t.area h.part).fslots i).sealed then .next (t.splitReply m.msg h vcSplit (.readRsp zeros))
        else if !t.nvmeRoom then .next s
        else .next (t.nvmePut (.read h m.msg.org m.msg.tag)))
    | _ => .next s
  | none => .next s

end Sys2Proof.Machine
end

