-- ==== Sys2Proof/Machine/SplitRestore.lean ====
section
/-! DEFINITION. Restores of contexts from splits (R430 to R432), and refusals of split messages (R424). -/

namespace Sys2Proof.Machine
open Sys2Proof

def State.modRestore (s : State) (x : CtxId) (k : Restore) : State := s.modCtx x (fun c => { c with restore := some k })

/-- A restore aborts, and the context stays CREATED (R431). -/
def State.abortRestore (s : State) (x : CtxId) (cause : Nat) : State :=
  match (s.ctx x).restore with
  | none => s
  | some k =>
    ((s.modCtx x (fun c => { c with restore := none })).splAbort x cause).cmdStatus k.who.1 k.who.2.1 k.who.2.2 (causeStatus cause)

/-- Words of a slot's bytes. -/
def bytesWord (bs : List Byte) (i : Nat) : Nat := leNat ((bs.drop (8 * i)).take 8)

/-! ## What to read next -/

/-- Extents that a header names, and the end of what lies before them: known once the table's first entry has been read. -/
def Restore.exts' (k : Restore) : Nat := wbits k.head 5 31 0
def Restore.ctlEnd (k : Restore) : Nat :=
  if k.exts' = 0 then (word k.head 4).toNat
  else if k.buf.length < 32 * k.exts' then 0x1000 + 32 * k.exts'
  else bytesWord k.buf 2

/-- The next read of a restore: its offset and length. -/
def Restore.ask (k : Restore) : Nat × Nat :=
  match k.phase with
  | .head => (0, 4096)
  | .ctl => (k.at_, min 32768 (k.ctlEnd - k.at_))
  | .ext => match k.exts with | (_, len, off, _) :: _ => (off, min 32768 len) | [] => (0, 0)

/-! ## Checks and writes (R431) -/

/-- Step 1: the header and its CRC, the owner and the job, and the seed. -/
def State.checkHead (s : State) (x : CtxId) (k : Restore) : Option Nat :=
  let w (i : Nat) : Nat := (word k.head i).toNat
  let w0 := w 0 - (if bit (w 0) 55 then 2 ^ 55 else 0)
  let body := (w0 :: [w 1, w 2, w 3, w 4, w 5, w 6]).flatMap (fun v => leBytes v 8)
  if (crc32c (body ++ k.buf.take (32 * k.exts'))).toNat != w 7 % 2 ^ 32 then some scCrc
  else if bitsOf (w 0) 47 32 != s.pkg.toNat || bitsOf (w 1) 63 48 != (s.relJob 0 x).toNat then some scOwner
  else if w 2 != (s.ctx x).seed.toNat then some scSeed
  else none

/-- Step 2: each hurdle of the record is IDLE, or owned by the context. -/
def State.checkHurdles (s : State) (x : CtxId) (i : SplitItems) : Bool :=
  i.hurdles.all (fun h => (s.hurdle h.1).state = .idle || (s.hurdle h.1).owner = x)

/-- The items of a restore, from the bytes between the position record and the extents. -/
def Restore.items (k : Restore) : Option SplitItems := Config.splitItems (k.buf.drop (itemsAt k.exts' - 0x1000))

/-- The extents of the table that hold something. -/
def Restore.table (k : Restore) : List (Nat × Nat × Nat × W32) :=
  ((List.range k.exts').map (fun i => (bytesWord k.buf (4 * i) % 2 ^ 57, bytesWord k.buf (4 * i + 1), bytesWord k.buf (4 * i + 2),
    BitVec.ofNat 32 (bytesWord k.buf (4 * i + 3))))).filter (fun e => e.2.1 != 0)

/-- Bytes of a frame go back to the save area, unless a write before was refused. -/
def State.frameBack (x : CtxId) : FramePut := fun r va bs =>
  match r.2 with
  | some e => (r.1, some e)
  | none => r.1.relWrite 0 x va bs

/-- The save frames, with the core-store bytes they hold, go back to the save area; the status of the first access that fails. -/
def State.putStores (s : State) (x : CtxId) (i : SplitItems) : State × Option Nat :=
  let k := s.ctx x
  let r := (i.frames.take (s.partCores k.part).length).zipIdx.foldl (fun r f => putFrame (State.frameBack x) r (k.frameVa f.2) f.1) (s, none)
  i.stores.zipIdx.foldl (fun r b => State.frameBack x r (k.rangeVa b.2) b.1) r

/-- Step 3 without the extents: generation entries, statistics entries, norm partials and save frames. -/
def State.putItems (s : State) (x : CtxId) (i : SplitItems) : State :=
  let s := allCores.foldl (fun (s : State) (c : CoreId) =>
    (s.modCore c (fun k => { k with
      gens := k.gens.filter (fun e => e.ctx != x) ++ (i.gens.filter (fun e => e.1 = c)).map (fun e => { e.2 with ctx := x })
      stats := k.stats.filter (fun e => e.ctx != x)
        ++ (i.stats.filter (fun e => e.1 = c)).map (fun e => { e.2 with ctx := x, win := none, line := none }) })).setPair
      (Reg.REL_NORM_LO c x) ((i.norms[c.val]?).getD 0).toNat) s
  s.modCtx x (fun k => { k with
    saveVa := i.saveVa, stride := i.stride, saveStore := i.saveStore, fresh := false
    frames := i.frames.zipIdx.foldl (fun v f => vset v (Fin.ofNat 8 f.2) { f.1 with valid := true }) k.frames })

/-- Step 4: a hurdle as recorded, owned by the context, bound to no window. -/
def State.putHurdles (s : State) (x : CtxId) (i : SplitItems) : State :=
  i.hurdles.foldl (fun s h => s.setHurdle h.1 { splitHurdle h.2 with owner := x }) s

/-- A counter of the position record: derived by its rule, or as recorded (R432). -/
def derived (pos : List W64) (k : Nat) : W64 :=
  let r := word pos (12 + k)
  if r.getLsbD 63 then
    BitVec.ofNat 64 (bitsOf r.toNat 15 0 * wbits pos 0 31 0 + bitsOf r.toNat 31 16 * wbits pos 1 15 0
      + bitsOf r.toNat 47 32 * (word pos 2).toNat)
  else word pos (4 + k)

/-- The position record as a restore writes it. -/
def derivedPos (pos : List W64) : List W64 :=
  (List.range 32).map (fun i => if 4 ≤ i && i < 12 then derived pos (i - 4) else if i < 3 || (12 ≤ i && i < 20) then word pos i else 0)

/-- SPL_RNG_SKEW for each counter that differs from its derived value. -/
def State.skewEvents (s : State) (x : CtxId) (pos : List W64) : State :=
  (List.range 8).foldl (fun s k =>
    if word pos (4 + k) != derived pos k then s.ctxEvent .splRngSkew x [.small 8 k, .word (word pos (4 + k) - derived pos k).toNat] else s) s

/-- Steps 3 to 6 once every extent is in place. -/
def State.finishRestore (s : State) (x : CtxId) (k : Restore) (i : SplitItems) : State :=
  let t := (s.putItems x i).putStores x i
  match t.2 with
  | some _ => t.1.abortRestore x scFault
  | none =>
    let s := t.1.putHurdles x i
    let pb := (k.buf.drop (posAt k.exts' - 0x1000)).take 256
    let pos := (List.range 32).map (fun j => BitVec.ofNat 64 (bytesWord pb j))
    let w := s.relWrite 0 x i.posVa ((derivedPos pos).flatMap (fun v => leBytes v.toNat 8))
    match w.2 with
    | some _ => w.1.abortRestore x scFault
    | none =>
      let s := w.1.skewEvents x pos
      let s := s.modCtx x (fun c => { c with
        state := .suspended, restore := none
        hist := ⟨BitVec.ofNat 32 (wbits k.head 1 31 0), i.costs, wbits k.head 6 63 32 * 1000000000, some s.ptb,
          BitVec.ofNat 32 (wbits k.head 6 31 0) + 1, some (word k.head 3)⟩ })
      let s : State := match k.tier, k.slots with
        | 0, z :: _ => { s with lastSlot := vset s.lastSlot (s.ctx x).part (Fin.ofNat 2 z.val) }
        | _, _ => s
      let s := ((s.setFld (Reg.SPL_CTX_STATE x) 31 28 0).setAct (Reg.SPL_CTX_STEP x) k.step).splInterval x
      (s.ctxEvent .splRestored x [.word k.step.toNat]).cmdStatus k.who.1 k.who.2.1 k.who.2.2 stOk

/-- What follows the checks, or an extent: the next extent, or the end. -/
def State.restoreNext (s : State) (x : CtxId) (k : Restore) : State :=
  if !k.exts.isEmpty then s.modRestore x k else
  match k.items with
  | some i => (s.modRestore x k).finishRestore x k i
  | none => s.abortRestore x scCrc

/-- The header of a slot has been read: a sealed copy with the STEP, or the next candidate. -/
def State.feedHead (s : State) (x : CtxId) (k : Restore) (bs : List Byte) : State :=
  let ws := (List.range 8).map (fun i => BitVec.ofNat 64 (bytesWord bs i))
  if wbits ws 0 63 56 = 5 && wbits ws 0 55 55 = 1 && wbits ws 0 31 0 = k.step.toNat && wbits ws 5 31 0 ≤ 256 then
    s.modRestore x { k with head := ws, phase := .ctl, at_ := 0x1000, slots := k.slots.take 1 }
  else match k.slots with
    | _ :: z :: t => s.modRestore x { k with slots := z :: t }
    | _ => s.abortRestore x scNotFound

/-- What lies before the extents has been read: the checks. -/
def State.feedCtl (s : State) (x : CtxId) (k : Restore) (bs : List Byte) : State :=
  let k := { k with buf := k.buf ++ bs, at_ := k.at_ + bs.length }
  if k.at_ < k.ctlEnd && !bs.isEmpty then s.modRestore x k else
  match s.checkHead x k with
  | some e => s.abortRestore x e
  | none =>
    match k.items with
    | none => s.abortRestore x scCrc
    | some i =>
      if !s.checkHurdles x i then s.abortRestore x scHurdle
      else s.restoreNext x { k with phase := .ext, exts := k.table, crc := crcStart }

/-- Part of an extent has been read: it is written, and its CRC is checked with the last part. -/
def State.feedExt (s : State) (x : CtxId) (k : Restore) (bs : List Byte) : State :=
  match k.exts with
  | [] => s
  | (va, len, off, want) :: t =>
    let n := min bs.length len
    let w := s.relWrite 0 x va (bs.take n)
    let crc := crcOn k.crc (bs.take n)
    (match w.2 with
    | some _ => w.1.abortRestore x scFault
    | none =>
      if n < len then w.1.modRestore x { k with exts := (va + n, len - n, off + n, want) :: t, crc := crc }
      else if ~~~crc != want then w.1.abortRestore x scCrc
      else w.1.restoreNext x { k with exts := t, crc := crcStart })

def State.feed (s : State) (x : CtxId) (k : Restore) (bs : List Byte) : State :=
  match k.phase with
  | .head => s.feedHead x k bs
  | .ctl => s.feedCtl x k bs
  | .ext => s.feedExt x k bs

/-! ## The sources (R430) -/

/-- Ask the buddy for the next read. -/
def State.askBuddy (s : State) (x : CtxId) : State :=
  match (s.ctx x).restore with
  | none => s
  | some k =>
    let a := k.ask
    let h : SplitHead := ⟨(s.ctx x).part, k.slots.head?.getD 0, false, 0, BitVec.ofNat 64 a.1, BitVec.ofNat 32 a.2⟩
    let r := s.splitSend x k.id h .readReq
    if r.2 then r.1 else r.1.abortRestore x scPeerLost

/-- Read a store image from host memory, up to the restore's end. -/
def State.readImage (s : State) (x : CtxId) : Nat → State
  | 0 => s
  | fuel + 1 =>
    match (s.ctx x).restore with
    | none => s
    | some k => (s.feed x k (Mem.bytes s.host (k.host + k.ask.1) k.ask.2)).readImage x fuel

/-- SPL_RESTORE. `hostErr`: the host refuses an access of the image. -/
def execSplRestore (f : FnId) (q : Fin 64) (hostErr : Bool) (s : State) : Out :=
  s.startCmd f q 0x22 [(1, 63, 0), (4, 5, 0), (4, 9, 8), (6, 31, 0)] (fun s r =>
    let x : CtxId := Fin.ofNat 64 (wbits r.words 4 5 0)
    let tier := wbits r.words 4 9 8
    let c := s.ctx x
    if !s.mayCtx f x || s.oos then (s, some stDenied)
    else if tier = 3 || (tier != 2 && (word r.words 1).toNat != 0) || c.state != .created || c.take.isSome || c.restore.isSome then
      (s, some stBadField)
    else if tier = 2 && hostErr then (s, some stHostError)
    else
      let k : Restore := {
        id := c.splitNo, who := (f, q.val, r.idx), tier := tier, step := BitVec.ofNat 32 (wbits r.words 6 31 0)
        host := (word r.words 1).toNat, slots := if tier = 0 then [0, 1] else if tier = 1 then [2, 3] else [0]
        phase := .head, head := [], at_ := 0, buf := [], exts := [], crc := crcStart }
      let s := s.rouse 6 c.part.val (allCtxs.any (s.splitHolds c.part.val))
      let s := (s.modCtx x (fun c => { c with splitNo := c.splitNo + 1, restore := some k })).setFld (Reg.SPL_CTX_STATE x) 31 29 3
      (if tier = 2 then s.readImage x (2 ^ 24) else s.askBuddy x, none))

/-- A read of a slot is answered: checked and written, and the next read is asked for. -/
def execReadRsp (n : Nat) (s : State) : Out :=
  match s.takeMsg n with
  | some (m, t) =>
    match m.msg.body with
    | .split _ (.readRsp bytes) =>
      let r := t.takeReq m.msg.tag
      (match r.1.map (·.who) with
      | some (Requester.split x id _) =>
        let t := r.2.beat 6 (r.2.ctx x).part
        (match (t.ctx x).restore with
        | some k => .next (if k.id = id then (t.feed x k bytes).askBuddy x else t)
        | none => .next t)
      | _ => .next r.2)
    | _ => .next s
  | none => .next s

/-! ## Refusals and losses (R424, R425) -/

/-- The capture or restore behind a request aborts. -/
def State.splitFailed (s : State) (who : Requester) (cause : Nat) : State :=
  match who with
  | .split x id _ =>
    (match (s.ctx x).take, (s.ctx x).restore with
    | some k, _ => if k.id = id then s.abortTake x cause else s
    | none, some k => if k.id = id then s.abortRestore x cause else s
    | none, none => s)
  | _ => s

def execSplitRefuse (n : Nat) (s : State) : Out :=
  match s.takeMsg n with
  | some (m, t) =>
    match m.msg.body with
    | .split _ .refuse =>
      let r := t.takeReq m.msg.tag
      (match r.1 with
      | some q => .next (r.2.splitFailed q.who scTooLarge)
      | none => .next r.2)
    | _ => .next s
  | none => .next s

end Sys2Proof.Machine
end

