-- ==== Sys2Proof/Machine/Remote.lean ====
section
/-! DEFINITION. Memory traffic of other packages and its replies (R274, R325), arrivals over the links (R150), and the loss of a
port (R337 to R341). -/

namespace Sys2Proof.Machine
open Sys2Proof

/-! ## Served here (R274) -/

/-- The INBOUND window that lets a package access a line: read or write. -/
def State.inbound (s : State) (org : BitVec 16) (pa : Nat) (write : Bool) : Option Nat :=
  (List.range 64).find? (fun i =>
    let mask := s.fld (Reg.MEM_WIN_SRC i) 31 16
    s.memWinKind i = 5 && decide (s.winBase i ≤ pa) && decide (pa + 256 ≤ s.winBase i + s.winSize i)
      && org.toNat &&& mask = s.fld (Reg.MEM_WIN_SRC i) 15 0 &&& mask
      && s.fld (Reg.MEM_WIN_ATTR i) (if write then 17 else 16) (if write then 17 else 16) = 1)

/-- A reply to a message. -/
def State.answer (s : State) (vc : Fin 4) (m : Msg) (b : MsgBody) : State := (s.sendMsg vc ⟨m.org, s.pkg, m.tag, 0, b⟩ none).1

/-- A remote access is refused: counted, reported when the count was zero, and answered. -/
def State.refuseRemote (s : State) (m : Msg) : State :=
  let first := s.act Reg.MEM_INBOUND_CNT = 0
  let s := s.bump Reg.MEM_INBOUND_CNT 1
  (if first then s.event .memInboundRefused [] else s).answer vcHctl m .refuse

/-- A line is read for another package. -/
def execRdReq (n : Nat) (s : State) : Out :=
  match s.takeMsg n with
  | some (m, t) =>
    match m.msg.body with
    | .rdReq hint =>
      let pa := m.msg.addr.toNat / 256 * 256
      (match t.inbound m.msg.org pa false with
      | none => .next (t.refuseRemote m.msg)
      | some i =>
        let x := t.lineRead pa (t.winCached i) hint
        if x.2.1 then
          let b := (x.2.2.ueEvent pa).freshBytes 256
          .next (b.1.answer vcDisp m.msg (.rdRsp b.2))
        else .next (x.2.2.answer vcDisp m.msg (.rdRsp x.1)))
    | _ => .next s
  | none => .next s

/-- A line is written for another package, once it has arrived whole. -/
def execWr (n : Nat) (s : State) : Out :=
  match s.takeMsg n with
  | some (m, t) =>
    match m.msg.body with
    | .wr hint bytes =>
      let pa := m.msg.addr.toNat / 256 * 256
      (match t.inbound m.msg.org pa true with
      | none => .next (t.refuseRemote m.msg)
      | some i => .next ((t.lineWrite pa (t.winCached i) hint bytes unitOther).answer vcDisp m.msg .wrAck))
    | _ => .next s
  | none => .next s

/-- An arrival for a hurdle of this package goes on to its home die. -/
def execArriveMessage (n : Nat) (s : State) : Out :=
  match s.takeMsg n with
  | some (m, t) =>
    match m.msg.body, m.port with
    | .arrive hid b, some p => .next { t with arrivals := t.arrivals ++ [⟨hid, b, .port p⟩] }
    | .arrive _ _, none => .next t
    | _, _ => .next s
  | none => .next s

/-! ## Replies (R325, R339) -/

/-- One request fewer that a host command waits for, with its status if it failed. -/
def State.copyDone (s : State) (f : FnId) (q : Nat) (idx : W32) (st : Option (BitVec 8)) : State :=
  s.modQueue f q (fun x => { x with running := x.running.map (fun r =>
    if r.idx = idx then { r with owed := r.owed - 1, status := if r.status.isNone then st else r.status } else r) })

/-- A request is served: with a line, for a read. -/
def State.reqServed (s : State) (r : OutReq) (line : List Byte) : State :=
  match r.who with
  | .line c gth j n =>
    s.modReq c gth j n (fun z => { z with data := if line.isEmpty then z.data else (List.range 256).zip line, st := .served })
  | .copy f q idx none => s.copyDone f q idx none
  | .copy f q idx (some (sp, b, off, len)) =>
    let t := s.copyPut f q idx sp b ((line.drop off).take len)
    t.1.copyDone f q idx t.2
  | .bar2 f _ off len =>
    if line.isEmpty then s else { s with reply := vset s.reply f (BitVec.ofNat 64 (leNat ((line.drop off).take len))) }
  | .relay _ _ _ _ | .split _ _ _ | .dev => s

/-- A request is refused by the other package, or lost: a refused access of BAR2 as one refused here (R39, R274). -/
def State.reqFailed (s : State) (r : OutReq) (lost : Bool) : State :=
  let s := match r.who with
    | .line c gth j n => s.modReq c gth j n (fun z => { z with st := .failed (if lost then .lost else .refused) })
    | .copy f q idx _ => s.copyDone f q idx (some (if lost then stPeerLost else stFault))
    | .bar2 f a _ len =>
      let t := if len = 0 then s else { s with reply := vset s.reply f (if lost then 0xFFFFFFFFFFFFFFFF else 0) }
      if lost then t else t.hifEvent .hifApertureRange f [.word a]
    | .dev => s
    | .relay d id j seg =>
      (match s.relCmd d id with
      | some c => (s.relAbort d c (if lost then relPeerLost else relRefused) j seg.toNat).settleU d
      | none => s)
    | .split _ _ _ => s.splitFailed r.who (if lost then scPeerLost else scTooLarge)
  match lost, r.ctx with
  | true, some x => s.affected x
  | _, _ => s

/-- A request completes with PEER_LOST: counted at the port that was lost (R339); where another package answers so, at the lowest
port of the dimension through which it left. -/
def State.reqLost (s : State) (r : OutReq) (port : Option PortId) : State :=
  let s := match port.or (s.dimPorts (Fin.ofNat 16 r.dim)).head? with | some p => s.bump (Reg.LNK_PEER_LOST p) 1 | none => s
  s.reqFailed r true

/-- The request that the n-th message of the inbox answers is completed. -/
def State.onReply (s : State) (n : Nat) (p : MsgBody → Bool) (f : State → OutReq → MsgBody → State) : Out :=
  match s.takeMsg n with
  | some (m, t) =>
    if !p m.msg.body then .next s else
    let r := t.takeReq m.msg.tag
    match r.1 with
    | some q => .next (f r.2 q m.msg.body)
    | none => .next r.2
  | none => .next s

def execRdRsp (n : Nat) (s : State) : Out :=
  s.onReply n (fun b => match b with | .rdRsp _ => true | _ => false) (fun s q b => match b with | .rdRsp l => s.reqServed q l | _ => s)
def execWrAck (n : Nat) (s : State) : Out :=
  s.onReply n (fun b => match b with | .wrAck => true | _ => false) (fun s q _ => s.reqServed q [])
def execRefuse (n : Nat) (s : State) : Out :=
  s.onReply n (fun b => match b with | .refuse => true | _ => false) (fun s q _ => s.reqFailed q false)
def execPeerLost (n : Nat) (s : State) : Out :=
  s.onReply n (fun b => match b with | .peerLost => true | _ => false) (fun s q _ => s.reqLost q none)

/-! ## The loss of a port (R330, R338 to R340) -/

/-- A port stops: whatever it held is dropped. -/
def Port.stopped (x : Port) : Port := { Port.reset with laserLow := x.laserLow }

/-- Steps 1 to 3 for one port, in the order of R338. -/
def State.dropPort (s : State) (p : PortId) (st cause : Nat) : State :=
  let s := ((s.modPort p Port.stopped).setPortState p st).setFld (Reg.LNK_STATUS p) 19 16 cause
  let s := s.event .lnkPortLost [.small 4 p, .small 16 (s.fld (Reg.LNK_PEER p) 31 16), .small 8 cause, .word s.ptb.toNat]
  s.hurdles.foldl (fun s h => if h.2.ports.getLsbD p then s.poison (BitVec.ofNat 12 h.1) else s) s

/-- Step 4: every request through a dimension that has had no reply, here or in transit. -/
def State.loseDim (s : State) (p d : PortId) : State :=
  let mine := s.outReq.filter (fun r => r.dim = d.val)
  let through := s.transit.filter (fun t => t.dim = d.val)
  let s : State := { s with
    dims := vset s.dims d Dim.reset
    outReq := s.outReq.filter (fun r => r.dim != d.val)
    transit := s.transit.filter (fun t => t.dim != d.val) }
  let s := mine.foldl (fun s r => s.reqLost r (some p)) s
  let s := through.foldl (fun s t => (s.sendMsg vcHctl ⟨t.org, t.dst, t.tag, 0, .peerLost⟩ none).1) s
  -- running commands of relay engines with a step in the dimension that is not complete
  allCores.foldl (fun (s : State) (e : CoreId) =>
    ((s.rel e).cmds.filter (·.started)).foldl (fun s c =>
      match s.relCmd e c.id, (List.range c.steps).find? (fun j => (dimsOf c.dims)[c.stepOf j]? = some d && !s.stepDone c j) with
      | some c, some j => (s.relAbort e c relPeerLost j 0).settleU e
      | _, _ => s) s) s

/-- Step 5: contexts whose LNK_CTX_PORTS name the port. -/
def State.holdPort (s : State) (p : PortId) : State :=
  (List.range 64).foldl (fun s i => if bit (s.fld (Reg.LNK_CTX_PORTS i) 15 0) p then s.affected (Fin.ofNat 64 i) else s) s

/-- A port is lost, or disabled, with its dimension: a SHED member of it is LOST too (R334), and, where the port was UP, a FENCED one
(R330; notes/assumptions/81). -/
def State.losePort (s : State) (p : PortId) (st cause : Nat) : State :=
  let shed := match s.portDim p with
    | some d => (s.dimPorts d).filter (fun q => q != p && (s.portState q = stShed || (s.portState p = stUp && s.portState q = stFenced)))
    | none => []
  let s := shed.foldl (fun s q => s.dropPort q stLost cause) (s.dropPort p st cause)
  let s := match s.portDim p with | some d => s.loseDim p d | none => s
  (shed.foldl State.holdPort (s.holdPort p)).sourceLeft

/-- Flits not acknowledged go to the companion of a trunk, which sends them in TSEQ order (R330). -/
def State.handOver (s : State) (p q : PortId) : State :=
  let fs := (s.port p).retry.filter (fun f => f.ctrl.isNone)
  (s.modPort p Port.stopped).modPort q (fun x =>
    { x with
      retry := x.retry ++ fs.zipIdx.map (fun f => { f.1 with seq := x.seq + BitVec.ofNat 12 f.2, sent := false, replays := 0 })
      seq := x.seq + BitVec.ofNat 12 fs.length })

/-- The companion of a trunk member that is UP. -/
def State.companion (s : State) (p : PortId) : Option PortId :=
  match s.portDim p with | some d => (s.upPorts d).find? (· != p) | none => none

/-- The marking that a loss condition has made due. -/
def execPortMarkLost (p : PortId) (s : State) : Out :=
  match (s.port p).loss with
  | none => .next s
  | some cause =>
    match s.companion p with
    | some q =>
      .next ((((s.handOver p q).setPortState p stShed).setFld (Reg.LNK_STATUS p) 19 16 cause).event .lnkPortShed [.small 4 p])
    | none => .next (s.losePort p stLost cause)

/-- A write of LNK_CTL.DISABLE: set, it sends NOTICE_DISABLE and takes the port to DISABLED with the steps of R338, unless a
companion goes on; clear, the port stays as it is until RETRAIN. -/
def State.disablePort (s : State) (p : PortId) (v : Bool) : State :=
  let s := s.setFld (Reg.LNK_CTL p) 29 29 (if v then 1 else 0)
  if !v || s.portState p = stDisabled then s else
  let s := match s.companion p with
    | some q => ((s.handOver p q).setPortState p stDisabled).sourceLeft
    | none => if s.timed p then s.losePort p stDisabled 10 else (s.modPort p Port.stopped).setPortState p stDisabled
  s.modPort p (fun x => { x with unseq := [.notice 4 s.ptb] })

def execLnkDisable (p : PortId) (v : Bool) (s : State) : Out :=
  .next (s.pfWrite 0 (Reg.LNK_CTL p) (withField (s.ctlAuto p) 29 29 (if v then 1 else 0)) (·.disablePort p v))

/-- REFCLK_LINK fails (R31): every port is LOST. -/
def execRefclkLinkLoss (s : State) : Out :=
  let s : State := { s with pins := { s.pins with linkRef := false } }
  .next ((allPorts.foldl (fun s p => if s.portState p = stLost then s else s.losePort p stLost 10) s).event .lnkRefclkLost [])

end Sys2Proof.Machine
end

