-- ==== Sys2Proof/Machine/Purge.lean ====
section
/-! DEFINITION. The removal of a context's work from every engine (R440, R443), and the context reset. -/

namespace Sys2Proof.Machine
open Sys2Proof

/-- A slot of a removed context: CANCELLED, then IDLE once its tags are free. -/
def purgeSlot (x : CtxId) (z : Slot) : Slot :=
  if z.cur.org.ctx = x && z.state != .idle then
    let rs := z.reqs.filter (fun r => r.st = .sent)
    if rs.isEmpty then { Slot.reset with faultVa := z.faultVa }
    else { z with state := .cancelled, pend := none, halting := none, prg := false, reqs := rs, toIdle := true }
  else z

/-- What a removal takes from a core: `mine` if the context is bound to it; `full` for a context reset, which takes the
stash directory and the generation table too. -/
def purgeCore (x : CtxId) (full mine : Bool) (k : Core) : Core :=
  { k with
    seqs := if mine then Vector.replicate 3 Seq.reset else k.seqs
    wins := if mine then Vector.replicate 2 Win.reset else k.wins
    arr := { k.arr with
      xing := k.arr.xing.filter (fun a => a.org.ctx != x)
      queue := k.arr.queue.filter (fun a => a.org.ctx != x)
      passes := k.arr.passes.filter (fun a => a.org.ctx != x)
      bank := if mine then Vector.replicate 2 Bank.reset else k.arr.bank
      headStall := k.arr.headStall && !mine }
    rowQ := k.rowQ.filter (fun a => a.org.ctx != x)
    stats := k.stats.filter (fun e => e.ctx != x)
    gthQ := k.gthQ.filter (fun g => match g with
      | .gather j => (vget k.gth j).cur.org.ctx != x
      | .xrcheck _ o => o.ctx != x)
    str := k.str.map (purgeSlot x)
    gth := k.gth.map (purgeSlot x)
    stash := if full then k.stash.filter (fun e => e.ctx != x) else k.stash
    stashOps := k.stashOps.filter (fun e => e.org.ctx != x)
    gens := if full then k.gens.filter (fun e => e.ctx != x) else k.gens
    uops := k.uops.filter (fun u => u.org.ctx != x)
    stallAt := if mine then none else k.stallAt
    rowStallAt := if mine then none else k.rowStallAt }

/-- A relay command is dropped without a status write or an arrival; ABORT is sent under R359, and its destination is
undefined as after any abort. -/
def State.relDrop (s : State) (d : CoreId) (c : RelCmd) : State :=
  let s := (s.setRelCmds d ((s.rel d).cmds.filter (fun x => x.id != c.id))).relForget d c
  ((List.range c.steps).filter (fun j => c.started && (c.reached j || !c.ready.contains j))).foldl (fun s j =>
    (s.relSend d c vcHctl (s.relPartner c j) 0 j .abort).1) s

/-- The relay work of a context. -/
def State.purgeRelay (s : State) (x : CtxId) : State :=
  let s := allCores.foldl (fun s d =>
    let s := ((s.rel d).cmds.filter (fun c => c.ctx = x)).foldl (fun s c => s.relDrop d c) s
    let s := s.modRel d (fun e => { e with polls := e.polls.filter (fun k => k.1 != x), ret := e.ret.filter (fun k => k.1 != x) })
    [0, 1, 2].foldl (fun s q => s.setAct (Reg.REL_Q_HEAD d x q) 0) s) s
  ({ s with kicks := s.kicks.filter (fun k => k.2.1 != x) } : State).normClear x

/-- Remove a context's work from every engine (R443): its windows discarded, its slots cancelled, its commands dropped. -/
def State.purge (s : State) (x : CtxId) (full : Bool) : State :=
  let bound := s.boundCores x
  let p := (s.ctx x).part
  let s := bound.foldl (fun s c => s.stopDiscard x c) s
  let s := if bound.isEmpty then s else (s.setSpecRes p 0 ⟨[], [], false⟩).setSpecRes p 1 ⟨[], [], false⟩
  let s := allCores.foldl (fun s c => (s.modCore c (purgeCore x full (bound.contains c))).stashFreed c) s
  let s := bound.foldl (fun s c => s.setFld (Reg.ARR_SENTINEL c) 20 0 0) s
  let s : State := { s with
    watch := s.watch.map (fun l => l.filter (fun e => e.ctx != x))
    outReq := s.outReq.map (fun (r : OutReq) => if r.ctx = some x then { r with ctx := none } else r) }
  let s := s.purgeRelay x
  ((s.abortTake x scReset).abortRestore x scReset).modCtx x (fun k => { k with follow := none, saving := false })

/-! ## Context reset (R443, R444) -/

/-- Hurdles that a host WAIT, a sequencer or a stream slot waits on. -/
def State.awaited (s : State) : List Nat :=
  (s.fns.toList.flatMap (fun n => n.queues.flatMap (fun kv => match kv.2 with
    | some x => (x.running.filter (fun r => wbits r.words 0 63 56 = 4 && r.status.isNone)).map (fun r => wbits r.words 4 11 0)
    | none => [])))
    ++ allCores.flatMap (fun c => allSeqs.filterMap (fun q => (s.seq c q).wait.map (fun w => w.1.toNat))
      ++ (s.core c).str.toList.filterMap (fun z => (s.slotWaits z).map (·.toNat)))

/-- A hurdle of a reset context: poisoned, which wakes its waiters, then IDLE with COUNT 0 and WINDOW none. -/
def State.clearHurdle (s : State) (hid : Hid) : State :=
  let s := s.poison hid
  s.setHurdle hid { s.hurdle hid with state := .idle, count := 0, window := 0, specRec := false, strayRaised := false }

/-- Every hurdle the context owns. One that nothing has written and nothing waits on keeps its reset value. -/
def State.clearHurdles (s : State) (x : CtxId) : State :=
  let ids := ((s.hurdles.map (·.1)) ++ s.awaited).eraseDups
  (ids.filter (fun i => (s.hurdle (BitVec.ofNat 12 i)).owner = x)).foldl (fun s i => s.clearHurdle (BitVec.ofNat 12 i)) s

/-- Causes of X_CTX_RESET (R444). -/
inductive ResetCause where
  | host | flr | guilty
  deriving DecidableEq, Repr

def ResetCause.code : ResetCause → Nat | .host => 1 | .flr => 2 | .guilty => 3

/-- What a context keeps over its reset: its place, its seed, its counters (R414), its export count and what is kept of its
splits. -/
def resetCtx (k : Ctx) : Ctx :=
  { k with
    state := .created, credit := 0, fresh := true, frames := Vector.replicate 8 SavedCore.reset, stopFor := .none, saving := false
    holdRaised := false, holdDue := none, lagAt := [], stepSent := false, replay := false }

/-- A context reset: its turn ends, its work is removed, its cores are free, and it is CREATED. -/
def State.ctxReset (s : State) (x : CtxId) (cause : ResetCause) : State :=
  let p := (s.ctx x).part
  let s := if (s.part p).running = some x then s.endTurn p else s
  let s := ((((s.purge x true).unbind x).abortSuspends x).modCtx x resetCtx).clearHurdles x
  let s := s.bumpFld Reg.HNG_RESETS 15 0 1
  let s := if cause = .guilty then s.bumpFld Reg.HNG_RESETS 31 16 1 else s
  let s : State := { s with hangs := s.hangs.map (fun h => { h with
    suspects := h.suspects.filter (· != x), cur := if h.cur = some x then none else h.cur }) }
  (s.ctxEvent .xCtxReset x [.small 8 cause.code]).startTurn p

/-- CTX_DESTROY: every field cleared but the counters of R414. -/
def destroyCtx (k : Ctx) : Ctx :=
  { Ctx.reset with run := k.run, energy := k.energy, energyRem := k.energyRem, splitNo := k.splitNo }

end Sys2Proof.Machine
end

