-- ==== Sys2Proof/Machine/Resets.lean ====
section
/-! DEFINITION. The reset domains of R445: the package warm reset with its photo and its NOTICE flits, what survives it and
what survives a loss of power; and functions of the host port that are reset (R375). -/

namespace Sys2Proof.Machine
open Sys2Proof

/-! ## Functions (R375) -/

/-- A running command of a queue that is deleted completes: with the status it has come to, or with ABORTED where it still waits
(notes/assumptions/84). -/
def State.endCmd (s : State) (f : FnId) (q : Nat) (r : RunCmd) : State :=
  let t := s.settleCmd f q r
  match t.1.queue f q with
  | some x => t.1.finishCmd f q x r.idx (wbits r.words 0 55 55 = 1) (t.2.getD stAborted)
  | none => t.1

/-- A queue is deleted under QDELETE (R375, R382): its running commands complete; every entry after them is ABORTED. -/
def State.deleteQueue (s : State) (f : FnId) (q : Nat) : State :=
  match s.queue f q with
  | none => s
  | some x =>
    let s := x.running.foldl (fun s r => s.endCmd f q r) s
    match s.queue f q with
    | some x => s.removeQueue f q x
    | none => s

/-- Steps 1 to 3 of R375: every queue is deleted, the event queue is disabled, and the MSI-X Table and PBA are reset. -/
def State.resetQueues (s : State) (f : FnId) : State :=
  let s := ((s.fn f).queues.map (·.1)).foldl (fun s q => s.deleteQueue f q) s
  (s.setAct (Reg.HIF_FN_EQ_DROP f) 0).modFn f (fun _ => Fn.reset)

/-! ## What survives (R445) -/

/-- What is neither state of a die nor lost with power: the queue of waiting commands, the fuses and what is in both flash
devices, the DRAM rows that are repaired, the world outside; and the model's own counter of free values. -/
def State.durable (s b : State) : State :=
  { b with
    pending := s.pending, free := s.free, host := s.host, hostAbsent := s.hostAbsent, atsChanged := s.atsChanged, msix := s.msix
    flash := s.flash, areas := s.areas.map (fun a => { SplArea.reset with fslots := a.fslots, fnew := a.fnew })
    rows := (s.rows.map (fun kv => (kv.1, { kv.2 with ce := 0, copying := false }))).filter (fun kv => kv.2 != rowAt kv.1), spares := s.spares
    repairLog := s.repairLog, retired := s.retired, chanOut := s.chanOut, dead := s.dead
    photo := s.photoSector, photoSector := s.photoSector
    recA := s.recA, recB := s.recB, curB := s.curB, fuses := s.fuses
    activeImage := s.activeImage, stageBank := s.stageBank, gnt := s.gnt.map (fun g => { Spares.reset with fcols := g.fcols, frows := g.frows }), pins := { s.pins with flpPerst := true } }

/-- Registers that a warm reset leaves unchanged: the host link and SR-IOV configuration, the counters that count since cold
reset, and the checked stage bank (notes/assumptions/24). -/
def warmKept : List Nat :=
  [Reg.HIF_STATUS, Reg.CSET_COUNT, Reg.HNG_RESETS, Reg.SCH_ENERGY_OVH_LO, Reg.SCH_ENERGY_OVH_HI, Reg.SCH_ENERGY_ALL_LO,
   Reg.SCH_ENERGY_ALL_HI, Reg.CRN_STG_VER]

/-- Bits hi to lo of a register carried over. -/
def State.carry (s b : State) (off hi lo : Nat) : State := b.setFld off hi lo (s.fld off hi lo)

/-- The part after a warm reset, at the crown stage (R445, R495): OOS, the tripped flag of the AON domain, the crown's counters,
the SMBus strap and the time base stay; each context keeps the two counters that only CTX_CREATE clears (R414). -/
def State.warmBase (s : State) : State :=
  let b := s.durable State.reset
  let b := warmKept.foldl (fun b off => b.setAct off (s.act off)) b
  let b := s.carry b Reg.GLB_STATUS 27 27
  let b := s.carry b Reg.GLB_STATUS 28 28
  let b := s.carry b Reg.PSC_STATUS 28 27
  let b := s.carry b Reg.PSC_INPUT 15 0
  let b := s.carry b Reg.CRN_STATUS 15 0
  let b := s.carry b Reg.CRN_STATUS 31 29
  let b := s.carry b Reg.CRN_STG_STATUS 31 29
  let b := s.carry b Reg.CRN_STG_STATUS 23 16
  let b := if b.fld Reg.CRN_STG_STATUS 31 29 = 1 || b.fld Reg.CRN_STG_STATUS 31 29 = 2 then b.setFld Reg.CRN_STG_STATUS 31 29 0 else b
  { b with
    ptb := s.ptb, ovhRem := s.ovhRem, crown := s.crown
    psc := { b.psc with lowV := s.psc.lowV, degV := s.psc.degV }
    ctxs := s.ctxs.map (fun k => { Ctx.reset with run := k.run, energy := k.energy, energyRem := k.energyRem, splitNo := k.splitNo }) }

/-- The ports of a package that resets (R337): 16 NOTICE flits on each that carries flits, and IDLE flits with DOWN set until it
trains again. -/
def State.noticePorts (s b : State) : State :=
  { b with ports := Vector.ofFn (fun (p : PortId) =>
      if s.timed p then { Port.reset with unseq := List.replicate 16 (.notice 1 s.ptb), halted := true } else Port.reset) }

/-- A package warm reset (R445): it begins a start at the crown stage. -/
def State.warmReset (s : State) : State :=
  let s := allFns.foldl State.resetQueues s
  let b := s.noticePorts s.warmBase
  { (b.setFld Reg.GLB_STATUS 3 0 2).setFld Reg.GLB_STATUS 31 29 s.fuses.life with start := ⟨false, 1, false, false, false, false⟩ }

/-- A warm reset is due: it takes its photo first, unless one is being taken, whose cause alone is counted, or REFCLK_SYS is
missing. It waits for the other management die's acknowledgement (R486). -/
def State.beginWarm (s : State) : State :=
  if s.resetDue then s
  else if s.twoCrowns then { s with crown := { s.crown with waits := s.crown.waits ++ [.warm] } }
  else if s.photoRun.isSome then (s.startPhoto phReset none).warmReset
  else { s.startPhoto phReset none with resetDue := true }

/-- The part without power, or OFF (R475, R535): what is durable, and the time base and the state of every die at their cold
values. `aon`: VAUX33 stays, and with it the tripped flag. -/
def State.powerOff (s : State) (aon : Bool) : State :=
  let b := s.durable State.reset
  let b := (if aon then s.carry b Reg.PSC_STATUS 28 28 else b).setFld Reg.GLB_STATUS 31 29 s.fuses.life
  { b with psc := { b.psc with state := .off } }

end Sys2Proof.Machine
end

