-- ==== Sys2Proof/Machine/Hang.lean ====
section
/-! DEFINITION. Watchdogs and what their firing does (R435 to R442): engine resets, the photo before a hang is handled, the
freeze and purge, the replay of suspects, escalation and out of service (R446, R447). -/

namespace Sys2Proof.Machine
open Sys2Proof

/-! ## What an engine holds (R435, R436) -/

/-- The queue that instance n of kind 7 names: 64 times the function plus the queue. -/
def hifQueue (n : Nat) : FnId × Nat := (Fin.ofNat 9 (n / 64), n % 64)

/-- A command of a queue that a watchdog counts: started, no WAIT (R436), without a status. -/
def State.hungCmd (s : State) (n : Nat) : Option RunCmd :=
  match s.queue (hifQueue n).1 (hifQueue n).2 with
  | some x => x.running.find? (fun r => r.status.isNone && wbits r.words 0 63 56 != 4)
  | none => none

/-- The engine holds work. Controllers answer in the step that asks them, so kind 8 is taken at its word. -/
def State.holding (s : State) (k : Fin 9) (n : Nat) (q : SeqId) : Bool :=
  let c : CoreId := Fin.ofNat 8 n
  match k.val with
  | 0 => (s.seq c q).state = .stopping
  | 1 => (s.core c).arrHolds
  | 2 => (s.core c).lineHolds false
  | 3 => (s.core c).lineHolds true
  | 4 => (s.core c).rowHolds
  | 5 => (s.rel c).holds
  | 6 => allCtxs.any (s.splitHolds n) || !s.nvme.isEmpty
  | 7 => (s.hungCmd n).isSome
  | _ => true

/-- The hang of a partition. -/
def State.hangOf (s : State) (p : CoreId) : Option Hang := s.hangs.find? (fun h => h.part = some p)

/-- Since when the watchdog of an engine counts: its last progress, or the work it was given while it held none (R435). Time that R436
leaves out is not subtracted, so that a firing is never taken too early but for that (notes/assumptions/26). -/
def State.countsFrom (s : State) (k : Fin 9) (n : Nat) (q : SeqId) : Nat :=
  match k.val with
  | 0 => (s.seq (Fin.ofNat 8 n) q).stopAt.toNat
  | 6 => max (s.progressAt 6 n).toNat (s.progressAt 6 8).toNat
  | 7 => max (s.progressAt 7 n).toNat (match s.hungCmd n with | some r => r.since.toNat | none => 0)
  | _ => (s.progressAt k n).toNat

/-- LIMIT_US of an engine kind in ns; of a core whose partition is replayed, shifted by REPLAY_SHIFT (R435, R441). -/
def State.wdLimit (s : State) (k : Fin 9) (n : Nat) : Nat :=
  let us := max 1 (s.fld (Reg.HNG_WD k) 23 0)
  let replayed := decide (k.val ≤ 4) && (match (s.partOf (Fin.ofNat 8 n)).bind s.hangOf with
    | some h => h.phase = .replay && h.cur.isSome
    | none => false)
  (if replayed then us / 2 ^ s.fld Reg.HNG_CFG 29 27 else us) * 1000

/-- The watchdog of an engine has reached its limit. Controllers answer in the step that asks them, so kind 8 is taken at its word. -/
def State.overdue (s : State) (k : Fin 9) (n : Nat) (q : SeqId) (t : W64) : Bool :=
  k.val = 8 || decide (s.countsFrom k n q + s.wdLimit k n ≤ t.toNat)

/-- The suspects (R435). -/
def State.suspects (s : State) (k : Fin 9) (n : Nat) : List CtxId :=
  let c : CoreId := Fin.ofNat 8 n
  if k.val ≤ 4 then
    match (s.core c).ctx with
    | none => []
    | some x =>
      let p := s.part (s.ctx x).part
      let other := if p.switching then (match p.prev with | some y => if y = x then [] else [y] | none => []) else []
      allCtxs.filter (fun y => y = x || other.contains y)
  else if k.val = 5 then allCtxs.filter (fun x => (s.rel c).cmds.any (fun r => r.ctx = x))
  else if k.val = 6 then allCtxs.filter (s.splitHolds n)
  else []

/-! ## Engine reset (R438) -/

/-- An engine of a core at its cold state; no register of its block but status changes, so a slot keeps its fault address. -/
def resetEngine (k : Fin 9) (q : SeqId) (e : Core) : Core :=
  match k.val with
  | 0 => e.setSeq q Seq.reset
  | 1 => { e with arr := { Arr.reset with products := e.arr.products } }
  | 2 => { e with str := e.str.map (fun z => { Slot.reset with faultVa := z.faultVa }), strRot := 31, strTagRot := 31 }
  | 3 => { e with gth := e.gth.map (fun z => { Slot.reset with faultVa := z.faultVa }), gthQ := [], gthRot := 7, gthTagRot := 7 }
  | 4 => { e with rowQ := [], stats := [], rowStallAt := none }
  | _ => e

/-- Every command of a relay engine is dropped (R437). -/
def State.resetRel (s : State) (d : CoreId) : State :=
  let s := (s.rel d).cmds.foldl (fun s c => s.relDrop d c) s
  (s.modRel d (fun e => { Rel.reset with next := e.next })).settleU d

/-- The captures, restores and drains of a split engine are dropped (R437). -/
def State.resetSplit (s : State) (n : Nat) : State :=
  let s := (allCtxs.filter (s.splitHolds n)).foldl (fun s x => ((s.abortTake x scReset).endCapture x).abortRestore x scReset) s
  let p : CoreId := Fin.ofNat 8 n
  let s := { s with nvme := s.nvme.filter (fun c => c.drains != some p) }
  match (s.area p).drain with | some d => (s.abortDrain p d.src scReset).endDrain p | none => s

/-! ## Out of service (R446, R447) -/

/-- Every port that is not OFF: NOTICE, and DISABLED with the steps of R338. -/
def State.oosPorts (s : State) : State :=
  (allPorts.filter (fun p => s.portState p != stOff && s.portState p != stDisabled)).foldl (fun s p =>
    let s := if s.timed p then s.losePort p stDisabled 10 else (s.modPort p Port.stopped).setPortState p stDisabled
    s.modPort p (fun x => { x with unseq := [.notice 3 s.ptb] })) s

/-- The package goes out of service. Replays in progress end, and their suspects are held. -/
def State.goOos (s : State) : State :=
  let s := (s.setFld Reg.GLB_STATUS 27 27 1).event .xOos []
  let s := (s.startPhoto phOos none).oosPorts
  let s := allCtxs.foldl (fun s x =>
    match (s.ctx x).state with
    | .running | .stopping => s.requestHold x .oos
    | .ready =>
      (s.ctxEvent .xHold x [.small 8 HoldCause.oos.code]).modCtx x (fun k => { k with state := .held, holdRaised := true, holdDue := none })
    | _ => s) s
  { s with hangs := s.hangs.filter (fun h => h.part.isNone), ctxs := s.ctxs.map (fun k => { k with replay := false }) }

/-- An escalation event: out of service when COUNT of them fall within WINDOW_S. -/
def State.escalate (s : State) : State :=
  let n := s.fld Reg.HNG_ESC 7 0
  let s := { s with esc := (s.ptb :: s.esc).take 255 }
  if n = 0 || s.oos then s else
  match s.esc[n - 1]? with
  | some t => if s.ptb.toNat - t.toNat ≤ s.fld Reg.HNG_ESC 31 16 * 1000000000 then s.goOos else s
  | none => s

/-! ## REFCLK_SYS lost (R31) -/

/-- Once every context has stopped, with its engine work complete, the photo is taken, and then the package resets. -/
def State.settleRef (s : State) : State :=
  let live := allCtxs.any (fun x => (s.ctx x).state = .running || ((s.ctx x).state = .stopping && !(s.ctx x).saving))
  if !s.refLost || s.resetDue || live then s
  else if s.photoRun.isSome then (s.startPhoto phRefclk none).warmReset
  else { s.startPhoto phRefclk none with resetDue := true }

/-- REFCLK_SYS is missing or out of tolerance: the generators hold their last frequency, and every context stops at its next cheap
point. -/
def execRefclkSysLoss (s : State) : Out :=
  if s.psc.state = .off || s.resetDue || s.refLost then .next s else
  let s : State := { s.event .pscRefclkLost [] with refLost := true }
  .next (allCtxs.foldl (fun s x => if (s.ctx x).state = .running then s.requestStop x .switch_ else s) s).settleRef

/-! ## Replay (R439 to R442) -/

def State.setHang (s : State) (p : CoreId) (h : Hang) : State :=
  { s with hangs := s.hangs.map (fun g => if g.part = some p then h else g) }

/-- Photo units of a core's engines (R449). -/
def hangUnit (h : Hang) : Nat :=
  0x100 + 8 * h.inst + (if h.kind = 0 then (seqIx h.seq).val else h.kind.val + 2)

/-- A suspect's replay frame is not valid because it was being written (R441). -/
def State.frameTorn (s : State) (x : CtxId) : Bool :=
  (s.ctx x).saving && (s.boundCores x).any (fun c => allSeqs.any (fun q => (s.seq c q).state != .idle))

/-- Freeze and purge of a suspect (R440): issue stops, and its work leaves every engine; its cores stay bound. Its newest frame
stays its replay frame, unless it was being written. -/
def State.freeze (s : State) (x : CtxId) : State :=
  let torn := s.frameTorn x
  let s := (s.stopIssue x).purge x false
  let s := s.modPart (s.ctx x).part (fun q => { q with switching := false })
  s.modCtx x (fun k => { k with
    replay := true, saving := torn
    state := if k.state = .stopping then .running else k.state
    stopFor := .none, suspendCmds := k.suspendCmds })

/-- A context leaves the cores while another suspect is replayed. -/
def State.setAside (s : State) (x : CtxId) : State :=
  ((s.endTurn (s.ctx x).part).modCtx x (fun k => { k with state := .ready })).unbind x

/-- A suspect begins its replay: from its frame, or from its entry points; in the turn it has, or in a new one. -/
def State.replayOn (s : State) (p : CoreId) (x : CtxId) : State :=
  let k := s.ctx x
  let framed := !k.fresh && k.frames.toList.any (·.valid)
  let s := if (s.part p).running = some x then s else
    match (s.part p).running with
    | some y => s.setAside y
    | none => s
  if (s.part p).running = some x then
    let s := (s.modCtx x (fun k => { k with state := .running, saving := false, savedAt := s.ptb, holdRaised := false })).modPart p
      (fun q => { q with switching := framed })
    (s.partCores p).foldl (fun s c => (s.modCore c (fun z => { z with
      seqs := if framed then Vector.replicate 3 Seq.reset else startSeqs (vget k.entry (s.corePos p c)) }))) s
  else (s.modCtx x (fun k => { k with fresh := !framed })).beginTurn p x

/-- X_GUILTY, with a second photo before the context reset (R441). -/
def State.guilty (s : State) (p : CoreId) (h : Hang) (x : CtxId) : State :=
  let s := s.ctxEvent .xGuilty x []
  let photo := s.fld Reg.HNG_CFG 31 31 = 1 && s.photoRun.isNone
  let s := if s.fld Reg.HNG_CFG 31 31 = 1 then s.startPhoto phWatchdog (some (hangUnit h)) else s
  if photo then s.setHang p { h with cur := some x, phase := .guilty }
  else ((s.setHang p { h with cur := none, phase := .replay }).ctxReset x .guilty).escalate

/-- The cores of a partition are kept by a context that no replay moves: ENDED with engine work left, HELD or FAULTED. -/
def State.coresHeld (s : State) (p : CoreId) : Bool :=
  match (s.part p).running with
  | some y => (s.ctx y).state = .ended || (s.ctx y).state = .held || (s.ctx y).state = .faulted
  | none => false

/-- The next suspect of a partition's hang; with none left, the partition runs again. -/
def State.nextSuspect (s : State) (p : CoreId) : Nat → State
  | 0 => s
  | fuel + 1 =>
    match s.hangOf p with
    | none => s.startTurn p
    | some h =>
      if h.cur.isSome || h.phase = .photo || h.phase = .reset then s else
      match h.suspects with
      | [] =>
        let s := { s with hangs := s.hangs.filter (fun g => g.part != some p) }
        s.startTurn p
      | x :: t =>
        let g := { h with suspects := t, phase := .replay }
        if s.fld Reg.HNG_CFG 30 30 = 0 then ((s.setHang p g).guilty p g x).nextSuspect p fuel
        else if (s.ctx x).saving then
          let s := (s.setHang p g).modCtx x (fun k => { k with
            saving := false, replay := false, frames := k.frames.map (fun f => { f with valid := false }) })
          (s.requestHold x .hang).nextSuspect p fuel
        else if s.coresHeld p then s
        else (s.setHang p { g with cur := some x, since := s.ptb }).replayOn p x

/-- Step 2 to 4 of R440. -/
def State.freezeAll (s : State) (p : CoreId) (h : Hang) : State :=
  let s := h.suspects.foldl State.freeze s
  s.setHang p { h with phase := .reset }

/-- The end of a replay that did not hang (R441): X_HANG_CLEARED, and one escalation event. -/
def State.cleared (s : State) (p : CoreId) (x : CtxId) : State :=
  let s := match s.hangOf p with
    | some h => s.setHang p { h with cur := none }
    | none => s
  ((s.modCtx x (fun k => { k with replay := false })).ctxEvent .xHangCleared x []).escalate.nextSuspect p 4

/-- A replayed context whose sequencers have all ended. -/
def State.settleReplay (s : State) (x : CtxId) : State :=
  let p := (s.ctx x).part
  match s.hangOf p with
  | some h => if h.cur = some x && h.phase = .replay && (s.ctx x).state = .ended then s.cleared p x else s
  | none => s

/-- The sequencer enters ENDED. -/
def execEndIssue (c : CoreId) (q : SeqId) (w : CT) (s : State) : Out :=
  match s.issueCT c q w false (fun s _ => retireSeq s c q (fun z => { z with state := .ended, restAt := s.ptb })) with
  | .next t =>
    .next (if s.canIssue c q then
      let t := settleOut t c
      (match (s.core c).ctx with | some x => t.settleReplay x | none => t).settleRef
    else t)
  | o => o

/-! ## Firing (R437) -/

/-- The items of X_WATCHDOG: kind, instance and suspects (widths: notes/assumptions/27). -/
def watchItems (k : Fin 9) (n : Nat) (xs : List CtxId) : List Item :=
  .small 4 k :: .small 16 n :: xs.map (fun (x : CtxId) => .small 6 x.val)

/-- The suspects of a die's engine are held, and the engine's reset is in progress. -/
def State.dieHang (s : State) (k : Fin 9) (n : Nat) (xs : List CtxId) : State :=
  let s : State := { s with hangs := s.hangs ++ [⟨k, n, .F, none, [], none, s.ptb, .reset⟩] }
  xs.foldl (fun s x => s.requestHold x .hang) s

/-- A watchdog reaches its limit; with no hang handled, HNG holds there for a pending commit of set 0 (R50): kind k, instance n (a core,
a die, a stack, or 64 times a function plus a queue) and for a sequencer which one. -/
def execWatchdogFire (k : Fin 9) (n : Nat) (q : SeqId) (t : W64) (s : State) : Out :=
  if (s.setPending 0 && s.hangs.isEmpty) || s.fld (Reg.HNG_WD k) 31 31 = 0 || !s.holding k n q || s.psc.state = .off || (k.val ≤ 6 && 8 ≤ n)
      || !s.overdue k n q t then .next s else
  let s := s.atTime t
  let xs := s.suspects k n
  let s := s.event .xWatchdog (watchItems k n xs)
  let c : CoreId := Fin.ofNat 8 n
  match k.val with
  | 7 =>
    let fq := hifQueue n
    .next (match s.hungCmd n with
      | some r => s.modQueue fq.1 fq.2 (fun x => { x with running := x.running.map (fun y =>
          if y.idx = r.idx then { y with status := some stHostError, owed := 0 } else y) })
      | none => s)
  | 8 => .next s.beginWarm
  | 5 =>
    .next (((s.resetRel c).dieHang k n xs).escalate)
  | 6 =>
    .next (((s.resetSplit n).dieHang k n xs).escalate)
  | _ =>
    match xs with
    | [] => .next s
    | x :: _ =>
      let p := (s.ctx x).part
      match s.hangOf p with
      | some h =>
        match h.phase, h.cur with
        | .replay, some y => .next ((s.guilty p h y).nextSuspect p 4)
        | _, _ => .next s
      | none =>
        let h : Hang := ⟨k, n, q, some p, xs, none, s.ptb, .photo⟩
        let photo := s.fld Reg.HNG_CFG 31 31 = 1 && s.photoRun.isNone
        let s := if s.fld Reg.HNG_CFG 31 31 = 1 then s.startPhoto phWatchdog (some (hangUnit h)) else s
        let s := { s with hangs := s.hangs ++ [h] }
        .next (if photo then s else s.freezeAll p h)

/-- The engine of a hang has reached its reset state. -/
def execEngineResetComplete (k : Fin 9) (n : Nat) (s : State) : Out :=
  match s.hangs.find? (fun h => h.kind = k && h.inst = n && h.phase = .reset) with
  | none => .next s
  | some h =>
    match h.part with
    | none => .next { s with hangs := s.hangs.filter (· != h) }
    | some p =>
      let s := s.modCore (Fin.ofNat 8 n) (resetEngine k h.seq)
      .next ((s.setHang p { h with phase := .replay }).nextSuspect p 4)

/-- It has not within 100 µs. -/
def execEngineResetTimeout (k : Fin 9) (n : Nat) (s : State) : Out :=
  if s.hangs.any (fun h => h.kind = k && h.inst = n && h.phase = .reset) then .next s.beginWarm else .next s

/-- CKPT_MS of a RUNNING context's run time without a save have passed: a checkpoint stop (R439). -/
def execReplayCheckpoint (x : CtxId) (t : W64) (s : State) : Out :=
  let ms := s.fld Reg.HNG_CFG 7 0
  let k := s.ctx x
  if ms = 0 || k.state != .running || k.replay || (s.part k.part).switching || t.toNat < k.savedAt.toNat + ms * 1000000 then .next s
  else .next ((s.atTime t).requestStop x .checkpoint)

/-- REPLAY_MS have passed: the suspect is stopped at its next cheap point. One that is held or faulted stays so, and what a
partition that had not become free delayed goes on (notes/assumptions/26). -/
def execReplayTimeout (p : CoreId) (t : W64) (s : State) : Out :=
  match s.hangOf p with
  | none => .next s
  | some h =>
    if h.phase != .replay then .next s else
    match h.cur with
    | none => .next (s.nextSuspect p 4)
    | some x =>
      if t.toNat < h.since.toNat + max 1 (s.fld Reg.HNG_CFG 25 16) * 1000000 then .next s else
      let s := s.atTime t
      match (s.ctx x).state with
      | .running => .next (s.requestStop x .cleared)
      | .held | .faulted => .next (s.cleared p x)
      | _ => .next s

/-! ## The photo's end -/

/-- What waited for a photo goes on: a warm reset, the handling of a hang, and a guilty verdict. -/
def State.afterPhoto (s : State) : State :=
  if s.resetDue then s.warmReset else
  allCores.foldl (fun s p =>
    match s.hangOf p with
    | some h =>
      (match h.phase, h.cur with
      | .photo, _ => s.freezeAll p h
      | .guilty, some x => (((s.setHang p { h with cur := none, phase := .replay }).ctxReset x .guilty).escalate).nextSuspect p 4
      | _, _ => s)
    | none => s) s

/-- The last unit of the visit has sent its state: per unit, the PTB of its latch and its data. -/
def execPhotoComplete (recs : List (W64 × List Byte)) (t : W64) (s : State) : Out :=
  match s.photoRun with
  | none => .next s
  | some p => .next ((s.atTime t).finishPhoto p recs).afterPhoto

/-- HNG_PHOTO_CTL.TAKE; one during the handling of a hang is counted and ignored (R442). -/
def State.takePhoto (s : State) : State :=
  if s.hangs.isEmpty then s.startPhoto phHost none else s.bumpFld Reg.HNG_PHOTO_STATUS 31 24 1

def execHngPhotoTake (s : State) : Out := .next (s.pfWrite 0 Reg.HNG_PHOTO_CTL 0x80000000 State.takePhoto)

/-- A keyed write of HNG_RESET (R445). -/
def State.writeReset (s : State) (v : W32) : State :=
  if fieldOf v 31 16 = 0xA5C3 && fieldOf v 0 0 = 1 then s.beginWarm else s

def execHngResetWarm (v : W32) (s : State) : Out := .next (s.pfWrite 0 Reg.HNG_RESET v (·.writeReset v))

end Sys2Proof.Machine
end

