-- ==== Sys2Proof/Machine/Contexts.lean ====
section
/-! DEFINITION. The context commands (R400 to R402), the end of a save (R409), functions that are reset (R375), and the clearing of
out of service (R448). -/

namespace Sys2Proof.Machine
open Sys2Proof

/-! ## The end of a save (R400, R403, R409) -/

/-- The frames of a context's save are written on every core. A context that was stopped while it was being restored keeps the
frames it has. -/
def State.saved (s : State) (x : CtxId) : State :=
  if s.frameTorn x then s.writeFrames x
  else (s.modCtx x (fun k => { k with saving := false, savedAt := s.ptb })).modPart (s.ctx x).part (fun q => { q with switching := false })

/-- A saved context leaves its cores: SUSPENDED if that was asked for, else READY. -/
def State.leaveSaved (s : State) (x : CtxId) (st : CtxState) : State :=
  if (s.ctx x).suspendCmds.isEmpty then s.leaveCores x st else (s.finishSuspends x).leaveCores x .suspended

def execSaveComplete (x : CtxId) (t : W64) (s : State) : Out :=
  let k := s.ctx x
  if !k.saving || k.state != .stopping then .next s else
  let s := (s.atTime t).saved x
  match k.stopFor with
  | .switch_ => .next (s.leaveSaved x .ready).settleRef
  | .suspend => .next (s.leaveSaved x .suspended)
  | .checkpoint => .next (if k.suspendCmds.isEmpty then s.resumeInPlace x else s.leaveSaved x .suspended)
  | .cleared => .next ((s.leaveSaved x .ready).cleared k.part x)
  | .capture => .next (s.modCtx x (fun k => { k with take := k.take.map (fun a => { a with phase := .saved }) }))
  | .hold | .none => .next s

/-! ## Context commands (R401, R402) -/

/-- CTX of a context command. -/
def cmdCtx (r : RunCmd) : CtxId := Fin.ofNat 64 (wbits r.words 4 5 0)

/-- A context command of a function that may name its context. -/
def State.ctxCmd (s : State) (f : FnId) (q : Fin 64) (opc : Nat) (named : List (Nat × Nat × Nat))
    (body : State → RunCmd → CtxId → State × Option (BitVec 8)) : Out :=
  s.startCmd f q opc ((4, 5, 0) :: named) (fun s r =>
    if !s.mayCtx f (cmdCtx r) then (s, some stDenied) else body s r (cmdCtx r))

def execCtxCreate (f : FnId) (q : Fin 64) (s : State) : Out :=
  s.ctxCmd f q 0x10 [(1, 63, 0), (4, 10, 8)] (fun s r x =>
    let w := wbits r.words 4 10 8
    let p : CoreId := match partOfFn f with | some p => p | none => Fin.ofNat 8 w
    if f.val != 0 && w != 0 then (s, some stBadField)
    else if s.fld (Reg.SCH_PCFG p) 31 31 = 0 || !s.inRange p x then (s, some stDenied)
    else if (s.ctx x).state != .free then (s, some stBadField)
    else
      let s : State := { s with noRoutes := s.noRoutes.filter (fun n => n.2 != some x) }
      (s.modCtx x (fun k => { Ctx.reset with state := .created, part := p, seed := word r.words 1, splitNo := k.splitNo }), some stOk))

/-- A staging session is open (R503). -/
def State.staging (s : State) : Bool := s.fld Reg.CRN_STG_STATUS 31 29 = 1

/-- The context descriptor's bytes: none when they cannot be read, or lie in a HOST or REMOTE window (notes/assumptions/28). -/
def State.descBytes (s : State) (p : CoreId) (va n : Nat) : State × Option (List Byte) :=
  match s.findWin p va with
  | none => (s, none)
  | some i =>
    if s.memWinKind i != 1 && s.memWinKind i != 2 then (s, none) else
    let t := s.translate .host p va false
    match t.2 with
    | .at_ (.hbm pa) c =>
      let b := t.1.lineRead (pa / 256 * 256) c 1
      if b.2.1 then (b.2.2.ueEvent (pa / 256 * 256), none) else (b.2.2, some (b.1.take n))
    | _ => (t.1, none)

/-- The entry points of the i-th core's record. -/
def entryOf (ws : List W64) (i : Nat) : Off × Off × Off :=
  (BitVec.ofNat 30 (wbits ws (8 + 2 * i) 29 0), BitVec.ofNat 30 (wbits ws (8 + 2 * i) 61 32), BitVec.ofNat 30 (wbits ws (9 + 2 * i) 29 0))

/-- The checks of R402 on a descriptor of n cores. -/
def descOk (ws : List W64) (n : Nat) : Bool :=
  wbits ws 0 63 57 = 0 && wbits ws 0 20 0 = 0 && wbits ws 1 63 16 = 0 && 5 ≤ wbits ws 1 15 0
    && [2, 3, 4, 5, 6, 7].all (fun i => word ws i = 0)
    && (List.range n).all (fun i =>
      let e := entryOf ws i
      wbits ws (8 + 2 * i) 31 30 = 0 && wbits ws (8 + 2 * i) 63 62 = 0 && wbits ws (9 + 2 * i) 63 30 = 0
        && e.1.toNat % 8 = 0 && e.2.1.toNat % 8 = 0 && e.2.2.toNat % 8 = 0)

def execCtxStart (f : FnId) (q : Fin 64) (s : State) : Out :=
  s.ctxCmd f q 0x11 [(1, 56, 0), (4, 8, 8)] (fun s r x =>
    let k := s.ctx x
    if s.oos || s.staging then (s, some stDenied)
    else if !(k.state = .created || k.state = .ended) || wbits r.words 1 7 0 != 0 || k.restore.isSome then (s, some stBadField)
    else
      let n := (s.partCores k.part).length
      let b := s.descBytes k.part (wbits r.words 1 56 0) (64 + 16 * n)
      match b.2 with
      | none => (b.1, some stFault)
      | some bs =>
        let ws : List W64 := (List.range (8 + 2 * n)).map (fun i => BitVec.ofNat 64 (leNat ((bs.drop (8 * i)).take 8)))
        if !descOk ws n then (b.1, some stBadField) else
        let s := b.1.modCtx x (fun k => { k with
          state := .ready, saveVa := (word ws 0).setWidth 57, stride := (word ws 1).setWidth 16
          saveStore := wbits r.words 4 8 8 = 1, entry := Vector.ofFn (fun (i : Fin 8) => entryOf ws i)
          fresh := true, frames := Vector.replicate 8 SavedCore.reset, holdRaised := false })
        (s.startTurn k.part, some stOk))

def execCtxSuspend (f : FnId) (q : Fin 64) (s : State) : Out :=
  s.ctxCmd f q 0x12 [] (fun s r x =>
    let k := s.ctx x
    let wait (s : State) : State := s.modCtx x (fun k => { k with suspendCmds := k.suspendCmds ++ [(f, q.val, r.idx)] })
    let held := !(s.boundCores x).isEmpty
    match k.state with
    | .ready =>
      if k.replay then (wait s, none)
      else (s.modCtx x (fun k => { k with state := .suspended }), some stOk)
    | .running => (if k.replay then wait s else (wait s).requestStop x .suspend, none)
    | .stopping => (wait s, none)
    | .held => if held then ((wait s).saveHeld x, none) else (s.modCtx x (fun k => { k with state := .suspended }), some stOk)
    | _ => (s, some stBadField))

def execCtxResume (f : FnId) (q : Fin 64) (s : State) : Out :=
  s.ctxCmd f q 0x13 [] (fun s _ x =>
    if s.oos || s.staging then (s, some stDenied)
    else if (s.ctx x).state != .suspended then (s, some stBadField)
    else ((s.modCtx x (fun k => { k with state := .ready, holdRaised := false, holdDue := none })).startTurn (s.ctx x).part, some stOk))

def execCtxReset (f : FnId) (q : Fin 64) (s : State) : Out :=
  s.ctxCmd f q 0x14 [] (fun s _ x =>
    if (s.ctx x).state = .free then (s, some stBadField)
    else ((s.ctxReset x .host).nextSuspect (s.ctx x).part 4, some stOk))

/-- The registers of a context's splits, cleared with its fields. -/
def State.clearSplits (s : State) (x : CtxId) : State :=
  [Reg.SPL_CTX_STATE x, Reg.SPL_CTX_STEP x, Reg.SPL_CTX_TAU x, Reg.SPL_CTX_COST x, Reg.SPL_CTX_MTBF x, Reg.SPL_CTX_FAIL x].foldl
    (fun s o => s.setAct o 0) s

def execCtxDestroy (f : FnId) (q : Fin 64) (s : State) : Out :=
  s.ctxCmd f q 0x15 [] (fun s _ x =>
    match (s.ctx x).state with
    | .created | .ended | .suspended =>
      let p := (s.ctx x).part
      ((((s.ctxReset x .host).modCtx x destroyCtx).clearSplits x).nextSuspect p 4, some stOk)
    | _ => (s, some stBadField))

/-- CTX_ENERGY: energy in µJ, then run time in ns. `hostErr`: the host refuses the write (R380). -/
def execCtxEnergy (f : FnId) (q : Fin 64) (hostErr : Bool) (s : State) : Out :=
  s.ctxCmd f q 0x16 [(2, 63, 0)] (fun s r x =>
    let a := (word r.words 2).toNat
    if a % 16 != 0 then (s, some stBadField)
    else if hostErr then (s, some stHostError)
    else (s.hostWords a [(s.ctx x).energy.toNat, (s.ctx x).run.toNat], some stOk))

/-! ## Function resets (R375) -/

/-- Every context of a partition is reset (R375). -/
def State.resetPart (s : State) (p : CoreId) : State :=
  (allCtxs.filter (fun x => (s.ctx x).state != .free && (s.ctx x).part = p)).foldl (fun s x =>
    (s.ctxReset x .flr).nextSuspect p 4) s

/-- Steps 1 to 4 of R375 for a VF. -/
def State.resetVf (s : State) (v : FnId) : State :=
  match partOfFn v with
  | some p => (s.resetQueues v).resetPart p
  | none => s

/-- The VFs that exist. -/
def State.vfs (s : State) : List FnId := (allFns.drop 1).filter s.fnExists

/-- An FLR of a VF, or of the PF, which resets every VF and the PF's own queues. -/
def State.flr (s : State) (f : FnId) : State :=
  let s := if f.val = 0 then (s.vfs.foldl State.resetVf s).resetQueues 0 else s.resetVf f
  s.hifEvent .hifFlr f [.small 4 f]

def execFlr (f : FnId) (s : State) : Out := .next (if s.fnExists f && s.psc.state != .off then s.flr f else s)

/-- The host clears VF Enable, and sets it again with NumVFs n; 0 leaves it clear (notes/assumptions/29). In warm-up mode VF
Enable is ignored (R498). -/
def execVfEnableClear (n : Fin 9) (s : State) : Out :=
  if s.psc.state = .off || s.fld Reg.GLB_STATUS 26 26 = 1 then .next s
  else .next ((s.vfs.foldl State.resetVf s).setFld Reg.HIF_STATUS 21 18 n)

/-! ## Clearing out of service (R448) -/

/-- The PF writes 1 to GLB_STATUS.OOS. -/
def State.clearOos (s : State) : State :=
  if !s.oos then s
  else if allCtxs.all (fun x => match (s.ctx x).state with | .free | .created | .suspended => true | _ => false) then
    { s.setFld Reg.GLB_STATUS 27 27 0 with esc := [] }
  else s.badAccess 0 Reg.GLB_STATUS

def execGlbOosClear (s : State) : Out := .next (s.pfWrite 0 Reg.GLB_STATUS 0x08000000 State.clearOos)

end Sys2Proof.Machine
end

