-- ==== Sys2Proof/Machine/Power.lean ====
section
/-! DEFINITION. Power (chapter 16): the input (R454), the operating points (R455 to R458), brim and ageing (R459 to R461), droop
(R462), temperature (R463 to R466), the cap and pacer mode (R467 to R472), and the power states (R473 to R484). -/

namespace Sys2Proof.Machine
open Sys2Proof

/-! ## The input (R454) -/

/-- A staging session ends REJECTED with a cause (R503). -/
def State.rejectStage (s : State) (cause : Nat) : State :=
  ((s.setFld Reg.CRN_STG_STATUS 31 29 4).setFld Reg.CRN_STG_STATUS 23 16 cause).event .crnStageRejected [.small 8 cause]

/-- A session is open (R503). -/
def State.stageOpen (s : State) : Bool := s.fld Reg.CRN_STG_STATUS 31 29 = 1

/-- Whether the input is degraded follows from its voltage and from REDUN_LOST. Each change raises PSC_INPUT_DEGRADED; a
degraded input ends an open session (R503). -/
def State.settleInput (s : State) : State :=
  let deg := s.psc.degV || s.fld Reg.PSC_INPUT 31 31 = 1
  if (s.fld Reg.PSC_STATUS 27 27 = 1) = deg then s else
  let s := (s.setFld Reg.PSC_STATUS 27 27 (if deg then 1 else 0)).event .pscInputDegraded [.small 1 (if deg then 1 else 0)]
  if deg && s.stageOpen then s.rejectStage 2 else s

/-- The input voltage as measured, in units of 10 mV; 44.0 V or more ends the low-voltage condition. -/
def execInputSample (vin : BitVec 16) (s : State) : Out :=
  if s.psc.state = .off then .next s else
  let low := decide (vin.toNat < 4400)
  .next (((s.setFld Reg.PSC_INPUT 15 0 vin.toNat).modPsc (fun p => { p with lowV := low, degV := p.degV && low })).settleInput)

/-- The voltage has been below 44.0 V for 10 ms. -/
def execInputDegradeTimeout (s : State) : Out :=
  if s.psc.state = .off || !s.psc.lowV then .next s
  else .next ((s.modPsc (fun p => { p with degV := true })).settleInput)

/-- The voltage stays below 38.0 V for 100 µs: the part enters Off. -/
def execInputShutdown (s : State) : Out :=
  if s.psc.state = .off || 3800 ≤ s.fld Reg.PSC_INPUT 15 0 then .next s else .next (s.powerOff true)

/-- The board writes PSC_INPUT. -/
def State.writeInput (s : State) (v : W32) : State := (s.setFld Reg.PSC_INPUT 31 31 (fieldOf v 31 31)).settleInput
def execPscInputWrite (v : W32) (s : State) : Out := .next (s.pfWrite 0 Reg.PSC_INPUT v (·.writeInput v))

/-- The effective cap in mW (R454, R467). -/
def State.effCap (s : State) : Nat :=
  let c := min (s.act Reg.PSC_CAP).toNat 7200000
  if s.fld Reg.PSC_STATUS 27 27 = 1 then min c 5400000 else c

/-! ## Temperature (R463 to R465). Sensors are numbered in the order of the table; readings are in 0.25 °C. -/

def reading (temps : List (BitVec 16)) (i : Nat) : Int := ((temps[i]?).getD 0).toInt

/-- Sensors of the stack of a core: compute, store and feed dies. -/
def stackSensors (c : CoreId) : List Nat :=
  (List.range 6).map (6 * c.val + ·) ++ (List.range 4).map (48 + 4 * c.val + ·) ++ (List.range 2).map (80 + 2 * c.val + ·)

/-- Sensors of dies outside the core stacks, and those of a memory base die. -/
def otherSensors : List Nat := (List.range 96).map (96 + ·)
def baseSensors (m : Nat) : List Nat := [112 + 2 * m, 113 + 2 * m]

def anyAt (temps : List (BitVec 16)) (ix : List Nat) (t : Int) : Bool := ix.any (fun i => decide (t ≤ reading temps i))

/-- fmax of a core in MHz (R461). -/
def State.fmax (s : State) (c : CoreId) : Nat := 600 + 25 * s.fld (Reg.PSC_CORE c) 31 26

/-- The thermal limit of a core: its fmax, but for what heat has taken from it (R464). -/
def State.thermal (s : State) (c : CoreId) : Nat := min (vget s.psc.thermal c) (s.fmax c)

/-- One control period of a core's thermal limit. A fall lasts until the limit rises again; 1,550 MHz stored is fmax, whatever
that is. -/
def State.heatCore (s : State) (temps : List (BitVec 16)) (c : CoreId) : State :=
  let ix := stackSensors c ++ otherSensors
  if anyAt temps ix 380 then
    s.modPsc (fun p => { p with thermal := vset p.thermal c (max 600 (s.thermal c - 25)), falling := vset p.falling c true })
  else if !anyAt temps ix 372 then
    s.modPsc (fun p => { p with thermal := vset p.thermal c (if s.fmax c ≤ s.thermal c + 25 then 1550 else s.thermal c + 25), falling := vset p.falling c false })
  else s

/-- The hottest sensor, the lowest of equals. -/
def hottest (temps : List (BitVec 16)) : Nat :=
  (List.range 192).foldl (fun b i => if reading temps b < reading temps i then i else b) 0

/-- R464: the limits, PSC_THROTTLE once when any of them starts to fall, and the memory base dies whose controllers admit half
of their requests. -/
def State.heat (s : State) (temps : List (BitVec 16)) : State :=
  let s1 := allCores.foldl (fun s c => s.heatCore temps c) s
  let s1 := s1.setAct Reg.PSC_TEMP (BitVec.ofNat 32 (hottest temps * 65536 + ((temps[hottest temps]?).getD 0).toNat))
  let s1 := (List.range 16).foldl (fun s m =>
    if anyAt temps (baseSensors m) 380 then s.modPsc (fun p => { p with memHalf := p.memHalf ||| BitVec.ofNat 16 (2 ^ m) })
    else if !anyAt temps (baseSensors m) 372 then s.modPsc (fun p => { p with memHalf := p.memHalf &&& ~~~(BitVec.ofNat 16 (2 ^ m)) })
    else s) s1
  if allCores.any (fun c => vget s1.psc.falling c && !vget s.psc.falling c) then s1.event .pscThrottle [] else s1

/-- R465: 105 °C sets cap_freq to 600 MHz and D to 48, until every sensor reads below 100 °C. -/
def State.overheat (s : State) (temps : List (BitVec 16)) : State :=
  let all := List.range 192
  if s.fld Reg.PSC_STATUS 24 24 = 1 then
    if anyAt temps all 400 then s else s.setFld Reg.PSC_STATUS 24 24 0
  else if anyAt temps all 420 then
    (((s.setFld Reg.PSC_STATUS 24 24 1).setFld Reg.PSC_STATUS 21 16 48).modPsc (fun p => { p with capFreq := 600 })).event .pscOvertemp []
  else s

/-! ## The cap (R467 to R470) -/

/-- D (R458). -/
def State.duty (s : State) : Nat := s.fld Reg.PSC_STATUS 21 16

/-- The mean of a period against the effective cap: cap_freq and D (R468). Not while R465 holds, nor while both management dies
claim the crown (R486, R488). -/
def State.capStep (s : State) (mean : Nat) : State :=
  let cap := s.effCap
  let low := decide (100 * mean < 97 * cap)
  if s.fld Reg.PSC_STATUS 24 24 = 1 || s.twoCrowns then s
  else if cap < mean then
    if 600 < s.psc.capFreq then s.modPsc (fun p => { p with capFreq := max 600 (p.capFreq - 100) })
    else if s.duty < 48 then s.setFld Reg.PSC_STATUS 21 16 (min 48 (s.duty + 4)) else s
  else if low && 0 < s.duty then s.setFld Reg.PSC_STATUS 21 16 (s.duty - 4)
  else if low && s.psc.capFreq < 1550 then s.modPsc (fun p => { p with capFreq := min 1550 (p.capFreq + 25) })
  else s

/-- Periods in CAP_WINDOW_MS. -/
def State.capWindow (s : State) : Nat := 10 * max 1 (s.fld Reg.PSC_POLICY 23 16)

/-- Mean of the periods of the window. -/
def windowMean (ms : List (Nat × Bool)) : Nat := if ms.isEmpty then 0 else (ms.map (·.1)).sum / ms.length

/-- The window takes in the period's mean: PSC_POWER, and R469. -/
def State.window (s : State) (mean : Nat) : State :=
  let n := s.capWindow
  let ms := ((mean, decide (s.duty = 48)) :: s.psc.means).take n
  let w := windowMean ms
  let s := (s.modPsc (fun p => { p with means := ms })).setAct Reg.PSC_POWER (BitVec.ofNat 32 w)
  let unatt := s.fld Reg.PSC_STATUS 25 25 = 1
  if ms.length != n then s
  else if !unatt && ms.all (·.2) && s.effCap < w then (s.setFld Reg.PSC_STATUS 25 25 1).event .pscCapUnattainable [.word w]
  else if unatt && w ≤ s.effCap then s.setFld Reg.PSC_STATUS 25 25 0
  else s

/-- Currents in mA against their limits: the input first, then the eight power dies (R470). -/
def State.elecStep (s : State) (amps : List Nat) : State :=
  let lim (i : Nat) : Nat := if i = 0 then 190000 else Config.railLimit (Fin.ofNat 8 (i - 1))
  let ix := List.range 9
  let at_ (i : Nat) : Nat := (amps[i]?).getD 0
  if s.twoCrowns then s
  else if ix.any (fun i => decide (lim i < at_ i)) then s.modPsc (fun p => { p with elecFreq := max 600 (p.elecFreq - 100) })
  else if ix.all (fun i => decide (100 * at_ i < 95 * lim i)) then s.modPsc (fun p => { p with elecFreq := min 1550 (p.elecFreq + 25) })
  else s

/-! ## Operating points (R456, R471) -/

def State.pacer (s : State) : Bool := s.fld Reg.PSC_PACER 31 31 = 1

/-- boost_ok (R456). -/
def State.boostOk (s : State) (temps : List (BitVec 16)) (mean : Nat) (cs : List CoreId) : Bool :=
  cs.all (fun c => !anyAt temps (stackSensors c) 361 && decide (1550 ≤ s.fmax c)) && decide (mean + 300000 ≤ s.effCap)

/-- own of a partition's cores (R456, R471). -/
def State.ownMhz (s : State) (temps : List (BitVec 16)) (mean : Nat) (cs : List CoreId) : Nat :=
  if s.pacer then s.fld Reg.PSC_PACER 10 0
  else if s.fld Reg.PSC_POLICY 30 30 = 1 && s.boostOk temps mean cs then 1550 else 1400

/-- lim of a partition's cores. -/
def State.limMhz (s : State) (cs : List CoreId) : Nat :=
  (cs.map s.thermal).foldl min (min s.psc.capFreq s.psc.elecFreq)

/-- The follow request in force on a partition (R370). -/
def State.followOf (s : State) (p : CoreId) : Option Nat :=
  if s.fld Reg.PSC_POLICY 31 31 = 1 then (s.part p).running.bind (fun x => (s.ctx x).follow) else none

/-- Valid partitions. -/
def State.validParts (s : State) : List CoreId := allCores.filter (fun p => s.fld (Reg.SCH_PCFG p) 31 31 = 1)

/-- f of every valid partition. -/
def State.choose (s : State) (temps : List (BitVec 16)) (mean : Nat) : State :=
  s.validParts.foldl (fun s p =>
    let cs := s.partCores p
    let own := min (s.ownMhz temps mean cs) (s.limMhz cs)
    let f := match s.followOf p with | some m => min own m | none => own
    cs.foldl (fun s c => (s.modCore c (fun k => { k with own := own })).modPsc (fun q => { q with target := vset q.target c f })) s) s

/-- A pacer partition is held below its pacer frequency by heat, the cap or a current limit (R471). -/
def State.pacerHeld (s : State) : Bool :=
  let f := s.fld Reg.PSC_PACER 10 0
  s.pacer && s.validParts.any (fun p => decide (min s.psc.capFreq s.psc.elecFreq < f)
    || (s.partCores p).any (fun c => decide (vget s.psc.thermal c < min f (s.fmax c))))

/-- CAP_LIMITED and PACER_BROKEN (R468, R471). -/
def State.limitFlags (s : State) (temps : List (BitVec 16)) (mean : Nat) : State :=
  let lim := decide (0 < s.duty) || s.validParts.any (fun p => decide (s.psc.capFreq < s.ownMhz temps mean (s.partCores p)))
  let s := s.setFld Reg.PSC_STATUS 26 26 (if lim then 1 else 0)
  let was := s.fld Reg.PSC_STATUS 23 23 = 1
  let held := s.pacerHeld
  let s := s.setFld Reg.PSC_STATUS 23 23 (if held then 1 else 0)
  if held && !was then s.event .pscPacerBroken [] else s

/-- OFFSET of a core in mV. -/
def State.brim (s : State) (c : CoreId) : Int := (BitVec.ofNat 8 (s.fld (Reg.PSC_CORE c) 15 8)).toInt

/-- The offset of every core moves one 5 mV step towards its plan (R460). -/
def State.brimStep (s : State) : State :=
  allCores.foldl (fun s c =>
    let o := s.brim c
    let g := vget s.psc.planTo c
    let o' := if o < g then min g (o + 5) else max g (o - 5)
    s.setFld (Reg.PSC_CORE c) 15 8 (BitVec.ofInt 8 o').toNat) s

/-- Cores with more than 1,000 droop trips in the period are 5 mV short at their next re-plan (R462). -/
def State.droopPeriod (s : State) : State :=
  s.modPsc (fun p => { p with
    short := allCores.foldl (fun m c => if 1000 < vget p.trips c then m ||| BitVec.ofNat 8 (2 ^ c.val) else m) p.short
    trips := Vector.replicate 8 0 })

/-- ns in an hour. -/
def hourNs : Nat := 3600000000000

/-- The smallest of a core's 64 canaries. -/
def leastCanary (canaries : List (BitVec 16)) (c : CoreId) : BitVec 16 :=
  let l := (canaries.drop (64 * c.val)).take 64
  l.foldl (fun m x => if x.toNat < m.toNat then x else m) (l.headD 0)

/-- The monitors are read (R459): of a core that is not Idle, the reading at its point joins those of the last hour, where a later one
that is no larger replaces it. -/
def State.readMonitors (s : State) (canaries rings : List (BitVec 16)) : State :=
  let old := s.psc.canary.filter (fun r => decide ((s.ptb - r.at_).toNat ≤ hourNs))
  let now := (allCores.filter (fun c => !s.coreIdle c)).map (fun c =>
    (⟨c, s.ptb, ((s.core c).aclk - 600) / 25, leastCanary canaries c, s.brim c⟩ : Canary))
  let kept := old.filter (fun r => !now.any (fun n => n.core = r.core && n.point = r.point && decide (n.ps.toNat ≤ r.ps.toNat)))
  s.modPsc (fun p => { p with canary := kept ++ now, rings := rings })

/-- A control period ends (R456): readings of the 192 sensors, the mean input power in mW, the mean currents in mA, and the
monitors. The PSC holds there for a pending commit of set 1 (R472). -/
def execControlPeriod (temps : List (BitVec 16)) (mean : Nat) (amps : List Nat) (canaries rings : List (BitVec 16)) (t : W64)
    (s : State) : Out :=
  if s.psc.state = .off || (s.setPending 1 && s.psc.boundary) then .next s else
  let s := (s.atTime t).readMonitors canaries rings
  let s := (((s.window mean).heat temps).overheat temps)
  let s := (s.capStep mean).elecStep amps
  let s := ((s.choose temps mean).limitFlags temps mean).brimStep.droopPeriod
  .next (s.modPsc (fun p => { p with boundary := s.setPending 1 })).settleRef

/-- The voltage is ready: the core's ACLK moves one step towards the frequency chosen for it (R457); without REFCLK_SYS it keeps its
frequency (R31). -/
def execFrequencyStep (c : CoreId) (s : State) : Out :=
  let f := (s.core c).aclk
  let g := vget s.psc.target c
  if s.psc.state = .off || s.refLost then .next s else
  let f' := if f < g then f + 25 else if g < f then f - 25 else f
  .next ((s.modCore c (fun k => { k with aclk := f' })).setFld (Reg.PSC_CORE c) 25 20 ((f' - 600) / 25))

/-! ## Droop (R462) -/

def execDroopTrip (c : CoreId) (s : State) : Out :=
  if s.psc.state = .off then .next s else
  .next ((s.bump (Reg.PSC_DROOP c) 1).modPsc (fun p => { p with
    trips := vmod p.trips c (· + 1), stretched := p.stretched ||| BitVec.ofNat 8 (2 ^ c.val) }))

/-- No detector has been tripped for 64 cycles, and the normal period has been restored in its four steps. -/
def execDroopRecover (c : CoreId) (s : State) : Out :=
  .next (s.modPsc (fun p => { p with stretched := p.stretched &&& ~~~(BitVec.ofNat 8 (2 ^ c.val)) }))

/-! ## Brim (R460, R461) -/

/-- The smallest multiple of 5 mV, from −15 up, at which the smallest reading of the last hour at each point used would meet the
target; the search ends where the shortfall takes all 38 steps from fmax (R460, R461). -/
def State.brimNeed (s : State) (c : CoreId) : Int :=
  let rs := s.psc.canary.filter (fun r => r.core = c && decide ((s.ptb - r.at_).toNat ≤ hourNs))
  let top : Int := (Config.ageMillivolt c).toNat + 190
  let tries := ((List.range 94).map (fun (i : Nat) => 5 * (i : Int) - 15)).filter (fun o => decide (o ≤ top))
  (tries.find? (fun o => rs.all (fun r => Config.canaryMeets c r.point r.ps r.mv o))).getD top

/-- A re-plan of a core from the canary readings of the last hour (R460, R461). -/
def execBrimReplan (c : CoreId) (t : W64) (s : State) : Out :=
  let s := s.atTime t
  let age : Int := (Config.ageMillivolt c).toNat
  let since := (s.ptb - vget s.psc.planAt c).toNat
  if s.psc.state = .off || since < 24 * hourNs || (!s.coreIdle c && since < 25 * hourNs) then .next s else
  let need := s.brimNeed c + (if s.psc.short.getLsbD c then 5 else 0)
  let off := max (-15) ((need + 4) / 5 * 5)
  let plan := min off age
  let steps := ((off - plan + 4) / 5).toNat
  let old := s.fld (Reg.PSC_CORE c) 31 26
  let fm := 38 - steps
  let s := s.modPsc (fun p => { p with
    planAt := vset p.planAt c s.ptb, planTo := vset p.planTo c plan, short := p.short &&& ~~~(BitVec.ofNat 8 (2 ^ c.val)) })
  let s := s.setFld (Reg.PSC_CORE c) 31 26 fm
  let low := decide (age - plan < 10)
  let s := if low && !s.psc.low.getLsbD c then s.raiseRec .pscBrimLow false ⟨none, some c, none⟩ 0 [] else s
  let s := s.modPsc (fun p => { p with
    low := if low then p.low ||| BitVec.ofNat 8 (2 ^ c.val) else p.low &&& ~~~(BitVec.ofNat 8 (2 ^ c.val)) })
  .next (if fm < old then s.raiseRec .pscBrimExhausted false ⟨none, some c, none⟩ 0 [.small 6 fm] else s)

/-- A sensor reaches 115 °C (R466): no NOTICE and no photo. -/
def execThermalTrip (s : State) : Out :=
  if s.psc.state = .off then .next s else
  let s := (s.setFld Reg.PSC_STATUS 28 28 1).powerOff true
  .next { s with pins := { s.pins with thermtrip := true } }

/-! ## Core Idle (R474) -/

/-- PSC_STATUS.STATE while the part is awake: Idle when every usable core is (R473), from when DWELL_MS runs (R475). -/
def State.showIdle (s : State) : State :=
  let us := s.fld Reg.GLB_SR_UNITS0 23 16
  let idle := allCores.all (fun c => !bit us c || s.coreIdle c)
  let s := if idle && s.fld Reg.PSC_STATUS 31 29 != 1 then s.modPsc (fun p => { p with dwellAt := s.ptb }) else s
  s.setFld Reg.PSC_STATUS 31 29 (if idle then 1 else 0)

def State.setIdle (s : State) (c : CoreId) (v : Bool) : State :=
  let m := s.fld Reg.PSC_STATUS 7 0
  (s.setFld Reg.PSC_STATUS 7 0 ((if v then BitVec.ofNat 8 m ||| BitVec.ofNat 8 (2 ^ c.val) else BitVec.ofNat 8 m &&& ~~~(BitVec.ofNat 8 (2 ^ c.val))).toNat)).showIdle

/-- The array holds no command, pass, drain or preload, and its crossings are empty. -/
def State.arrQuiet (s : State) (c : CoreId) : Bool :=
  let a := (s.core c).arr
  a.xing.isEmpty && a.queue.isEmpty && a.passes.isEmpty && a.bank.toList.all (fun b => b.state != .loading && b.state != .active && b.state != .draining)

/-- The array has held nothing for IDLE_ENTRY_US, since its last progress. -/
def execCoreIdleEntry (c : CoreId) (t : W64) (s : State) : Out :=
  let ok := match s.partOf c with | some p => decide (2 ≤ (s.act (Reg.PSC_LAT p)).toNat) | none => true
  if s.psc.state != .run || s.coreIdle c || !s.arrQuiet c || !ok
      || t.toNat < (s.progressAt 1 c).toNat + s.fld Reg.PSC_POLICY 15 8 * 1000 then .next s
  else .next ((s.atTime t).setIdle c true)

/-- A command in crossing 1 of an Idle core ends Idle, and ACLK runs again. -/
def execIdleExit (c : CoreId) (s : State) : Out :=
  if !s.coreIdle c || (s.core c).arr.xing.isEmpty then .next s else .next (s.setIdle c false)

/-! ## Sleep, Deep sleep and Off (R475 to R484) -/

/-- The package is in Idle. -/
def State.pkgIdle (s : State) : Bool :=
  allCores.all (fun c => !bit (s.fld Reg.GLB_SR_UNITS0 23 16) c || s.coreIdle c)

/-- The tolerance in µs (R475). -/
def State.tolerance (s : State) : Nat :=
  (s.validParts.map (fun (p : CoreId) => (s.act (Reg.PSC_LAT p.val)).toNat)).foldl min (s.act Reg.PSC_LAT_PKG).toNat

/-- Exit latencies in µs (R473). -/
def exitUs : PState → Nat | .run => 0 | .sleep => 250 | .deep => 60000 | .off => 45000000
/-- Most time an entry takes, in µs (R477). -/
def entryUs : PState → Nat | .run => 0 | .sleep => 50 | .deep => 5000 | .off => 5000

/-- The target (R475). -/
def State.powerTarget (s : State) : Option PState :=
  if s.fld Reg.PSC_POLICY 28 28 = 1 && 60000 ≤ s.tolerance then some .deep
  else if s.fld Reg.PSC_POLICY 29 29 = 1 && 250 ≤ s.tolerance then some .sleep
  else none

/-- A context refuses Sleep and Deep sleep; any that is not FREE refuses Off. -/
def ctxRefuses (t : PState) : CtxState → Bool
  | .free => false
  | .created | .suspended | .ended => t = .off
  | .ready | .running | .stopping | .held | .faulted => true

/-- A crossing that is not empty and that a clock which the entry stops serves, by its number (R25, R28): commands to an array, arrivals
on the fabric, and where the fabric, link and management clocks stop too (R23), messages to or from the links, register accesses and
heartbeats. -/
def State.crossing (s : State) (t : PState) : Option Nat :=
  if s.cores.toList.any (fun k => !k.arr.xing.isEmpty) then some 1
  else if !s.arrivals.isEmpty then some 6
  else if t = .sleep then none
  else if !s.inbox.isEmpty || s.dims.toList.any (fun d => d.out.toList.any (fun l => !l.isEmpty)) then some 8
  else if !s.posted.isEmpty || !s.heldReads.isEmpty then some 10
  else if !s.crown.beats.isEmpty then some 11
  else none

/-- The stack of a buffer that holds data not in DRAM. -/
def State.dirtyStack (s : State) : Option Nat := (s.buf.find? (·.dirty)).map (fun e => (s.cell (e.line * 256)).stack.val)

/-- The fabric die of a relay command, split transfer or flash drain that runs. -/
def State.relayDie (s : State) : Option Nat :=
  (allCores.find? (fun d => (s.rel d).cmds.any (·.started)
    || allCtxs.any (fun x => (s.ctx x).part = d && ((s.ctx x).take.isSome || (s.ctx x).restore.isSome))
    || (vget s.areas d).drain.isSome)).map (·.val)

/-- A function with a command running, or a doorbell not served. -/
def State.hostBusy (s : State) : Option Nat :=
  (allFns.find? (fun f => (s.fn f).queues.any (fun kv => match kv.2 with
    | some x => !x.running.isEmpty || (!x.error && x.next != x.tail)
    | none => false))).map (·.val)

/-- A wake level is present (R481); a relay command held at its queue is one (R477). -/
def State.wakeHeld (s : State) : Bool :=
  (s.pins.wakeLow && s.fld Reg.PSC_WAKE_CFG 0 0 = 1) || s.psc.wakeTimer || s.psc.wakeMatch
    || allCores.any (fun d => (s.rel d).cmds.any (fun c => !c.started))

/-- A scheduled activation falls before the exit could complete; `left`: the µs that the entry may still take. -/
def State.actNear (s : State) (t : PState) (left : Nat) : Bool :=
  s.activation.armed && s.activation.begun.isNone && decide (s.activation.time.toNat < s.ptb.toNat + (left + exitUs t) * 1000)

/-- The first refuser of an entry that may still take `left` µs, with its instance (R476); `levels`: a wake level is one. -/
def State.refuserAt (s : State) (t : PState) (left : Nat) (levels : Bool) : Option (Nat × Nat) :=
  if allCtxs.any (fun x => ctxRefuses t (s.ctx x).state) then some (rfContext, 0) else
  match s.crossing t with
  | some i => some (rfCrossing, i)
  | none =>
  match (if t = .sleep then none else s.dirtyStack) with
  | some m => some (rfBuffer, m)
  | none =>
  match s.relayDie with
  | some d => some (rfRelay, d)
  | none =>
  match s.hostBusy with
  | some f => some (rfHost, f)
  | none =>
  if !s.nvme.isEmpty then some (rfFlash, 0)
  else if s.fld Reg.GNT_STATUS 31 30 != 0 then some (rfGauntlet, 0)
  else if s.fld Reg.CSET_PENDING 15 0 != 0 then some (rfCommit, 0)
  else if levels && s.wakeHeld then some (rfWake, 0)
  else match (if t = .deep then allPorts.find? (fun p => s.portState p = stTraining) else none) with
  | some p => some (rfLink, p.val)
  | none =>
  if s.actNear t left then some (rfUpdate, 0)
  else if t != .off && s.fld Reg.PSC_STATUS 24 24 = 1 then some (rfThermal, 0)
  else if s.photoRun.isSome then some (rfPhoto, 0)
  else none

/-- The first refuser at the check of an entry. -/
def State.refuser (s : State) (t : PState) : Option (Nat × Nat) := s.refuserAt t (entryUs t) true

/-- The anti-rollback floor (GLB_FLOOR, R507). -/
def State.floor (s : State) : Nat := min 64 (Config.floorAtTest.val + s.fuses.blown)

/-- A register of the GLB block: the serial number and the floor are fused, and the package ID is that of set 12. -/
def State.glbWord (s : State) (o : Nat) : W32 :=
  if o = Reg.GLB_SERIAL0 then Config.serial 0
  else if o = Reg.GLB_SERIAL1 then Config.serial 1
  else if o = Reg.GLB_SERIAL2 then Config.serial 2
  else if o = Reg.GLB_FLOOR then BitVec.ofNat 32 s.floor
  else if o = Reg.GLB_PKG then s.pkg.setWidth 32
  else s.act o

/-- The GLB block as SMBus reads it in Deep sleep (R396). -/
def glbOffsets : List Nat := (List.range 8).map (4 * ·) ++ (List.range 8).map (0x100 + 4 * ·)

/-- Steps 1 and 2 of an entry (R477): refused, or begun; for Deep sleep and Off with NOTICE_SLEEP, the write-back, the PTB and
the copy of GLB. -/
def State.tryEntry (s : State) (t : PState) : State :=
  match s.refuser t with
  | some r => s.refuseEntry t false r.1 r.2
  | none =>
    let s := s.modPsc (fun p => { p with entry := some t })
    if t = .sleep then s else
    let s := (allPorts.filter s.timed).foldl (fun s p => s.modPort p (fun x => { x with unseq := x.unseq ++ [.notice 2 s.ptb] })) s
    let s := s.flushAll.modPsc (fun p => { p with sleepPtb := s.ptb })
    { s with glbCopy := glbOffsets.foldl (fun m o => smSet (fun _ => 0) m o (s.glbWord o)) [] }

/-- The package has been in Idle for DWELL_MS. An entry waits while both management dies claim the crown (R486). -/
def execPowerStateAttempt (t : W64) (s : State) : Out :=
  if s.psc.state != .run || s.twoCrowns || s.psc.entry.isSome || !s.pkgIdle || s.fld Reg.GLB_STATUS 25 25 = 0 || s.fld Reg.GLB_STATUS 26 26 = 1
      || t.toNat < s.psc.dwellAt.toNat + max 1 (s.fld Reg.PSC_POLICY 7 0) * 1000000 then .next s else
  match s.powerTarget with
  | none => .next s
  | some p => .next ((s.atTime t).tryEntry p)

/-- Steps 3 and 4 are complete, unless a refuser has appeared meanwhile: it aborts the entry (R477). PSC_STATUS.STATE is 2 in Sleep
and 3 in Deep sleep. A level that is present at the latch begins the exit at once (R482). The ports' clocks stop in Deep sleep, and
their training begins anew with the exit (R479). -/
def execPowerStateEntered (s : State) : Out :=
  match s.psc.entry with
  | none => .next s
  | some t =>
    match s.refuserAt t 0 false with
    | some r => .next (s.abortEntry r.1 r.2)
    | none =>
    if t = .off then .next (s.powerOff true) else
    let s := s.modPsc (fun p => { p with state := t, entry := none })
    let s := s.setFld Reg.PSC_STATUS 31 29 (t.code + 1)
    let s : State := if t = .deep then { (allPorts.filter s.timed).foldl State.startTraining s with pins := { s.pins with flpPerst := true } } else s
    .next (if s.wakeHeld then s.modPsc (fun p => { p with exiting := true }) else s)

/-- A write of PSC_CTL (R480). -/
def State.writePscCtl (s : State) (v : W32) : State :=
  if fieldOf v 31 16 = 0x3C96 && v.getLsbD 0 && s.psc.entry.isNone then s.tryEntry .off else s
def execPscCtlOff (v : W32) (s : State) : Out := .next (s.pfWrite 0 Reg.PSC_CTL v (·.writePscCtl v))

/-! ## Wakes (R481, R482) -/

/-- A start begins: a cold one at stage 1 (R495). -/
def State.coldStart (s : State) : State :=
  { s.setFld Reg.GLB_STATUS 3 0 1 with start := ⟨true, 0, false, false, false, false⟩, psc := { s.psc with state := .run } }

/-- WAKE_N goes low; `latch`: during step 4 of an entry; `held`: it stays low. An edge in the latch is lost. -/
def execWakeNLow (latch held : Bool) (s : State) : Out :=
  let s : State := { s with pins := { s.pins with wakeLow := held } }
  match s.psc.state with
  | .off => .next (if s.pins.vaux && s.pins.pwrgd && !s.pins.thermtrip then s.coldStart else s)
  | _ => .next (if s.psc.entry.isSome && latch then s else s.wakeBy true)

/-- The PTB reaches PSC_WAKE_AT, in an entry or while the part sleeps. -/
def execWakeTimer (latch : Bool) (s : State) : Out :=
  let t := s.pair Reg.PSC_WAKE_AT_LO
  if t = 0 || !(s.psc.entry.isSome || s.asleep) then .next s else
  let s := s.atTime (BitVec.ofNat 64 t)
  if s.psc.entry.isSome && latch then .next (s.modPsc (fun p => { p with wakeTimer := true }))
  else .next ((if s.asleep then s.modPsc (fun p => { p with wakeTimer := true }) else s).wakeBy true)

end Sys2Proof.Machine
end

