-- ==== Sys2Proof/Machine/Commit.lean ====
section
/-! DEFINITION. Commit sets (R49 to R53): the checks of each set, a commit's apply and its effects, refusals and discards. -/

namespace Sys2Proof.Machine
open Sys2Proof

/-! ## The registers of a set (R49) -/

/-- The registers of a set that do not hold their reset value in both copies. -/
def State.setKeys (s : State) (n : Nat) : List Nat :=
  ((s.regs.map (·.1)) ++ (s.shadow.map (·.1))).eraseDups.filter (fun k => setAt k = some n)

def State.setEqual (s : State) (n : Nat) : Bool :=
  (s.setKeys n).all (fun k => (s.act k ^^^ s.shad k) &&& rwsMask k = 0)

/-- Shadow to active, and active to shadow. -/
def State.copySet (s : State) (n : Nat) : State :=
  (s.setKeys n).foldl (fun s k => s.setAct k ((s.act k &&& ~~~(rwsMask k)) ||| (s.shad k &&& rwsMask k))) s
def State.revertSet (s : State) (n : Nat) : State :=
  (s.setKeys n).foldl (fun s k => s.setShad k ((s.shad k &&& ~~~(rwsMask k)) ||| (s.act k &&& rwsMask k))) s

/-! ## Checks (R50). Each answers the offset of the first register at fault. `start`: on the start basis of R53. -/

/-- The first of a list of findings that holds. -/
def firstBad (l : List (Bool × Nat)) : Option Nat := (l.find? (·.1)).map (·.2)

/-- Ranges that share a unit. -/
def overlaps (a n b m : Nat) : Bool := 0 < n && 0 < m && a < b + m && b < a + n

/-- Set 1 (R467, R471). -/
def State.checkPower (s : State) : Option Nat :=
  let f := s.shadFld Reg.PSC_PACER 10 0
  firstBad [(decide ((s.shad Reg.PSC_CAP).toNat < 500000), Reg.PSC_CAP),
    (f % 25 != 0 || f < 600 || 1550 < f, Reg.PSC_PACER)]

/-- An aligned set of 1, 2, 4 or 8 cores (R398). -/
def coreSet (m : Nat) : Bool := [1, 2, 4, 8, 16, 32, 64, 128, 3, 12, 48, 192, 15, 240, 255].contains m

/-- Set 2 (R399, R523). -/
def State.checkParts (s : State) (start : Bool) : Option Nat :=
  let usable := if start then 255 else s.fld Reg.GLB_SR_UNITS0 23 16
  let v (p : Nat) : Bool := s.shadFld (Reg.SCH_PCFG p) 31 31 = 1
  let cs (p : Nat) := s.shadFld (Reg.SCH_PCFG p) 23 16
  let b (p : Nat) := s.shadFld (Reg.SCH_PCFG p) 13 8
  let n (p : Nat) := s.shadFld (Reg.SCH_PCFG p) 4 0
  firstBad ((List.range 8).flatMap (fun p =>
    [(v p && !coreSet (cs p), Reg.SCH_PCFG p),
     (v p && (List.range p).any (fun q => v q && (List.range 8).any (fun c => bit (cs p) c && bit (cs q) c)), Reg.SCH_PCFG p),
     (v p && (List.range 8).any (fun c => bit (cs p) c && !bit usable c), Reg.SCH_PCFG p),
     (v p && s.fld Reg.GNT_STATUS 31 30 = 2 && s.fld Reg.GNT_STATUS 27 22 < 8 && bit (cs p) (s.fld Reg.GNT_STATUS 27 22), Reg.SCH_PCFG p),
     (v p && (n p = 0 || 16 < n p || 64 < b p + n p), Reg.SCH_PCFG p),
     (v p && (List.range p).any (fun q => v q && overlaps (b p) (n p) (b q) (n q)), Reg.SCH_PCFG p),
     (let h := s.shadFld (Reg.SCH_HEAT p) 19 0; h < 100 || 1000000 < h, Reg.SCH_HEAT p),
     (s.changes (Reg.SCH_PCFG p) && allCtxs.any (fun x => (s.ctx x).part.val = p && (s.ctx x).state != .free), Reg.SCH_PCFG p)]))

/-- Set 3 + c: regions (R139, R141), the stash (R142, R289), and quotas (R136, R252). -/
def State.checkCore (s : State) (c : CoreId) : Option Nat :=
  let b (j : Nat) := s.shadFld (Reg.STORE_BASE c j) 13 0
  let z (j : Nat) := s.shadFld (Reg.STORE_SIZE c j) 14 0
  let k (j : Nat) := s.shadFld (Reg.STORE_ATTR c j) 31 28
  let ctx (j : Nat) := s.shadFld (Reg.STORE_ATTR c j) 27 22
  let w (j : Nat) := s.shadFld (Reg.STORE_ATTR c j) 21 21
  let pr (j : Nat) := s.shadFld (Reg.STORE_ATTR c j) 19 16
  let quota (top off hi lo : Nat) : Bool × Nat := (let q := s.shadFld off hi lo; q = 0 || top < q, off)
  let hva (f : Nat → W32) := ((f (Reg.STORE_HSTASH_LO c)) >>> 21, f (Reg.STORE_HSTASH_HI c) &&& 0x1FFFFFF#32)
  let hsz (f : Nat → W32) := fieldOf (f (Reg.STORE_HSTASH_SIZE c)) 15 0
  let kept := (s.core c).stash.any (fun e => !e.hpages.isEmpty) || (s.core c).stats.any (fun e => e.line.isSome)
  let q (hi lo : Nat) := s.shadFld (Reg.SEQ_QUOTA c) hi lo
  firstBad ([(decide (32 < q 14 10 + q 9 5 + q 4 0) || decide (8 < q 27 24 + q 23 20 + q 19 16), Reg.SEQ_QUOTA c),
     quota 4096 (Reg.STR_QUOTA c) 28 16, quota 4096 (Reg.STR_QUOTA c) 12 0, quota 4096 (Reg.STR_QUOTA2 c) 12 0,
     quota 2048 (Reg.GTH_QUOTA c) 28 16, quota 2048 (Reg.GTH_QUOTA c) 12 0, quota 2048 (Reg.GTH_QUOTA2 c) 12 0]
   ++ (List.range 16).flatMap (fun j =>
    [(decide (4 < k j), Reg.STORE_ATTR c j),
     (k j != 0 && (List.range j).any (fun i => k i != 0 && overlaps (b j) (z j) (b i) (z i)), Reg.STORE_BASE c j),
     (k j != 0 && decide (16384 < b j + z j), Reg.STORE_SIZE c j),
     (k j = 4 && z j != z (pr j), Reg.STORE_SIZE c j),
     (k j = 4 && k (pr j) != 2 && k (pr j) != 3, Reg.STORE_ATTR c j),
     (k j = 4 && ctx j != ctx (pr j), Reg.STORE_ATTR c j),
     (k j = 4 && (List.range j).any (fun i => k i = 4 && w i = w j && pr i = pr j), Reg.STORE_ATTR c j)])
   ++ [(decide (((List.range 16).map (fun j => if k j = 3 then z j else 0)).sum < s.shadFld (Reg.STORE_STASH c) 14 0), Reg.STORE_STASH c),
     (kept && hva s.act != hva s.shad, Reg.STORE_HSTASH_LO c),
     (kept && decide (hsz s.shad < hsz s.act), Reg.STORE_HSTASH_SIZE c)])

/-- 1,024 GiB, as MEM_LIMIT counts on the start basis. -/
def startLimit : Nat := 2 ^ 40

/-- Set 11 (R263). -/
def State.checkWindows (s : State) (start : Bool) : Option Nat :=
  let lim := if start then startLimit else memLimit s
  let k (i : Nat) := s.shadFld (Reg.MEM_WIN_ATTR i) 31 29
  let p (i : Nat) := s.shadFld (Reg.MEM_WIN_ATTR i) 27 25
  let w (i : Nat) := s.shadFld (Reg.MEM_WIN_ATTR i) 24 24
  let pr (i : Nat) := s.shadFld (Reg.MEM_WIN_ATTR i) 23 18
  let b (i : Nat) := (s.shad (Reg.MEM_WIN_BASE_LO i)).toNat / 65536 + (s.shad (Reg.MEM_WIN_BASE_HI i)).toNat % 2 ^ 25 * 65536
  let z (i : Nat) := (s.shad (Reg.MEM_WIN_SIZE i)).toNat
  let va (i : Nat) : Bool := 1 ≤ k i && k i ≤ 4
  firstBad ((List.range 64).flatMap (fun i =>
    [(decide (5 < k i), Reg.MEM_WIN_ATTR i),
     (va i && (List.range i).any (fun j => va j && p i = p j && overlaps (b i) (z i) (b j) (z j)), Reg.MEM_WIN_BASE_LO i),
     (k i != 0 && decide (2 ^ 41 < b i + z i), Reg.MEM_WIN_SIZE i),
     (k i = 5 && decide (lim < (b i + z i) * 65536), Reg.MEM_WIN_SIZE i),
     (k i = 2 && (z i != z (pr i) || k (pr i) != 1 || p i != p (pr i)), Reg.MEM_WIN_ATTR i),
     (k i = 2 && (List.range i).any (fun j => k j = 2 && w i = w j && pr i = pr j), Reg.MEM_WIN_ATTR i)]))

/-- Set 12 (R331). -/
def State.checkLinks (s : State) : Option Nat :=
  let mapped (m : Nat) : Option Nat := if s.shadFld (Reg.LNK_PORTMAP m) 4 4 = 1 then some (s.shadFld (Reg.LNK_PORTMAP m) 3 0) else none
  firstBad (allPorts.flatMap (fun (m : PortId) =>
    [((mapped m.val).isSome && decide (2 ≤ ((List.range m.val).filter (fun q => mapped q = mapped m.val)).length), Reg.LNK_PORTMAP m),
     (s.changes (Reg.LNK_PORTMAP m) && s.timed m, Reg.LNK_PORTMAP m)])
   ++ [(s.changes Reg.LNK_PKGID && allPorts.any s.timed, Reg.LNK_PKGID),
     (s.changes Reg.LNK_SYSTEM && allPorts.any s.timed, Reg.LNK_SYSTEM)])

/-- Set 13 (REL_CFG). -/
def State.checkRelay (s : State) : Option Nat :=
  firstBad (allCores.map (fun (d : CoreId) =>
    (let k := s.shadFld (Reg.REL_CFG d) 21 16; k = 0 || 60 < k, Reg.REL_CFG d)))

/-- Set 14 (chapter 12). -/
def State.checkHost (s : State) : Option Nat :=
  firstBad (allFns.flatMap (fun (f : FnId) =>
    let aq := s.shadFld (Reg.HIF_FN_AQ_CFG f) 31 31 = 1
    let eq := s.shadFld (Reg.HIF_FN_EQ_CFG f) 31 31 = 1
    let al := s.shadFld (Reg.HIF_FN_AQ_CFG f) 24 20
    let el := s.shadFld (Reg.HIF_FN_EQ_CFG f) 24 20
    let mq := s.shadFld (Reg.HIF_FN_QSTATE f) 6 0
    [(aq && (al < 4 || 16 < al), Reg.HIF_FN_AQ_CFG f),
     (aq && s.shadFld (Reg.HIF_FN_AQ_BASE_LO f) 11 0 != 0, Reg.HIF_FN_AQ_BASE_LO f),
     (aq && s.shadFld (Reg.HIF_FN_AQ_HEAD_LO f) 2 0 != 0, Reg.HIF_FN_AQ_HEAD_LO f),
     (eq && (el < 6 || 16 < el), Reg.HIF_FN_EQ_CFG f),
     (eq && s.shadFld (Reg.HIF_FN_EQ_BASE_LO f) 11 0 != 0, Reg.HIF_FN_EQ_BASE_LO f),
     (mq = 0 || 64 < mq, Reg.HIF_FN_QSTATE f)])
   ++ (List.range 64).map (fun q => (decide (s.shadFld (Reg.HIF_PF_QVEC q) 5 0 = 0), Reg.HIF_PF_QVEC q)))

/-- Set 15 (chapter 14). -/
def State.checkSplit (s : State) (start : Bool) : Option Nat :=
  let lim := if start then startLimit else memLimit s
  let gib := s.shadFld Reg.SPL_CFG 15 0
  let lo := s.shadFld Reg.SPL_TAU 15 0
  let hi := s.shadFld Reg.SPL_TAU 31 16
  firstBad [(decide (gib < ((List.range 8).map (fun p => s.shadFld (Reg.SPL_AREA p) 15 0)).sum), Reg.SPL_CFG),
    (decide (lim < (s.shadFld Reg.SPL_BUDDY_BASE 15 0 + gib) * 2 ^ 30), Reg.SPL_BUDDY_BASE),
    (lo < 120 || 21600 < hi || hi < lo, Reg.SPL_TAU)]

/-- The checks of a set. -/
def State.checkSet (s : State) (n : Nat) (start : Bool) : Option Nat :=
  if n = 1 then s.checkPower
  else if n = 2 then s.checkParts start
  else if 3 ≤ n && n ≤ 10 then s.checkCore (Fin.ofNat 8 (n - 3))
  else if n = 11 then s.checkWindows start
  else if n = 12 then s.checkLinks
  else if n = 13 then s.checkRelay
  else if n = 14 then s.checkHost
  else if n = 15 then s.checkSplit start
  else none

/-! ## Outcomes (R50, R52) -/

/-- Bit n of a set register set or cleared. -/
def State.setBit (s : State) (off n : Nat) (v : Bool) : State :=
  s.setAct off (if v then s.act off ||| BitVec.ofNat 32 (2 ^ n) else s.act off &&& ~~~(BitVec.ofNat 32 (2 ^ n)))

/-- Flash slots whose extent or owner a commit of set 15 changes are unsealed in the split index, so that no drain reads a moved slot
(R418): one that runs in such an area is abandoned (notes/assumptions/54). -/
def State.moveFlash (old s : State) : State :=
  let base (t : State) (p : Nat) : Nat × Nat :=
    (((List.range p).map (fun q => t.fld (Reg.SPL_AREA q) 15 0)).sum, t.fld (Reg.SPL_AREA p) 15 0)
  let dim := old.fld Reg.SPL_CFG 31 28 != s.fld Reg.SPL_CFG 31 28
  let hit := allCores.filter (fun (p : CoreId) => dim || base old p.val != base s p.val)
  hit.foldl (fun s p =>
    let s := ((s.setFlashSealed p 0 false).setFlashSealed p 1 false).showFlash p
    if (s.area p).drain.isSome then s.abandonDrain p else s) s

/-- What a commit of set 14 does to a function (HIF_FN): its admin queue and its event queue start or end. -/
def State.hostSet (old s : State) (f : FnId) : State :=
  let on (t : State) (off : Nat) : Bool := t.fld off 31 31 = 1
  let aq := Reg.HIF_FN_AQ_CFG f
  let eq := Reg.HIF_FN_EQ_CFG f
  let s :=
    if !on old aq && on s aq then
      (s.setQueue f 0 (some (newQueue (s.pair (Reg.HIF_FN_AQ_BASE_LO f)) (s.fld aq 24 20) (s.pair (Reg.HIF_FN_AQ_HEAD_LO f))))).modFn f
        (fun n => { n with bells := smSet (fun _ => 0) n.bells 0 0 })
    else if on old aq && !on s aq then s.deleteQueue f 0
    else s
  if !on old eq && on s eq then s.modFn f (fun n => { n with eqEn := true, eqHead := 0, eqCount := 0 })
  else if on old eq && !on s eq then s.modFn f (fun n => { n with eqEn := false })
  else s

/-- Every block copies shadow to active, with what follows in the block. -/
def State.applySet (s : State) (n : Nat) : State :=
  let t := s.copySet n
  if n = 14 then allFns.foldl (fun t f => State.hostSet s t f) t
  else if n = 15 then State.moveFlash s t
  else t

/-- The blocks that held at their apply points for a set resume (R50): slots whose gates have opened meanwhile run, and the
partitions' turns go on. -/
def State.resumeBlocks (s : State) (n : Nat) : State :=
  let s := s.modPsc (fun p => if n = 1 then { p with boundary := false } else p)
  if n = 2 then
    allCores.foldl (fun s p => (s.modPart p (fun q => { q with heatHeld := false })).startTurn p) s
  else if 3 ≤ n && n ≤ 10 then
    (List.range 32).foldl (fun s j => s.wakeSlot (Fin.ofNat 8 (n - 3)) (Fin.ofNat 32 j)) s
  else s

/-- A pending commit has its outcome: it leaves the order of the commit writes. -/
def State.commitOver (s : State) (n : Nat) : State :=
  { s.setBit Reg.CSET_PENDING n false with csetOrder := s.csetOrder.filter (· != n) }

/-- A commit completes. -/
def State.commitDone (s : State) (n : Nat) : State :=
  let s := ((s.commitOver n).setBit Reg.CSET_DIRTY n false).setBit Reg.CSET_ERR n false
  s.setFld Reg.CSET_COUNT 15 0 (s.fld Reg.CSET_COUNT 15 0 + 1)

/-- A commit is refused: cause 1 INVALID with the offset of the first field at fault, 2 TIMEOUT with that of the block. The set stays
DIRTY, since the shadow keeps the written values (notes/assumptions/80). -/
def State.commitRefused (s : State) (n cause off : Nat) : State :=
  let s := (s.commitOver n).setBit Reg.CSET_ERR n true
  (s.bumpFld Reg.CSET_COUNT 31 16 1).event .hifCommitRefused [.small 5 n, .small 8 cause, .word off]

/-- A commit write of a set without a pending commit. It aborts a power-state entry (R483). -/
def State.commit (s : State) (n : Nat) : State :=
  let s := s.abortEntry rfCommit 0
  if s.setEqual n then s.commitDone n
  else match s.checkSet n false with
    | some off => s.commitRefused n 1 off
    | none => { s.setBit Reg.CSET_PENDING n true with csetOrder := s.csetOrder ++ [n] }

/-- A discard of a set without a pending commit (R52). -/
def State.discardSet (s : State) (n : Nat) : State := (s.revertSet n).setBit Reg.CSET_DIRTY n false

/-- A commit at the image stage (R53); none where it is refused. -/
def State.commitStart (s : State) (n : Nat) : Option State :=
  if s.setEqual n then some (s.commitDone n)
  else if (s.checkSet n true).isSome then none
  else some ((s.applySet n).commitDone n)

/-- The array of a core is between two M-class commands (R94). -/
def State.arrReady (s : State) (c : CoreId) : Bool :=
  let a := (s.core c).arr
  a.passes.isEmpty && a.bank.toList.all (fun b => !((b.state = .loading && b.cmd.isSome) || b.state = .draining))

/-- Every block of a set with a pending commit is at its apply point, where it holds. Between two steps every sequencer is at an issue
boundary, every translating unit between two translations, every port at a flit boundary, every split transfer between two
segments, and no host command between its read and its start (R141, R252, R263, R331, R391, R429). -/
def State.atApply (s : State) (n : Nat) : Bool :=
  if n = 0 then s.fld Reg.GNT_STATUS 31 30 = 0 && s.hangs.isEmpty
  else if n = 1 then s.psc.boundary
  else if n = 2 then allCores.all (fun p => !s.partHeld p || (s.part p).running.isNone || (s.part p).heatHeld)
  else if 3 ≤ n && n ≤ 10 then s.arrReady (Fin.ofNat 8 (n - 3)) && s.strReady (Fin.ofNat 8 (n - 3))
  else if n = 13 then s.relBetween
  else true

/-- Two sets with registers in one block (R49). -/
def shareBlock (m n : Nat) : Bool := (m = 11 && n = 14) || (m = 14 && n = 11)

/-- No commit that was written before set n's is still to apply to a block of both (R51). -/
def State.firstOf (s : State) (n : Nat) : Bool :=
  (s.csetOrder.takeWhile (· != n)).all (fun m => !shareBlock m n)

end Sys2Proof.Machine
end

