-- ==== Sys2Proof/Machine/Image.lean ====
section
/-! DEFINITION. The configuration image (R491 to R494, R502, R513): its header, its sections and the checks it must pass. -/

namespace Sys2Proof.Machine
open Sys2Proof

/-- What a byte of the configuration flash reads as where nothing has been programmed: erased (notes/assumptions/30). -/
def erased : Nat → Byte := fun _ => 0xFF

/-! ## Reason codes (R499) -/

def rsPwrRail : Nat := 0x10
def rsPwrInput : Nat := 0x11
def rsCrownConflict : Nat := 0x20
def rsCrownDegraded : Nat := 0x21
def rsImgAbsent : Nat := 0x30
def rsImgCrc : Nat := 0x31
def rsImgSignature : Nat := 0x32
def rsImgRollback : Nat := 0x33
def rsImgSection : Nat := 0x34
def rsImgCommit : Nat := 0x35
def rsImgCopy : Nat := 0x36
def rsFlashIo : Nat := 0x37
def rsGntFail : Nat := 0x40
def rsGntNoCore : Nat := 0x41
def rsHbmNone : Nat := 0x50
def rsHbmInit : Nat := 0x51
def rsCoreRelease : Nat := 0x70
def rsScrapped : Nat := 0x80
def rsHostRequest : Nat := 0x81
def rsInterrupted : Nat := 0xF0

/-! ## Reading an image -/

/-- A bank of the flash, with the bytes at and above `len` read as erased. -/
structure Image where
  mem : SMap Byte
  len : Nat

def Image.byte (m : Image) (a : Nat) : Byte := if a < m.len then smGet erased m.mem a else 0xFF
def Image.n (m : Image) (a n : Nat) : Nat := leNat ((List.range n).map (fun i => m.byte (a + i)))
/-- Word i of the header, and bits of it. -/
def Image.hw (m : Image) (i : Nat) : Nat := m.n (8 * i) 8
def Image.h (m : Image) (i hi lo : Nat) : Nat := bitsOf (m.hw i) hi lo

def Image.sections (m : Image) : Nat := m.h 0 15 0
def Image.sec (m : Image) : Nat := m.h 1 63 56
def Image.build (m : Image) : Nat := m.h 1 55 32
def Image.length (m : Image) : Nat := m.h 1 31 0
def Image.full (m : Image) : Bool := m.h 2 1 0 = 1
def Image.slowHbm (m : Image) : Bool := m.h 2 2 2 = 1
def Image.raise (m : Image) : Bool := m.h 2 3 3 = 1
def Image.vkey (m : Image) : Fin 4 := Fin.ofNat 4 (m.h 2 5 4)
def Image.ownerSig (m : Image) : Bool := m.h 2 6 6 = 1

/-- An entry of the section table: its type, offset and length, and its two words. -/
structure Section where
  type : Nat
  off : Nat
  len : Nat
  clean : Bool

def Image.entry (m : Image) (k : Nat) : Section :=
  let w0 := m.n (256 + 16 * k) 8
  let w1 := m.n (264 + 16 * k) 8
  ⟨bitsOf w0 63 56, bitsOf w0 31 0, bitsOf w1 31 0, bitsOf w0 55 32 = 0 && bitsOf w1 63 32 = 0⟩

def Image.table (m : Image) : List Section := (List.range (min m.sections 64)).map m.entry

/-- Where the signature section starts. Without an entry for it, its size before LENGTH. -/
def Image.sigAt (m : Image) : Nat :=
  match m.table.find? (fun e => e.type = 0xF0) with
  | some e => e.off
  | none => m.length - (if m.ownerSig then 192 else 96)

/-- The CRC over every byte up to the signature section, with the CRC field zero. -/
def Image.crc (m : Image) : W32 :=
  crc32c ((List.range m.sigAt).map (fun a => if 32 ≤ a && a < 36 then 0 else m.byte a))

/-- The stepping, as GLB_ID bits [7:0] (R2). -/
def stepping : Nat := 0x21

/-! ## The checks of R494, in table order -/

/-- Vendor key slots a life-cycle state accepts (R500). -/
def vendorSlots : Nat → List Nat | 1 => [0] | 2 | 3 => [1, 2, 3] | 4 => [0, 1, 2, 3] | _ => []

def State.sigOk (s : State) (m : Image) (vendor owner : Bool) : Bool :=
  (vendorSlots s.fuses.life).contains m.vkey.val && !s.fuses.revoked.getLsbD m.vkey && vendor
    && (!(s.fuses.life.val = 3 && s.fuses.owner.isSome && !s.fuses.ownerRevoked) || (m.ownerSig && owner))

/-- A word of a SET section: the register lies in set n, and its writable fields are all commit-shadowed. -/
def setWordOk (n off : Nat) : Bool :=
  off % 4 = 0 && setAt off = some n && !inMirror off &&
    (match regAt off with | some r => accMask r.2.1 [.rw, .wo, .w1c, .w1s] = 0 | none => false)

/-- The list of a SET section: offset and value. -/
def Image.setList (m : Image) (e : Section) : List (Nat × W32) :=
  (List.range (e.len / 8)).map (fun i => (m.n (e.off + 8 * i + 4) 4, BitVec.ofNat 32 (m.n (e.off + 8 * i) 4)))

/-- The fields of GNT_DATA that R513 does not list are zero, and so is EXPECT but for logic BIST: header words 1 to 7, and n
entries. -/
def Image.gntClean (m : Image) (off n : Nat) : Bool :=
  (List.range 7).all (fun i => m.n (off + 8 + 8 * i) 8 = 0)
    && (List.range n).all (fun i => bitsOf (m.n (off + 64 + 32 * i) 8) 63 20 = 0 && bitsOf (m.n (off + 80 + 32 * i) 8) 63 32 = 0
      && (bitsOf (m.n (off + 64 + 32 * i) 8) 19 18 = 0 || m.n (off + 88 + 32 * i) 8 = 0))

/-- GNT_DATA names the part's stepping and has a logic-BIST entry for every unit and either run (R513). -/
def Image.gntOk (m : Image) (e : Section) : Bool :=
  let w := m.n e.off 8
  let n := bitsOf w 15 0
  let ents := (List.range n).map (fun i => m.n (e.off + 64 + 32 * i) 8)
  bitsOf w 31 16 = stepping && 1 ≤ n && n ≤ 4096 && 64 + 32 * n ≤ e.len && bitsOf w 63 32 = 0 && m.gntClean e.off n
    && (List.range 60).all (fun u => [0, 1].all (fun r => ents.any (fun x =>
      bitsOf x 7 0 = u && bitsOf x 19 18 = 0 && bit (bitsOf x 17 16) r)))

/-- Section table, counts and reserved fields. -/
def Image.sectionsOk (m : Image) : Bool :=
  let es := m.table
  let cnt (t : Nat) : Nat := (es.filter (fun e => e.type = t)).length
  2 ≤ m.sections && m.sections ≤ 64 && m.h 2 1 0 ≤ 1 && m.h 2 63 7 = 0 && m.h 3 63 24 = 0 && m.h 4 63 32 = 0
    && (List.range 27).all (fun i => m.hw (5 + i) = 0)
    && es.all (fun e => e.clean && e.off % 256 = 0 && 256 + 16 * m.sections ≤ e.off && e.off + e.len ≤ m.length)
    && (List.range (es.length - 1)).all (fun i => match es[i]?, es[i + 1]? with
      | some a, some b => a.off + a.len ≤ b.off && a.off < b.off
      | _, _ => false)
    && es.all (fun e => [1, 2, 3, 4, 0xF0].contains e.type || (0x10 ≤ e.type && e.type ≤ 0x1F))
    && cnt 1 = 1 && cnt 2 = 1 && cnt 3 ≤ 1 && cnt 0xF0 = 1 && (es.getLast?.map (·.type)) = some 0xF0
    && (List.range 16).all (fun n => cnt (0x10 + n) ≤ 1)
    && es.all (fun e =>
      if e.type = 2 then m.gntOk e
      else if e.type = 3 then e.len = 96 && (List.range 84).all (fun i => m.byte (e.off + 12 + i) = 0)
      else if e.type = 0xF0 then e.len = (if m.ownerSig then 192 else 96) && e.off + e.len = m.length
      else if 0x10 ≤ e.type then e.len % 8 = 0 && (m.setList e).all (fun w => setWordOk (e.type - 0x10) w.1)
      else true)

/-- The first check that fails, by its reason. -/
def State.checkImage (s : State) (m : Image) (vendor owner : Bool) : Option Nat :=
  if m.h 0 63 32 != 0x4E545053 || m.h 0 31 16 != 1 || m.h 3 15 0 != 0x9100 || stepping < m.h 3 23 16 || 2 ^ 23 < m.length then some rsImgAbsent
  else if m.crc.toNat != m.h 4 31 0 then some rsImgCrc
  else if !s.sigOk m vendor owner then some rsImgSignature
  else if m.sec < s.floor then some rsImgRollback
  else if !m.sectionsOk then some rsImgSection
  else none

/-- The serial number of a RETURN_AUTH section is the part's, and the image is signed with slot 1 to 3 (R502). -/
def Image.returnAuth (m : Image) : Bool :=
  m.vkey != 0 && (match m.table.find? (fun e => e.type = 3) with
    | some e => [0, 1, 2].all (fun (i : Fin 3) => BitVec.ofNat 32 (m.n (e.off + 4 * i.val) 4) = Config.serial i)
    | none => false)

end Sys2Proof.Machine
end

