-- ==== Sys2Proof/Machine/Spares.lean ====
section
/-! DEFINITION. The spare elements of the cores: those fused, at final test or since, and those in use (R517 to R519). -/

namespace Sys2Proof.Machine
open Sys2Proof

def State.spare (s : State) (c : CoreId) : Spares := vget s.gnt c
def State.modSpare (s : State) (c : CoreId) (f : Spares → Spares) : State := { s with gnt := vmod s.gnt c f }

/-- Groups of array columns that a core has fused, and has in use. -/
def State.fusedCols (s : State) (c : CoreId) : List Nat := ((Config.testCols c).map (·.val) ++ (s.spare c).fcols).eraseDups
def State.usedCols (s : State) (c : CoreId) : List Nat := (s.fusedCols c ++ (s.spare c).cols).eraseDups

def noRows : Nat → Nat := fun _ => 0
/-- Rows of a bank that a core has fused, and has in use. -/
def State.fusedRows (s : State) (c : CoreId) (b : Nat) : Nat := (Config.testRows c b).val + smGet noRows (s.spare c).frows b
def State.usedRows (s : State) (c : CoreId) (b : Nat) : Nat := s.fusedRows c b + smGet noRows (s.spare c).rows b

/-- Banks of a core store. -/
def storeBanks : List Nat := List.range 512
def State.allFusedRows (s : State) (c : CoreId) : Nat := (storeBanks.map (s.fusedRows c)).sum
def State.allUsedRows (s : State) (c : CoreId) : Nat := (storeBanks.map (s.usedRows c)).sum

/-- The spare elements a core has in use. -/
def State.coreSpares (s : State) (c : CoreId) : Nat := (s.usedCols c).length + s.allUsedRows c + (s.spare c).stat

/-- Spare elements in use at the publication (R519): of the cores, HBM rows under repair, and spare lanes. -/
def State.sparesUsed (s : State) : Nat :=
  (allCores.map s.coreSpares).sum + (s.rows.filter (fun kv => kv.2.st = .soft || kv.2.st = .hard)).length
    + (allPorts.map (fun (p : PortId) => ((List.range 16).filter (bit (s.fld (Reg.LNK_STATUS p) 15 0))).length)).sum

end Sys2Proof.Machine
end

