-- ==== Sys2Proof/Machine/Crown.lean ====
section
/-! DEFINITION. The crown (R486 to R489), the start counter (R496), false starts and warm-up mode (R497, R498), and the life
cycle (R500, R501). -/

namespace Sys2Proof.Machine
open Sys2Proof

/-! ## The start counter (R496) -/

def kdBegin : BitVec 8 := 1
def kdGood : BitVec 8 := 2
def kdFail : BitVec 8 := 3
def kdWarmUp : BitVec 8 := 4
def kdRetry : BitVec 8 := 5
def kdActivate : BitVec 8 := 6
def kdCopy : BitVec 8 := 7
def kdCopied : BitVec 8 := 8

/-- Word 0 of a record. -/
def StartRec.word (r : StartRec) : W64 :=
  r.no ++ r.kind ++ r.consec ++ r.reason ++ r.stage ++ BitVec.ofBool r.copyIntent ++ BitVec.ofBool r.actPending ++ (0 : BitVec 2)

/-- The CRC of a record's word 0. -/
def recCrc (w : W64) : W32 := crc32c (leBytes w.toNat 8)

/-- The two words of a record. -/
def StartRec.words (r : StartRec) : W64 × W64 := (r.word, (recCrc r.word).setWidth 64)

/-- The record that two words hold; none where its CRC does not check. -/
def startRec (w : W64 × W64) : Option StartRec :=
  if w.2.setWidth 32 = recCrc w.1 then
    some ⟨w.1.extractLsb' 32 32, w.1.extractLsb' 24 8, w.1.extractLsb' 16 8, w.1.extractLsb' 8 8, w.1.extractLsb' 4 4, w.1.getLsbD 3, w.1.getLsbD 2⟩
  else none

/-- The valid records of both sectors, those of the current one last. -/
def State.startRecs (s : State) : List StartRec := (if s.curB then s.recA ++ s.recB else s.recB ++ s.recA).filterMap startRec

/-- The newest record: of the highest START_NO in either sector, the last one written. -/
def State.newest (s : State) : Option StartRec :=
  s.startRecs.foldl (fun b r => match b with
    | none => some r
    | some o => if o.no.toNat ≤ r.no.toNat then some r else some o) none

/-- The newest of the records of some kinds. -/
def State.newestOf (s : State) (ks : List (BitVec 8)) : Option StartRec :=
  (s.startRecs.filter (fun r => ks.contains r.kind)).foldl (fun b r => match b with
    | none => some r
    | some o => if o.no.toNat ≤ r.no.toNat then some r else some o) none

/-- Write a record into the current sector. The last place of it makes the other sector, erased, the current one, with the newest
record repeated. CRN_STATUS.CONSEC and CRN_LAST_FAIL follow. -/
def State.writeRec (s : State) (r : StartRec) : State :=
  let cur := (if s.curB then s.recB else s.recA) ++ [r.words]
  let s : State := if s.curB then { s with recB := cur } else { s with recA := cur }
  let s : State := if cur.length < 4096 then s else
    let n := (s.newest).getD r
    if s.curB then { s with recA := [n.words], curB := false } else { s with recB := [n.words], curB := true }
  let s := s.setFld Reg.CRN_STATUS 28 24 (min 31 ((s.newest).getD r).consec.toNat)
  if r.kind = kdFail then s.setAct Reg.CRN_LAST_FAIL (BitVec.ofNat 32 (r.reason.toNat * 256 + r.stage.toNat * 16)) else s

/-- The newest record, made first where neither sector holds one: START_NO 1 and CONSEC 0, in sector A. Its kind is not given
(notes/assumptions/31). -/
def State.needRec (s : State) : State × StartRec :=
  match s.newest with
  | some r => (s, r)
  | none =>
    let r : StartRec := ⟨1, kdGood, 0, 0, 0, false, false⟩
    ((({ s with curB := false } : State).writeRec r).event .crnCounterReset [], r)

/-- A record that carries the newest one's fields. -/
def State.addRec (s : State) (kind : BitVec 8) (g : StartRec → StartRec) : State :=
  let n := s.needRec
  n.1.writeRec (g { n.2 with kind := kind, reason := 0, stage := BitVec.ofNat 4 s.start.done })

/-! ## Publication, false starts and warm-up (R55, R497, R498) -/

/-- The start record is published, with the spare elements that the gauntlet, once it has run, leaves in use. Units count as usable
until it has found otherwise (notes/assumptions/32). -/
def State.publishRecord (s : State) (kind reason stage : Nat) : State :=
  let s := if s.start.done < 4 && s.fld Reg.GLB_SR_HDR 5 4 = 0 then
      (s.setAct Reg.GLB_SR_UNITS0 0x00FFFFFF).setFld Reg.GLB_SR_UNITS1 15 0 0xFFFF else s
  let s := s.setFld Reg.GLB_SR_HDR 31 16 (s.fld Reg.CRN_START_NO 15 0)
  let s := ((s.setFld Reg.GLB_SR_HDR 15 8 reason).setFld Reg.GLB_SR_HDR 7 6 kind).setFld Reg.GLB_SR_HDR 3 0 stage
  let s := if s.fld Reg.GLB_SR_HDR 5 4 = 0 then s else s.setFld Reg.GLB_SR_REPAIRS 15 0 s.sparesUsed
  let s := s.setPair Reg.GLB_SR_PTB_LO s.ptb.toNat
  s.setFld Reg.GLB_STATUS 25 25 1

/-- Warm-up mode begins (R498): no port runs, and no queue and no event queue is left. -/
def State.enterWarmUp (s : State) (reason stage : Nat) : State :=
  let s := s.publishRecord 2 reason stage
  let s := allFns.foldl State.resetQueues s
  let s := allPorts.foldl (fun s p => (s.modPort p (fun _ => Port.reset)).setAct (Reg.LNK_STATUS p) 0) s
  { s.setFld Reg.GLB_STATUS 26 26 1 with start := { s.start with failed := false }, pins := { s.pins with flpPerst := true } }

/-- A start fails (R497): FAIL record, start record, event, and warm-up mode once CONSEC has reached 3, or at once. `clear`: the
record has ACT_PENDING clear (R505). -/
def State.falseStart (s : State) (reason : Nat) (clear now : Bool) : State :=
  let begun := decide (2 ≤ s.start.done) || 2 ≤ s.fld Reg.GLB_STATUS 3 0 && s.fld Reg.CRN_START_NO 31 0 != 0
  let s := s.addRec kdFail (fun r =>
    let r := { r with reason := BitVec.ofNat 8 reason, actPending := r.actPending && !clear }
    if begun then r else { r with no := r.no + 1, consec := BitVec.ofNat 8 (min 255 (r.consec.toNat + 1)) })
  let n := (s.newest).getD ⟨0, 0, 0, 0, 0, false, false⟩
  let s := s.setAct Reg.CRN_START_NO n.no
  let s := if now || 3 ≤ n.consec.toNat then s.enterWarmUp reason s.start.done
    else { s.publishRecord 1 reason s.start.done with start := { s.start with failed := true } }
  s.event .crnFalseStart [.small 8 reason, .small 4 s.start.done]

/-- A start that goes to warm-up mode without running its stages 3 to 7; it leaves a FAIL record as its verdict
(notes/assumptions/31). -/
def State.skipStart (s : State) (reason : Nat) : State :=
  (s.addRec kdFail (fun r => { r with reason := BitVec.ofNat 8 reason })).enterWarmUp reason 2

/-- The false start's second has passed. -/
def execFalseStartRetry (s : State) : Out :=
  if s.start.failed && s.psc.state = .run then .next ({ s with start := { s.start with failed := false } } : State).beginWarm else .next s

/-- The key of the CRN block. A write with another is discarded and raises HIF_BAD_ACCESS. -/
def crnKey (v : W32) : Bool := fieldOf v 31 16 = 0x5AC3

/-- A write of CRN_CTL. -/
def State.writeCrnCtl (s : State) (v : W32) : State :=
  if !crnKey v then s.badAccess 0 Reg.CRN_CTL
  else if v.getLsbD 1 then
    (s.addRec kdWarmUp (fun r => { r with consec := 3, reason := BitVec.ofNat 8 rsHostRequest })).beginWarm
  else if v.getLsbD 0 && s.inWarmUp then (s.addRec kdRetry id).beginWarm
  else s
def execCrnWarmup (v : W32) (s : State) : Out := .next (s.pfWrite 0 Reg.CRN_CTL v (·.writeCrnCtl v))
def execCrnRestart (v : W32) (s : State) : Out := .next (s.pfWrite 0 Reg.CRN_CTL v (·.writeCrnCtl v))

/-! ## Claims and arbitration (R487 to R489) -/

/-- ME holds the crown, by the degraded flags of MW and ME. -/
def meHolds (mw me : Bool) : Bool := mw && !me

/-- The crown bits go to the registers that show them: CRN_STATUS, GLB_STATUS and PTB_STATUS (R33). -/
def State.showCrown (s : State) : State :=
  let e := if s.crown.me && !s.crown.mw then 1 else 0
  ((s.setFld Reg.CRN_STATUS 31 31 e).setFld Reg.GLB_STATUS 28 28 e).setFld Reg.PTB_STATUS 2 2 e

/-- A die has had no claim for 100 µs: it treats the other as degraded. `me`: it is ME that waits. -/
def execCrownClaimTimeout (me : Bool) (s : State) : Out :=
  if s.fld Reg.GLB_STATUS 3 0 != 2 || s.fld Reg.GLB_STATUS 25 25 = 1 then .next s
  else .next { s with crown := if me then { s.crown with silentMw := true } else { s.crown with silentMe := true } }

/-- Both dies arbitrate, each by its own flag and what it knows of the other's. -/
def State.arbitrate (s : State) (mwDeg meDeg : Bool) : State :=
  let s := (s.setFld Reg.CRN_STATUS 30 30 (if mwDeg then 1 else 0)).setFld Reg.CRN_STATUS 29 29 (if meDeg then 1 else 0)
  let c := s.crown
  ({ s with crown := { c with
    mw := !meHolds mwDeg (meDeg || c.silentMe), me := meHolds (mwDeg || c.silentMw) meDeg } } : State).showCrown

/-- Stage 2 (R487, R495, R496, R497): the crown, the start counter and BEGIN. -/
def execCrownStage (mwDeg meDeg : Bool) (s : State) : Out :=
  if s.psc.state = .off || s.fld Reg.GLB_STATUS 3 0 != 2 || s.fld Reg.GLB_STATUS 25 25 = 1 || s.start.failed then .next s else
  let s := s.arbitrate mwDeg meDeg
  let n := s.needRec
  let s := n.1
  let old := n.2
  let s := match s.newestOf [kdFail] with
    | some r => s.setAct Reg.CRN_LAST_FAIL (BitVec.ofNat 32 (r.reason.toNat * 256 + r.stage.toNat * 16))
    | none => s
  let s := if old.kind = kdBegin || old.kind = kdCopy || old.kind = kdCopied then
      s.setAct Reg.CRN_LAST_FAIL (BitVec.ofNat 32 (rsInterrupted * 256 + old.stage.toNat * 16)) else s
  let s := s.addRec kdBegin (fun r => { r with no := r.no + 1, consec := BitVec.ofNat 8 (min 255 (r.consec.toNat + 1)) })
  let s := s.setAct Reg.CRN_START_NO (old.no + 1)
  let s : State := { s with start := { s.start with copy := old.actPending || old.copyIntent, retry := old.kind = kdRetry } }
  if s.crown.conflict then .next (({ s with crown := { s.crown with conflict := false } } : State).falseStart rsCrownConflict false true)
  else if mwDeg && (meDeg || s.crown.silentMe) then .next (s.falseStart rsCrownDegraded false true)
  else
    let s : State := { s with start := { s.start with done := 2 } }
    if s.fuses.life.val = 5 then .next (s.skipStart rsScrapped)
    else if s.fuses.life.val = 0 then .next (s.skipStart rsImgSignature)
    else if 3 ≤ old.consec.toNat && old.kind != kdRetry then
      .next (s.skipStart (match s.newestOf [kdFail, kdWarmUp] with | some r => r.reason.toNat | none => 0))
    else .next (s.setFld Reg.GLB_STATUS 3 0 3)

/-- Each die sends a heartbeat with its crown bit every 2 µs. -/
def execCrownHeartbeat (me : Bool) (s : State) : Out :=
  if s.psc.state = .off || 8 ≤ s.crown.beats.length then .next s
  else .next { s with crown := { s.crown with beats := s.crown.beats ++ [(me, if me then s.crown.me else s.crown.mw)] } }

/-- A double crown (R488, R489): the dies arbitrate again by their degraded flags; a conflict that persists through three
re-arbitrations gives MW the crown, and the part goes to warm-up mode. -/
def State.doubleCrown (s : State) (mwDeg meDeg : Bool) : State :=
  let s := s.bumpFld Reg.CRN_STATUS 15 8 1
  let again := match s.crown.arbAt with | some t => decide ((s.ptb - t).toNat ≤ 1000000) | none => false
  let run := if again then s.crown.run + 1 else 1
  let starting := s.fld Reg.GLB_STATUS 25 25 = 0
  let s := if starting then s.setFld Reg.GLB_SR_FLAGS 0 0 1 else s
  if 3 < run then
    let s := (({ s with crown := { s.crown with mw := true, me := false, run := 0, arbAt := some s.ptb } } : State).showCrown).event .crnDoubleCrown []
    if starting then s.falseStart rsCrownConflict false true
    else ({ s with crown := { s.crown with conflict := true } } : State).beginWarm
  else
    let s := s.arbitrate mwDeg meDeg
    ({ s with crown := { s.crown with run := run, arbAt := some s.ptb } } : State).event .crnDoubleCrown []

/-! ## Life cycle (R500, R501) -/

def State.setLife (s : State) (v : Fin 6) : State :=
  ({ s with fuses := { s.fuses with life := v } } : State).event .crnLife [.small 3 v.val]

/-- The owner key digest in CRN_OWNER_KEY. -/
def State.ownerKey (s : State) : BitVec 256 :=
  BitVec.ofNat 256 ((List.range 8).map (fun i => (s.act (Reg.CRN_OWNER_KEY i)).toNat * 2 ^ (32 * i))).sum

/-- A write of CRN_LIFE (R486). GLB_STATUS.LIFE shows the new state from the next start. -/
def State.writeLife (s : State) (v : W32) : State := s.crownWrite Reg.CRN_LIFE v (fun s =>
  let t := fieldOf v 2 0
  let l := s.fuses.life.val
  if !crnKey v then s.badAccess 0 Reg.CRN_LIFE
  else if t = 3 && l = 2 then
    ({ s with fuses := { s.fuses with owner := if s.ownerKey = 0 then none else some s.ownerKey } } : State).setLife 3
  else if t = 5 && l != 0 && l != 5 then s.setLife 5
  else s.badAccess 0 Reg.CRN_LIFE)
def execCrnLifeDeploy (v : W32) (s : State) : Out := .next (s.pfWrite 0 Reg.CRN_LIFE v (·.writeLife v))
def execCrnLifeScrap (v : W32) (s : State) : Out := .next (s.pfWrite 0 Reg.CRN_LIFE v (·.writeLife v))

/-- Fusing through JTAG: vendor fusing of a Blank part, final test of one in Manufacturing, which revokes slot 0. -/
def execJtagFusing (s : State) : Out :=
  if s.psc.state = .off || !s.pins.pwrgd then .next s
  else if s.fuses.life.val = 0 then .next (s.setLife 1)
  else if s.fuses.life.val = 1 then .next (({ s with fuses := { s.fuses with revoked := s.fuses.revoked ||| 1 } } : State).setLife 2)
  else .next s

end Sys2Proof.Machine
end

