-- ==== Sys2Proof/Machine/Staging.lean ====
section
/-! DEFINITION. Staged firmware update: sessions of the stage bank (R503), activation (R504) and COPY_NOW (R508). -/

namespace Sys2Proof.Machine
open Sys2Proof

/-! ## Sessions (R503) -/

def State.bankState (s : State) : Nat := s.fld Reg.CRN_STG_STATUS 31 29

/-- What BEGIN is refused for, by its cause. -/
def State.stageRefusal (s : State) : Option Nat :=
  if allCtxs.any (fun x => ctxRefuses .sleep (s.ctx x).state) then some 1
  else if s.fld Reg.PSC_STATUS 27 27 = 1 then some 2
  else if s.fld Reg.CRN_LOCK 0 0 = 1 then some 3
  else if s.activation.armed then some 4
  else if s.fuses.life.val = 5 then some 5
  else none

/-- BEGIN: a session opens, and the stage bank is erased. While one is open or checked it is ignored (notes/assumptions/33). -/
def State.stageBegin (s : State) : State :=
  if s.bankState = 1 || s.bankState = 2 then s else
  match s.stageRefusal with
  | some c => s.setFld Reg.CRN_STG_STATUS 23 16 c
  | none =>
    let s := (s.setAct Reg.CRN_STG_STATUS (BitVec.ofNat 32 (2 ^ 29 + 0x2000))).setAct Reg.CRN_STG_VER 0
    { s with stageBank := [], stgBuf := [], stgAt := 0 }

/-- Program the first n words of the staging buffer. Words past the bank's 8 MiB are lost (notes/assumptions/33). -/
def State.stageProgram (s : State) (n : Nat) : State :=
  let ws := s.stgBuf.take n
  let bytes := ws.flatMap (fun w => leBytes w.toNat 4)
  let s : State := { s with
    stageBank := bytes.zipIdx.foldl (fun m b => if s.stgAt + b.2 < 2 ^ 23 then smSet erased m (s.stgAt + b.2) b.1 else m) s.stageBank
    stgBuf := s.stgBuf.drop n, stgAt := s.stgAt + 4 * ws.length }
  s.setFld Reg.CRN_STG_STATUS 15 0 (0x2000 - s.stgBuf.length)

/-- Four image bytes; with no room in the staging buffer they are discarded, and OVERRUN is set. -/
def State.stageData (s : State) (v : W32) : State := s.crownWrite Reg.CRN_STG_DATA v (fun s =>
  if !s.stageOpen then s
  else if s.fld Reg.CRN_STG_STATUS 15 0 = 0 then s.setFld Reg.CRN_STG_STATUS 28 28 1
  else
    let s : State := { s with stgBuf := s.stgBuf ++ [v] }
    s.setFld Reg.CRN_STG_STATUS 15 0 (0x2000 - s.stgBuf.length))

/-- END: the session closes, and the bank is checked once the buffer has been programmed. -/
def State.stageEnd (s : State) : State :=
  if !s.stageOpen then s else (s.stageProgram s.stgBuf.length).setFld Reg.CRN_STG_STATUS 31 29 2

/-- ABORT, with cause HOST. -/
def State.stageAbort (s : State) : State := if s.stageOpen then s.rejectStage 6 else s

/-- A write of CRN_STG_CTL: each bit set acts, the lowest first. -/
def State.writeStgCtl (s : State) (v : W32) : State := s.crownWrite Reg.CRN_STG_CTL v (fun s =>
  let s := if v.getLsbD 0 then s.stageBegin else s
  let s := if v.getLsbD 1 then s.stageEnd else s
  if v.getLsbD 2 then s.stageAbort else s)

def execCrnStgBegin (s : State) : Out := .next (s.pfWrite 0 Reg.CRN_STG_CTL 1 (·.writeStgCtl 1))
def execCrnStgEnd (s : State) : Out := .next (s.pfWrite 0 Reg.CRN_STG_CTL 2 (·.writeStgCtl 2))
def execCrnStgAbort (s : State) : Out := .next (s.pfWrite 0 Reg.CRN_STG_CTL 4 (·.writeStgCtl 4))
def execCrnStgDataWrite (v : W32) (s : State) : Out := .next (s.pfWrite 0 Reg.CRN_STG_DATA v (·.stageData v))

/-- The part programs n words of the staging buffer. -/
def execStagingBufferProgrammed (n : Nat) (s : State) : Out :=
  .next (if s.psc.state != .run || !s.stageOpen then s else s.stageProgram n)

/-- The check of the bank under R494 ends. A session that overran fails; the spec gives no reason for it (notes/assumptions/33). -/
def execStageCheckComplete (sig own : Bool) (s : State) : Out :=
  if s.psc.state != .run || s.bankState != 2 then .next s else
  let m : Image := ⟨s.stageBank, (s.act Reg.CRN_STG_LEN).toNat⟩
  match s.checkImage m sig own with
  | some r => .next (s.rejectStage r)
  | none =>
    if s.fld Reg.CRN_STG_STATUS 28 28 = 1 then
      let f := s.fresh
      .next (f.2.rejectStage (f.1.toNat % 256))
    else
      let s := (s.setFld Reg.CRN_STG_STATUS 31 29 3).setFld Reg.CRN_STG_STATUS 23 16 0
      .next ((s.setAct Reg.CRN_STG_VER (BitVec.ofNat 32 (m.sec * 2 ^ 24 + m.build))).event .crnStaged [])

/-- A write of CRN_LOCK. Setting OWNER ends an open session. -/
def State.writeLock (s : State) (v : W32) : State :=
  let s := s.setAct Reg.CRN_LOCK v
  if v.getLsbD 0 && s.stageOpen then s.rejectStage 3 else s
def execCrnLockWrite (v : W32) (s : State) : Out := .next (s.pfWrite 0 Reg.CRN_LOCK v (·.writeLock v))

/-! ## Activation (R504, R506, R508) -/

/-- What ARM is refused for, by CRN_STATUS.ACT: an open session comes first, since its bank is never VALID
(notes/assumptions/34). -/
def State.armRefusal (s : State) (t : Nat) : Option Nat :=
  if s.stageOpen then some 5
  else if s.bankState != 3 then some 2
  else if s.fld Reg.PTB_STATUS 1 0 != 2 then some 3
  else if t < s.ptb.toNat + 1000000000 then some 4
  else none

/-- ARM; while an activation is armed it is ignored (notes/assumptions/34). -/
def State.arm (s : State) (split : Bool) : State :=
  if s.activation.armed then s else
  let t := s.pair Reg.CRN_ACT_TIME_LO
  match s.armRefusal t with
  | some c => s.setFld Reg.CRN_STATUS 23 20 c
  | none => { s.setFld Reg.CRN_STATUS 23 20 1 with activation := ⟨true, BitVec.ofNat 64 t, split, none⟩ }

/-- A write of CRN_ACT_CTL. -/
def State.writeActCtl (s : State) (v : W32) : State := s.crownWrite Reg.CRN_ACT_CTL v (fun s =>
  if !crnKey v then s.badAccess 0 Reg.CRN_ACT_CTL
  else if v.getLsbD 3 then
    if !s.inWarmUp then s.badAccess 0 Reg.CRN_ACT_CTL
    else if s.bankState = 3 then s.addRec kdRetry (fun r => { r with actPending := true }) else s
  else if v.getLsbD 1 then
    if s.activation.armed && s.activation.begun.isNone then
      { s.setFld Reg.CRN_STATUS 23 20 0 with activation := ⟨false, 0, false, none⟩ } else s
  else if v.getLsbD 0 then s.arm (v.getLsbD 2)
  else s)
def execCrnActArm (v : W32) (s : State) : Out := .next (s.pfWrite 0 Reg.CRN_ACT_CTL v (·.writeActCtl v))
def execCrnActDisarm (v : W32) (s : State) : Out := .next (s.pfWrite 0 Reg.CRN_ACT_CTL v (·.writeActCtl v))
def execCrnActCopyNow (v : W32) (s : State) : Out := .next (s.pfWrite 0 Reg.CRN_ACT_CTL v (·.writeActCtl v))

/-- A context that an activation captures. -/
def State.actCaptures (s : State) (x : CtxId) : Bool :=
  let k := s.ctx x
  k.lastTake.isSome && k.take.isNone && k.restore.isNone
    && (k.state = .ready || k.state = .running || k.state = .stopping || k.state = .suspended)

/-- The PTB reaches the activation time: the ACTIVATE record, and with SPLIT the captures. -/
def execActivationTime (t : W64) (s : State) : Out :=
  if s.psc.state = .off || s.twoCrowns || !s.activation.armed || s.activation.begun.isSome || t.toNat < s.activation.time.toNat then .next s else
  let s := s.atTime t
  let s := (s.addRec kdActivate (fun r => { r with actPending := true })).event .crnActivation []
  let s : State := { s with activation := { s.activation with begun := some s.ptb } }
  if !s.activation.split then .next s else
  let lim := s.fld Reg.CRN_ACT_CFG 15 0
  .next ((allCtxs.filter s.actCaptures).foldl (fun s x => match (s.ctx x).lastTake with
    | some ops => s.beginTake x none ops (fun k => { k with limit := lim })
    | none => s) s)

/-- Every capture of the activation and every drain of a slot sealed with ACT has ended. -/
def State.actDone (s : State) : Bool :=
  allCtxs.all (fun x => match (s.ctx x).take with | some k => k.who.isSome | none => true)
    && allCores.all (fun p => (match (s.area p).drain with | some d => !d.act | none => true)
      && (match (s.area p).again with | some g => !g.2 | none => true))

/-- The reset of an activation, once all has ended or SPLIT_MS has passed. -/
def execActivationReset (t : W64) (s : State) : Out :=
  match s.activation.begun with
  | none => .next s
  | some b =>
    let s := s.atTime t
    if s.actDone || decide (s.fld Reg.CRN_ACT_CFG 15 0 * 1000000 ≤ (s.ptb - b).toNat) then .next s.beginWarm else .next s

end Sys2Proof.Machine
end

