-- ==== Sys2Proof/Machine/StartSeq.lean ====
section
/-! DEFINITION. The start sequence (R495) up to the image: power good, and the image stage with its copy (R505), its checks
(R494) and its commits (R53). -/

namespace Sys2Proof.Machine
open Sys2Proof

/-- The start waits for this stage to end. -/
def State.atStage (s : State) (k : Nat) : Bool :=
  s.psc.state = .run && s.fld Reg.GLB_STATUS 25 25 = 0 && !s.start.failed && !s.resetDue && s.fld Reg.GLB_STATUS 3 0 = k

/-- A stage completes: the next one is in progress. -/
def State.endStage (s : State) (k : Nat) : State :=
  { s.setFld Reg.GLB_STATUS 3 0 (k + 1) with start := { s.start with done := k } }

/-- Stage 1: the input in units of 10 mV, and whether every converter and power die regulates. The check of the rails comes first
(notes/assumptions/35). -/
def execPowerGoodStage (vin : BitVec 16) (rails : Bool) (s : State) : Out :=
  if !(s.atStage 0 || s.atStage 1) || !s.start.cold || s.start.done != 0 then .next s else
  let s := (s.setFld Reg.GLB_STATUS 3 0 1).setFld Reg.GLB_STATUS 31 29 s.fuses.life
  if !rails then .next (s.falseStart rsPwrRail false false)
  else if vin.toNat < 4000 then .next (s.falseStart rsPwrInput false false)
  else .next (s.endStage 1)

/-! ## Stage 3 -/

/-- The active image. -/
def State.image (s : State) : Image := ⟨s.activeImage, 2 ^ 23⟩

/-- A RETURN_AUTH section at the activating start (R501, R502): Field-Return. -/
def State.fieldReturn (s : State) : State :=
  if (s.fuses.life.val = 2 || s.fuses.life.val = 3) && s.image.returnAuth then
    ({ s with
      photoSector := [], fuses := { s.fuses with ownerRevoked := true }
      areas := s.areas.map (fun a => { a with fslots := Vector.replicate 2 ⟨false, 0, 0, 0⟩, fnew := 0 }) } : State).setLife 4
  else s

/-- The SET sections go to the shadows, in list order. -/
def State.loadSets (s : State) : State :=
  let m := s.image
  (m.table.filter (fun e => 0x10 ≤ e.type && e.type ≤ 0x1F)).foldl (fun s e => (m.setList e).foldl (fun s w =>
    s.setShad w.1 ((s.shad w.1 &&& ~~~(rwsMask w.1)) ||| (w.2 &&& rwsMask w.1))) s) s

/-- The commits of sets n, n + 1, … (R53); none where one is refused. -/
def State.commitSets (s : State) : List Nat → Option State
  | [] => some s
  | n :: t => match s.commitStart n with | some s => s.commitSets t | none => none

/-- The image is read, checked and applied. -/
def State.startImage (s : State) (sig own : Bool) : State :=
  match s.checkImage s.image sig own with
  | some r => s.falseStart r false false
  | none =>
    let m := s.image
    let s := (s.setFld Reg.GLB_FW 31 24 m.sec).setFld Reg.GLB_FW 23 0 m.build
    match s.loadSets.commitSets (List.range 16) with
    | none => s.falseStart rsImgCommit false false
    | some s =>
      let full := s.start.cold && m.full
      let s := (s.setFld Reg.GNT_STATUS 31 30 1).setFld Reg.GNT_STATUS 29 28 (if full then 1 else 0)
      ({ s with start := { s.start with full := full } } : State).endStage 3

/-- Stage 3 (R494, R495, R505). Of a copy that power cuts short, the bytes programmed stay; one that does not verify leaves the
active image to the next copy (notes/assumptions/36). -/
def execImageStage (w : ImageWorld) (s : State) : Out :=
  if !s.atStage 3 then .next s
  else if !w.answers then .next (s.falseStart rsFlashIo false false)
  else
    let s := if w.slow then s.event .crnFlashSlow [] else s
    if !s.start.copy then .next (s.startImage w.sig w.own)
    else if (s.checkImage ⟨s.stageBank, 2 ^ 23⟩ w.stageSig w.stageOwn).isSome then .next (s.falseStart rsImgCopy true false)
    else
      let s := s.addRec kdCopy (fun r => { r with copyIntent := true, actPending := true })
      match w.cut with
      | some n =>
        let s := ({ s with activeImage := s.stageBank.filter (fun b => b.1 < n) } : State).powerOff true
        .next { s with pins := { s.pins with pwrgd := false } }
      | none =>
        if !w.copyOk then .next (({ s with activeImage := [] } : State).falseStart rsImgCopy false false)
        else
          let s : State := { s with activeImage := s.stageBank }
          let s := s.addRec kdCopied (fun r => { r with copyIntent := false, actPending := false })
          let s := (s.setFld Reg.GLB_SR_FLAGS 1 1 1).fieldReturn
          .next (s.startImage w.sig w.own)

end Sys2Proof.Machine
end

