-- ==== Sys2Proof/Machine/Gauntlet.lean ====
section
/-! DEFINITION. The gauntlet (chapter 18): spare elements and fuses, the test of a unit, the start's run (R521) and runs in service
(R522, R523). -/

namespace Sys2Proof.Machine
open Sys2Proof

/-! ## Spares and fuses (R517 to R519) -/

/-- GNT_SPARES of a core. -/
def State.sparesWord (s : State) (c : CoreId) : W32 :=
  let w := withField (withField 0 31 28 (8 - (s.usedCols c).length)) 27 15 (4096 - s.allUsedRows c)
  withField (withField w 14 4 (1032 - ((s.fusedCols c).length + s.allFusedRows c))) 3 0 (8 - (s.spare c).stat)

/-- Move n of m to the fuses of a key. -/
def addRows (m : SMap Nat) (b n : Nat) : SMap Nat := smSet noRows m b (smGet noRows m b + n)

/-- Blow soft repairs of a core into free fuse entries: columns first, then rows by bank. One that finds no entry stays soft, and
raises GNT_FUSE_FULL once. -/
def State.blowRepairs (s : State) (c : CoreId) : State :=
  let z := s.spare c
  let s := s.modSpare c (fun z => { z with fcols := z.fcols ++ z.cols, cols := [] })
  let s := z.rows.foldl (fun s br =>
    let n := min br.2 (1024 - s.allFusedRows c)
    s.modSpare c (fun z => { z with frows := addRows z.frows br.1 n, rows := smSet noRows z.rows br.1 (br.2 - n) })) s
  if (s.spare c).rows.isEmpty || (s.spare c).full then s
  else (s.modSpare c (fun z => { z with full := true })).coreEvent .gntFuseFull c none []

/-- Repairs are blown as they are applied (R518). -/
def State.fuseAsApplied (s : State) : Bool := s.fuses.life.val = 1 || s.fuses.life.val = 4

/-! ## Testing a unit (R510, R511, R514, R516, R517, R520) -/

inductive UnitKind where
  | core (c : CoreId) | stack (m : PortId) | port (p : PortId) | plain
  deriving DecidableEq, Repr

def unitKind (u : Nat) : UnitKind :=
  if u < 8 then .core (Fin.ofNat 8 u) else if u < 24 then .stack (Fin.ofNat 16 (u - 8))
  else if u < 40 then .port (Fin.ofNat 16 (u - 24)) else .plain

def rsPass : Nat := 1
def rsRepaired : Nat := 2
def rsUnusable : Nat := 3
def rsFail : Nat := 4
def rsSkipped : Nat := 5
def rsForced : Nat := 6
def rsAborted : Nat := 7

/-- The result of a unit, with its cause, the failing test and the spare elements in use. -/
def State.setResult (s : State) (u result cause kind test spares : Nat) : State :=
  s.setAct (Reg.GNT_RESULT u) (withField (withField (withField (withField (withField 0 31 28 result) 27 24 cause) 23 22 kind) 21 16 test) 15 0 spares)

/-- A unit fails: a privileged one is unusable. -/
def State.failUnit (s : State) (u cause kind test spares : Nat) : State :=
  match unitKind u with
  | .plain => s.setResult u rsFail cause kind test spares
  | _ => (s.setResult u rsUnusable cause kind test spares).event .gntUnusable [.small 6 u, .small 4 cause]

/-- A failure that no spare element repairs, other than LOGIC. The spec names no test for it: a free value
(notes/assumptions/37). -/
def State.failSpare (s : State) (u cause kind spares : Nat) : State :=
  let f := s.fresh
  f.2.failUnit u cause kind (f.1.toNat % 64) spares

/-- A spare element is applied: its unit and its kind, 0 column, 1 store row, 2 statistics row, 3 lane (notes/assumptions/37). -/
def State.noteRepairs (s : State) (u kind : Nat) : Nat → State
  | 0 => s
  | n + 1 => (s.event .gntRepaired [.small 6 u, .small 8 kind]).noteRepairs u kind n

/-- The march of a core: failing columns, store rows and statistics rows. -/
def State.testCore (s : State) (c : CoreId) (g : GntUnit) (kind : Nat) : State :=
  let u := c.val
  let groups := g.cols.eraseDups.map (fun k => k / 128 % 8)
  let banks := (g.rows.map (·.1)).eraseDups
  let need (b : Nat) : Nat := (g.rows.filter (fun r => r.1 = b)).eraseDups.length
  if groups.eraseDups.length != groups.length || groups.any (fun k => (s.usedCols c).contains k) then s.failSpare u 2 kind (s.coreSpares c)
  else if banks.any (fun b => 8 < s.usedRows c b + need b) then s.failSpare u 3 kind (s.coreSpares c)
  else if 8 < (s.spare c).stat + g.stat then s.failSpare u 4 kind (s.coreSpares c)
  else
    let s := s.modSpare c (fun z => { z with
      cols := z.cols ++ groups, rows := banks.foldl (fun m b => addRows m b (need b)) z.rows, stat := z.stat + g.stat })
    let rows := (banks.map need).sum
    let s := ((s.noteRepairs u 0 groups.length).noteRepairs u 1 rows).noteRepairs u 2 g.stat
    let s := if s.fuseAsApplied then s.blowRepairs c else s
    s.setResult u (if groups.length + rows + g.stat = 0 then rsPass else rsRepaired) 0 kind 0 (s.coreSpares c)

/-- The wavelengths that a direction of a port loses, beyond the one of each fibre that its spare lane replaces (R320, R321). -/
def lostWaves (ls : List (Fin 8 × Fin 8)) : Nat :=
  ((List.range 8).flatMap (fun f => ((ls.filter (fun l => l.1.val = f)).map (·.2)).eraseDups.drop 1)).eraseDups.length
/-- The fibres whose spare lane is in use. -/
def sparedFibres (ls : List (Fin 8 × Fin 8)) : Nat := (ls.map (·.1)).eraseDups.length

/-- The optical loopback of a port: a failing lane's wavelength moves onto the spare lane of its fibre (R320). -/
def State.testPort (s : State) (u : Nat) (g : GntUnit) (kind : Nat) : State :=
  let dir (tx : Bool) : List (Fin 8 × Fin 8) := (g.lanes.filter (fun l => l.1 = tx)).map (·.2)
  let used := sparedFibres (dir true) + sparedFibres (dir false)
  if g.dark then s.setResult u rsSkipped 7 kind 0 0
  else if 4 < lostWaves (dir true) || 4 < lostWaves (dir false) then s.failSpare u 6 kind used
  else
    let p : PortId := Fin.ofNat 16 (u - 24)
    let bits (tx : Bool) : Nat := (((dir tx).map (·.1.val)).eraseDups.map (2 ^ ·)).sum
    let s := (s.setFld (Reg.LNK_STATUS p) 15 8 (bits true)).setFld (Reg.LNK_STATUS p) 7 0 (bits false)
    (s.noteRepairs u 3 used).setResult u (if used = 0 then rsPass else rsRepaired) 0 kind 0 used

/-- Whether a unit has a PHY whose loopback is tested: memory stacks, fabric dies, H and U. -/
def hasPhy (u : Nat) : Bool := (8 ≤ u && u < 24) || (40 ≤ u && u < 48) || u = 58 || u = 59

/-- The bits of GNT_FORCE0 and GNT_FORCE1. -/
def State.forced (s : State) (u : Nat) : Bool :=
  match unitKind u with
  | .core c => bit (s.fld Reg.GNT_FORCE0 23 16) c
  | .stack m => bit (s.fld Reg.GNT_FORCE0 15 0) m
  | .port p => bit (s.fld Reg.GNT_FORCE1 15 0) p
  | .plain => false

/-- A run of one unit. -/
def State.testUnit (s : State) (u : Nat) (g : GntUnit) (kind : Nat) : State :=
  let spares := match unitKind u with | .core c => s.coreSpares c | _ => 0
  if s.forced u then (s.setResult u rsForced 0 0 0 spares).event .gntUnusable [.small 6 u, .small 4 0]
  else if g.hot && u < 8 then s.setResult u rsAborted 8 kind 0 spares
  else match g.logic with
  | some t => s.failUnit u 1 kind t.toNat spares
  | none =>
    if g.phy && hasPhy u then s.failSpare u 5 kind spares
    else match unitKind u with
    | .core c => s.testCore c g kind
    | .port _ => s.testPort u g kind
    | _ => s.setResult u rsPass 0 kind 0 0

def State.result (s : State) (u : Nat) : Nat := s.fld (Reg.GNT_RESULT u) 31 28
/-- A unit that this start marks unusable. -/
def State.unusable (s : State) (u : Nat) : Bool := s.result u = rsUnusable || s.result u = rsForced

/-! ## The start's run (R521) -/

/-- The bits of the usable ones of n units from u. -/
def State.usableBits (s : State) (u n : Nat) : Nat := ((List.range n).map (fun i => if s.unusable (u + i) then 0 else 2 ^ i)).sum

/-- Partitions that name an unusable core lose VALID in both copies of set 2. -/
def State.dropParts (s : State) : State :=
  (allCores.filter (fun (p : CoreId) => s.fld (Reg.SCH_PCFG p) 31 31 = 1
      && allCores.any (fun (c : CoreId) => bit (s.fld (Reg.SCH_PCFG p) 23 16) c && s.unusable c))).foldl (fun s (p : CoreId) =>
    let s := s.setFld (Reg.SCH_PCFG p) 31 31 0
    (s.setShad (Reg.SCH_PCFG p) (withField (s.shad (Reg.SCH_PCFG p)) 31 31 0)).event .gntPartitionDropped [.small 3 p]) s

/-- A core with fewer than 2 column spares or 512 store-row spares left (R519). -/
def State.spareLow (s : State) (c : CoreId) : State :=
  if 6 < (s.usedCols c).length || 3584 < s.allUsedRows c then s.coreEvent .gntSpareLow c none [] else s

/-- Stage 4, with what the run finds in each unit, by its index. -/
def execGauntletStage (us : List GntUnit) (s : State) : Out :=
  if !s.atStage 4 then .next s else
  let kind := if s.start.full then 1 else 0
  let s := us.zipIdx.foldl (fun s g => if g.2 < 60 then s.testUnit g.2 g.1 kind else s) s
  let s := ((s.setFld Reg.GLB_SR_HDR 5 4 (kind + 1)).setFld Reg.GNT_STATUS 31 30 0).event .gntDone [.small 2 kind]
  let s := s.setAct Reg.GLB_SR_UNITS0 (BitVec.ofNat 32 (s.usableBits 0 8 * 65536 + s.usableBits 8 16))
  let s := s.setFld Reg.GLB_SR_UNITS1 15 0 (s.usableBits 24 16)
  let s := allPorts.foldl (fun s (m : PortId) => s.setFld (Reg.MEM_STATUS m) 29 29 (if s.unusable (8 + m) then 1 else 0)) s
  let s := s.dropParts
  if (List.range 20).any (fun i => s.result (40 + i) = rsFail) then .next (s.falseStart rsGntFail false false)
  else if s.usableBits 0 8 = 0 || s.usableBits 8 16 = 0 then .next (s.falseStart rsGntNoCore false false)
  else .next (s.endStage 4)

/-! ## Runs in service (R522, R523) -/

/-- A run of a unit is permitted in service. -/
def State.mayTest (s : State) (u : Nat) (full : Bool) : Bool :=
  if s.fuses.life.val = 1 || s.fuses.life.val = 4 then u < 60 && s.inWarmUp
  else (s.fuses.life.val = 2 || s.fuses.life.val = 3) && !full && !s.inWarmUp && match unitKind u with
    | .core c => (s.partOf c).isNone
    | .port p => s.portState p = stDisabled
    | _ => false

/-- A write of GNT_CTL. -/
def State.writeGntCtl (s : State) (v : W32) : State :=
  let u := fieldOf v 5 0
  let kind := fieldOf v 30 30
  if !v.getLsbD 31 then s
  else if s.fld Reg.GNT_STATUS 31 30 != 0 then s.badAccess 0 Reg.GNT_CTL
  else if s.setPending 0 then { s with posted := s.posted ++ [(0, Reg.GNT_CTL, v)] }
  else if s.mayTest u (kind = 1) then s.setAct Reg.GNT_STATUS (withField (withField (withField 0 31 30 2) 29 28 kind) 27 22 u)
  else
    let s := if u < 60 then (s.setFld (Reg.GNT_RESULT u) 31 28 rsAborted).setFld (Reg.GNT_RESULT u) 27 24 9 else s
    s.event .gntDone [.small 2 kind, .small 6 u, .small 4 rsAborted]
def execGntStart (v : W32) (s : State) : Out := .next (s.pfWrite 0 Reg.GNT_CTL v (·.writeGntCtl v))

/-- The BAR0 pages of a unit: the first offset and the length. -/
def unitPages (u : Nat) : Nat × Nat :=
  if u < 8 then (0x1000000 + u * 0x200000, 0x200000)
  else if u < 24 then (0x2000000 + (u - 8) * 0x40000, 0x20000)
  else if u < 40 then (0x2400000 + (u - 24) * 0x40000, 0x10000)
  else if u < 48 then (0x2800000 + (u - 40) * 0x80000, 0x20000)
  else (0, 0)

/-- A unit is initialised after its test (R515): its registers at their cold values but for the RWS fields, and its memories
zero. A port stays DISABLED, since R523 lets RETRAIN take effect once the run ends (notes/assumptions/38). -/
def State.reinit (s : State) (u : Nat) : State :=
  let r := unitPages u
  let mine (k : Nat) : Bool := r.1 ≤ k && k < r.1 + r.2
  let s := (s.regs.filter (fun kv => mine kv.1)).foldl (fun s kv =>
    s.setAct kv.1 ((regReset kv.1 &&& ~~~(rwsMask kv.1)) ||| (kv.2 &&& rwsMask kv.1))) s
  match unitKind u with
  | .core c => { s with cores := vset s.cores c Core.reset, tlbCore := vset s.tlbCore c [], watch := vset s.watch c [] }
  | .stack m => { s with buf := s.buf.filter (fun e => (s.cell (e.line * 256)).stack != m) }
  | .port p => (s.modPort p (fun _ => Port.reset)).setPortState p stDisabled
  | .plain => s

/-- A run in service ends. GLB_SR_UNITS0 does not change until the next start (R53). -/
def execGauntletRunComplete (g : GntUnit) (s : State) : Out :=
  if s.fld Reg.GNT_STATUS 31 30 != 2 then .next s else
  let u := s.fld Reg.GNT_STATUS 27 22
  let kind := s.fld Reg.GNT_STATUS 29 28
  let s := s.testUnit u g kind
  let s := (s.reinit u).setAct Reg.GNT_STATUS (withField 0 29 28 kind)
  let s := s.event .gntDone [.small 2 kind, .small 6 u, .small 4 (s.result u)]
  if !s.retrainDue then .next s else
  let s : State := { s with retrainDue := false }
  .next (match unitKind u with | .port p => s.retrain p | _ => s)

end Sys2Proof.Machine
end

