-- ==== Sys2Proof/Machine/StartUnits.lean ====
section
/-! DEFINITION. The start sequence (R495) from the HBM stage (R255, R272, R273, R392, R419) to the record (R55, R507). -/

namespace Sys2Proof.Machine
open Sys2Proof

/-! ## Stage 5 -/

/-- Frames that the repair log holds for a channel (R272). -/
def State.loggedFrames (s : State) (ch : Nat) : Nat :=
  (s.repairLog.filter (fun r => match r with | .frame c _ => c = ch | _ => false)).length

/-- Steps 1 and 2 of R272: channels that fail training, and those with 8 frames retired, are mapped out for good, each with its
event the first time. -/
def State.mapOut (s : State) (failed : List (Fin 512)) : State :=
  let new := (List.range 512).filter (fun ch => !s.chanOut.contains ch && !s.unusable (8 + ch / 32)
    && (failed.any (fun f => f.val = ch) || 8 ≤ s.loggedFrames ch))
  new.foldl (fun s ch => ({ s with chanOut := s.chanOut ++ [ch] } : State).event .memChannelOut [.small 4 (ch / 32), .small 5 (ch % 32)]) s

/-- The speed at which each usable stack trains (R255). -/
def State.trainStacks (s : State) (slow : List (Fin 16)) : State :=
  allPorts.foldl (fun s (m : PortId) =>
    if s.unusable (8 + m) then s else
    let low := slow.contains m
    let s := (s.setFld (Reg.MEM_STATUS m) 31 30 (if s.image.slowHbm || low then 1 else 2)).setFld (Reg.MEM_STATUS m) 28 28 1
    if low && !s.image.slowHbm then s.event .memSpeedFallback [.small 4 m] else s) s

/-- Slots of mapped-out channels and of unusable stacks, ascending (R258). -/
def State.deadSlots (s : State) : List Nat :=
  (List.range 1024).filter (fun t => s.unusable (8 + t / 64) || s.chanOut.contains (t / 2))

/-- The cell of a row whose column bits are zero (the inverse of R256). -/
def cellOfRow (key : Nat) : Cell4 :=
  let row := key % 2 ^ 14
  ⟨key / 2 ^ 20, row * 256 + key / 2 ^ 18 % 4 * 64 + (key / 2 ^ 14 % 4 ^^^ row / 64 % 4) * 16 + (key / 2 ^ 16 % 4 ^^^ row / 16 % 4) * 4⟩

/-- Repairs of rows that the log records, by a test of the row's key. -/
def State.logged (s : State) (p : Nat → Bool) : Nat := (s.repairLog.filter (fun r => match r with | .row k _ => p k | _ => false)).length

/-- Step 3: a row whose soft repair is in the log is repaired for good; a repair made while the log was full was soft only and does
not reach this start (R270, R272): its row has what the log says, and its spare is free. -/
def State.carryRepairs (s : State) : State :=
  let rows := s.rows.filterMap (fun kv =>
    if kv.2.st != .soft then some kv
    else if s.logged (· = kv.1) != 0 then some (kv.1, { kv.2 with st := .hard, copying := false })
    else (let r := rowAt kv.1; if kv.2.ce = r.ce then none else some (kv.1, { r with ce := kv.2.ce })))
  let spares := s.spares.filterMap (fun kv =>
    let n := s.logged (fun k => k / 2 ^ 14 = kv.1)
    if n = 0 then none else some (kv.1, n))
  { s with rows := rows, spares := spares }

/-- Steps 3 to 5: rows SOFT become HARD; n_d and MEM_LIMIT; the retired list holds the frames of RETIRED rows on live slots. A frame
on the list before is neither logged nor raised again (notes/assumptions/39). -/
def State.place (s : State) : State :=
  let s := s.carryRepairs
  let s : State := { s with dead := s.deadSlots }
  let s := s.setPair Reg.MEM_LIMIT_LO ((1024 - s.dead.length) * 2 ^ 30)
  let held := (s.rows.filter (fun kv => kv.2.st = .retired && !s.dead.contains (kv.1 / 2 ^ 20))).map (fun kv =>
    ((cellOfRow kv.1).chan, rowFrames s.dead (cellOfRow kv.1)))
  let keep := s.retired.filter (fun f => held.any (fun h => h.2.contains f))
  held.foldl (fun s h => h.2.foldl (fun s f => s.retireFrame h.1 f) s) ({ s with retired := keep } : State)

/-- Step 6: memory holds zeros, and every buffer is empty (R259). -/
def State.zeroHbm (s : State) : State := { s with dram := [], buf := [], poisoned := [] }

/-- What the start reports of the HBM (R259). -/
def State.showHbm (s : State) : State :=
  let s := allPorts.foldl (fun s (m : PortId) => s.setAct (Reg.MEM_CHAN_OUT m)
    (BitVec.ofNat 32 ((List.range 32).map (fun c => if s.chanOut.contains (m.val * 32 + c) then 2 ^ c else 0)).sum)) s
  let s := s.setAct Reg.GLB_SR_HBM (BitVec.ofNat 32 ((1024 - s.dead.length) * 1024 - 2 * s.retired.length))
  s.setFld Reg.GLB_SR_REPAIRS 31 16 (s.dead.filter (fun t => !s.unusable (8 + t / 64))).length

/-- INBOUND windows that extend beyond MEM_LIMIT are turned OFF in both copies (R273). The record holds the size as the register
does, in 64 KiB units (notes/assumptions/85). -/
def State.dropWindows (s : State) : State :=
  forIdx 64 (fun i => s.memWinKind i = 5 && decide (memLimit s < s.winBase i + s.winSize i)) (fun s i =>
    let s := s.setFld (Reg.MEM_WIN_ATTR i) 31 29 0
    let s := s.setShad (Reg.MEM_WIN_ATTR i) (withField (s.shad (Reg.MEM_WIN_ATTR i)) 31 29 0)
    s.event .memWindowDropped [.small 6 i, .word (s.winBase i), .small 32 (s.winSize i / 65536)]) s

/-- A field written in both copies. -/
def State.setBoth (s : State) (off hi lo v : Nat) : State :=
  (s.setFld off hi lo v).setShad off (withField (s.shad off) hi lo v)

/-- A buddy region that extends beyond MEM_LIMIT is dropped (R419). -/
def State.dropBuddy (s : State) : State :=
  let base := s.fld Reg.SPL_BUDDY_BASE 15 0
  let gib := s.fld Reg.SPL_CFG 15 0
  if (base + gib) * 2 ^ 30 ≤ memLimit s then s else
  let s := allCores.foldl (fun s (p : CoreId) => s.setBoth (Reg.SPL_AREA p) 15 0 0) (s.setBoth Reg.SPL_CFG 15 0 0)
  s.event .splBuddyDropped [.small 16 base, .small 16 gib]

/-- The split index goes to the area registers (R490). -/
def State.loadIndex (s : State) : State :=
  allCores.foldl (fun s (p : CoreId) =>
    let z := vget (s.area p).fslots
    ((s.setFld (Reg.SPL_AREA_FLAGS p) 2 2 (if (z 0).sealed then 1 else 0)).setFld (Reg.SPL_AREA_FLAGS p) 3 3 (if (z 1).sealed then 1 else 0)).showFlash p) s

/-- The SSD (R392, R393, R534). -/
def State.startSsd (s : State) : Option SsdWorld → State
  | none => ({ s with pins := { s.pins with flpPerst := false } } : State).event .hifFlashDown []
  | some d =>
    let w := withField (withField (withField (withField 0 31 31 1) 29 26 d.speed.toNat) 25 22 d.width.toNat) 21 21 (if d.lba4k then 1 else 0)
    let s := (s.setAct Reg.FLP_STATUS w).setPair Reg.FLP_LBAS_LO d.lbas.toNat
    { s with pins := { s.pins with flpPerst := false } }

/-- Mapped ports that are usable begin to train at the end of stage 5, where REFCLK_LINK is valid (R31, R333, R521). -/
def State.mappedPorts (s : State) : List PortId := allPorts.filter (fun (p : PortId) => (s.portDim p).isSome && !s.unusable (24 + p))
def State.beginLinks (s : State) : State :=
  if s.pins.linkRef then s.mappedPorts.foldl State.startTraining s else s.setFld Reg.GLB_SR_FLAGS 2 2 1

/-- Stage 5. -/
def execHbmStage (w : HbmWorld) (s : State) : Out :=
  if !s.atStage 5 then .next s else
  let s := ((s.trainStacks w.slow).mapOut w.failed).place
  if s.dead.length = 1024 then .next (s.showHbm.falseStart rsHbmNone false false)
  else
    let s := s.zeroHbm
    if !w.initOk then .next (s.showHbm.falseStart rsHbmInit false false)
    else .next (((s.showHbm.dropWindows.dropBuddy.loadIndex.startSsd w.ssd).endStage 5).beginLinks)

/-! ## Stages 6 to 8 -/

/-- Stage 6: every mapped port is UP or in MISMATCH, or has trained for TRAIN_MS. -/
def execLinkStage (t : W64) (s : State) : Out :=
  if !s.atStage 6 then .next s
  else if !s.pins.linkRef || s.mappedPorts.all (fun p =>
      s.portState p = stUp || s.portState p = stMismatch || (s.port p).trainFail || s.trainedFor p t) then .next ((s.atTime t).endStage 6)
  else .next s

/-- Stage 7, with the cores whose sequencers reached IDLE within 10 ms. -/
def execCoreReleaseStage (idle : BitVec 8) (s : State) : Out :=
  if !s.atStage 7 then .next s
  else if s.fld Reg.GLB_SR_UNITS0 23 16 &&& idle.toNat = 0 then .next (s.falseStart rsCoreRelease false false)
  else
    let up := (allPorts.map (fun (p : PortId) => if s.portState p = stUp then 2 ^ p.val else 0)).sum
    .next ((s.setFld Reg.GLB_SR_UNITS1 31 16 up).endStage 7)

/-- Raise the floor after a good start (R507). -/
def State.raiseFloor (s : State) : State :=
  if !s.image.raise || s.image.sec ≤ s.floor || 64 ≤ s.floor then s else
  let s : State := { s with fuses := { s.fuses with blown := s.fuses.blown + (min s.image.sec 64 - s.floor) } }
  s.event .crnFloorRaised [.small 7 s.floor]

/-- Soft repairs of a good start go to the fuses (R518). -/
def State.fuseRepairs (s : State) : State :=
  if s.fld Reg.GNT_CFG 0 0 = 1 && (s.fuses.life.val = 2 || s.fuses.life.val = 3) then allCores.foldl State.blowRepairs s else s

/-- Stage 8. -/
def execRecordStage (s : State) : Out :=
  if !s.atStage 8 then .next s else
  let s := allCores.foldl State.spareLow (s.publishRecord 0 0 8)
  let s := s.addRec kdGood (fun r => { r with consec := 0, copyIntent := false, actPending := false, stage := 8 })
  let s : State := { s with start := { s.start with done := 8 } }
  .next s.raiseFloor.fuseRepairs

end Sys2Proof.Machine
end

