-- ==== Sys2Proof/Machine/Pins.lean ====
section
/-! DEFINITION. Supplies and sideband signals (R529, R530, R532 to R537), and the exit of the PCIe link from L1 (R481). -/

namespace Sys2Proof.Machine
open Sys2Proof

def State.modPins (s : State) (f : Pins → Pins) : State := { s with pins := f s.pins }

/-- VAUX33 comes up: the AON domain starts, and the straps are sampled. -/
def execVaux33Apply (straps : Fin 4) (s : State) : Out :=
  if s.pins.vaux then .next s else .next (s.modPins (fun p => { p with vaux := true, straps := straps }))

/-- VAUX33 goes: the AON domain and the tripped flag are cleared, and the part drives nothing. -/
def execVaux33Remove (s : State) : Out :=
  if !s.pins.vaux then .next s else .next ((s.powerOff false).modPins (fun p => { p with vaux := false, thermtrip := false }))

/-- PWRGD rises: a cold start, where VAUX33 is present. -/
def execPwrgdRise (s : State) : Out :=
  if s.pins.pwrgd then .next s else
  let s := s.modPins (fun p => { p with pwrgd := true })
  .next (if s.psc.state = .off && s.pins.vaux && !s.pins.thermtrip then s.coldStart else s)

/-- PWRGD falls (R534, R535): NOTICE_RESET on every port that carries flits, as at a warm reset, and then no power, without a photo.
In Off it releases THERMTRIP_N. -/
def execPwrgdFall (s : State) : Out :=
  if !s.pins.pwrgd then .next s else
  let t := s.modPins (fun p => { p with pwrgd := false, thermtrip := false })
  if s.psc.state = .off then .next t else
  .next { t.powerOff true with ports := Vector.ofFn (fun (p : PortId) =>
    if s.timed p then { Port.reset with unseq := List.replicate 16 (.notice 1 s.ptb) } else Port.reset) }

/-- The identity and the SR-IOV capability that the host port shows (R373); its other features are fixed too, but for what
`Pcie` holds. -/
def pcieVendor : BitVec 16 := 0x1D7A
def pcieDevice (f : FnId) : BitVec 16 := if f.val = 0 then 0x9100 else 0x9101
def pcieClass : BitVec 24 := 0x120000
def totalVfs : Nat := 8
def firstVfOffset : Nat := 1
def vfStride : Nat := 1
/-- The routing number of a VF relative to the PF's (R373). -/
def vfRouting (v : Nat) : Nat := firstVfOffset + (v - 1) * vfStride

/-- PERST_N is asserted (R534, R536, R537). The fundamental reset takes the link down, and NumVFs with the configuration space
(notes/assumptions/40). -/
def execPerstNAssert (s : State) : Out :=
  if s.pins.perst then .next s else
  let s := s.modPins (fun p => { p with perst := true })
  if s.psc.state = .off then .next s else
  let s := if s.psc.entry.isSome then s.abortEntry rfWake 0 else if s.psc.state = .deep then s.wakeBy true else s
  .next ((s.flr 0).setAct Reg.HIF_STATUS 0)

/-- PERST_N is deasserted: the host port trains, with the speed, width and mode it reaches. -/
def execPerstNDeassert (speed : BitVec 4) (width : BitVec 5) (flit : Bool) (s : State) : Out :=
  if !s.pins.perst then .next s else
  let s := s.modPins (fun p => { p with perst := false })
  if s.psc.state = .off then .next s else
  .next (((s.setFld Reg.HIF_STATUS 31 28 speed.toNat).setFld Reg.HIF_STATUS 27 23 width.toNat).setFld Reg.HIF_STATUS 22 22 (if flit then 1 else 0))

/-- The host takes the link out of L1: a wake level. -/
def execPcieL1Exit (s : State) : Out := .next (if s.psc.state = .off then s else s.wakeBy true)

/-- STATUS[2:0] (R533; notes/assumptions/88); none while high impedance. -/
def State.statusPins (s : State) : Option Nat :=
  if s.psc.state = .off || !s.pins.pwrgd then none
  else if s.psc.state = .sleep then some 3
  else if s.psc.state = .deep then some 4
  else if s.inWarmUp then some 5
  else if s.inStart || s.start.failed || s.fld Reg.GLB_STATUS 3 0 = 0 then some 1
  else if s.oos then some 6
  else some 2

/-- XSPI_RESET_N is driven high (R534): in every state but Off. That it is low for 10 µs at the start of stage 2 is timing. -/
def State.xspiResetN (s : State) : Bool := s.psc.state != .off

/-- FLP_REFCLK runs: from stage 5 until Deep sleep or Off (R534). -/
def State.flpRefclk (s : State) : Bool := !s.pins.flpPerst

/-- IDCODE of the test access port: version, part number, manufacturer and bit 0 (R541). -/
def jtagIdcode : W32 := 0x2910076B

/-- The test access port is available (R541). -/
def State.jtagOn (s : State) : Bool := s.pins.pwrgd && s.psc.state != .off && s.fuses.life.val != 5

/-- What the life-cycle state lets the test access port do (R500): everything; the four public instructions; or nothing. -/
inductive JtagReach where
  | full | boundary | none
  deriving DecidableEq, Repr

def jtagReach : Nat → JtagReach
  | 0 | 1 | 4 => .full
  | 2 | 3 => .boundary
  | _ => .none

/-- EXTEST and SAMPLE/PRELOAD act; at any other time they act as BYPASS (R541). -/
def State.jtagBoundary (s : State) : Bool := s.jtagOn && s.inWarmUp

/-- ALERT_N is asserted (R397, R534): not before stage 3 ends. -/
def State.alertPin (s : State) : Bool :=
  s.psc.state != .off && (!s.alerts.isEmpty || s.act Reg.SMB_ALERT_DROP != 0)
    && (s.fld Reg.GLB_STATUS 25 25 = 1 || 3 < s.fld Reg.GLB_STATUS 3 0)

end Sys2Proof.Machine
end

