-- ==== Sys2Proof/Machine/Views.lean ====
section
/-! DEFINITION. What the registers of BAR0 read as: those whose value follows from the rest of the state, and the others from their
active and shadow copies (R44, R46). -/

namespace Sys2Proof.Machine
open Sys2Proof

/-- A register word made of fields: high bit, low bit, value. -/
def fieldsWord (fs : List (Nat × Nat × Nat)) : W32 := fs.foldl (fun w f => withField w f.1 f.2.1 f.2.2) 0

def boolNat (b : Bool) : Nat := if b then 1 else 0
/-- The bits of the indices below n that a test holds for. -/
def bitsWhere (n : Nat) (p : Nat → Bool) : Nat := ((List.range n).map (fun i => if p i then 2 ^ i else 0)).sum
def lowWord (v : Nat) : W32 := BitVec.ofNat 32 (v % 2 ^ 32)
def highWord (v : Nat) : W32 := BitVec.ofNat 32 (v / 2 ^ 32 % 2 ^ 32)

/-- Where the latch of a HI word is kept in `regs`: at the offset of its mirror, where no register lies. -/
def latchOf (hi : Nat) : Nat := hi + 0x8000

/-! ## Package blocks -/

/-- CLK_RUN0 and CLK_RUN1 (R23, R37). The stage at which a domain starts is not given (notes/assumptions/41). -/
def State.mclkOn (s : State) (m : Nat) : Bool := s.psc.state = .run && !s.inWarmUp && 5 ≤ s.fld Reg.GLB_STATUS 3 0 && s.usableUnit (8 + m)
def State.lclkOn (s : State) (p : Nat) : Bool :=
  (s.psc.state = .run || s.psc.state = .sleep) && !s.inWarmUp && 6 ≤ s.fld Reg.GLB_STATUS 3 0 && s.usableUnit (24 + p)
def State.feedOn (s : State) (c : Nat) : Bool := s.psc.state = .run && !s.inWarmUp && 4 ≤ s.fld Reg.GLB_STATUS 3 0 && s.usableUnit c
def State.aclkOn (s : State) (c : CoreId) : Bool := s.feedOn c && s.released && !s.coreIdle c && (s.partOf c).isSome
/-- HCLK, and PCLK of MW and ME: from the start of stage 1 on (notes/assumptions/41). -/
def State.mgmtOn (s : State) : Bool := (s.psc.state = .run || s.psc.state = .sleep) && 1 ≤ s.fld Reg.GLB_STATUS 3 0

def State.viewClk (s : State) (o : Nat) (raw : W32) : W32 :=
  match o with
  | 0x0 => lowWord s.ptb.toNat
  | 0x4 => s.act (latchOf Reg.PTB_NOW_HI)
  | 0xC => fieldsWord [(31, 16, bitsWhere 16 s.lclkOn), (15, 0, bitsWhere 16 s.mclkOn)]
  | 0x10 => fieldsWord [(18, 18, boolNat s.mgmtOn), (17, 17, boolNat s.mgmtOn), (16, 16, boolNat s.mgmtOn),
      (15, 8, bitsWhere 8 s.feedOn), (7, 0, bitsWhere 8 (fun c => s.aclkOn (Fin.ofNat 8 c)))]
  | _ => raw

def State.queueBits (s : State) (f : Nat) (p : Queue → Bool) : Nat :=
  bitsWhere 64 (fun q => match s.queue (Fin.ofNat 9 f) q with | some x => p x | none => false)

def State.viewHif (s : State) (o f : Nat) (raw : W32) : W32 :=
  match o with
  | 0x130 => lowWord (s.queueBits f (fun _ => true))
  | 0x134 => highWord (s.queueBits f (fun _ => true))
  | 0x138 => lowWord (s.queueBits f (·.error))
  | 0x13C => highWord (s.queueBits f (·.error))
  | _ => raw

/-- Voltage and boost flag of a point of a core's table; points above 38 read zero (PSC_VF_DATA). -/
def vfWord (c : CoreId) (k : Nat) : W32 :=
  if 38 < k then 0 else fieldsWord [(31, 31, boolNat (Config.vfBoost c (Fin.ofNat 64 k))), (11, 0, (Config.vfMillivolt c (Fin.ofNat 64 k)).toNat)]

def State.viewPsc (s : State) (o n : Nat) (raw : W32) : W32 :=
  let c : CoreId := Fin.ofNat 8 n
  match o with
  | 0x80 => withField raw 7 0 (Config.ageMillivolt c - BitVec.ofNat 8 (s.fld (Reg.PSC_CORE c) 15 8)).toNat
  | 0xC4 => vfWord (Fin.ofNat 8 (s.fld Reg.PSC_VF_INDEX 10 8)) (s.fld Reg.PSC_VF_INDEX 5 0)
  | 0xE0 => fieldsWord [(31, 24, (Config.ageMillivolt c).toNat), (23, 0, (s.ptb - vget s.psc.planAt c).toNat / hourNs)]
  | _ => raw

/-- SMB_ALERT: the oldest pending entry. -/
def State.alertWord (s : State) : W32 :=
  match s.alerts.head? with
  | some a => fieldsWord [(31, 31, 1), (15, 8, a.1.toNat), (7, 0, a.2.toNat)]
  | none => 0

/-- PHASE of a hang (HNG_STATE). -/
def HangPhase.code : HangPhase → Nat | .photo => 1 | .reset => 2 | .replay => 3 | .guilty => 1

/-- Escalation events within the window (HNG_ESC_STATUS). -/
def State.escEvents (s : State) : Nat :=
  (s.esc.filter (fun t => decide ((s.ptb - t).toNat ≤ s.fld Reg.HNG_ESC 31 16 * 1000000000))).length

def State.photoWord (s : State) : W32 := (s.photo[s.fld Reg.HNG_PHOTO_INDEX 18 0]?).getD 0

def State.viewHng (s : State) (o : Nat) (raw : W32) : W32 :=
  match o with
  | 0x8 => BitVec.ofNat 32 (min s.escEvents 255)
  | 0x40 => match s.hangs.head? with
    | some h => fieldsWord [(31, 29, h.phase.code), (28, 25, h.kind), (24, 22, h.inst % 8),
        (21, 16, match h.cur with | some x => x.val | none => 0)]
    | none => 0
  | 0x60 => fieldsWord [(31, 31, boolNat s.photoRun.isSome)]
  | 0x70 => s.photoWord
  | _ => raw

/-! ## The scheduler (R415) -/

def CtxState.code : CtxState → Nat
  | .free => 0 | .created => 1 | .ready => 2 | .running => 3 | .stopping => 4 | .suspended => 5 | .held => 6 | .ended => 7 | .faulted => 8

/-- The 64-bit value that a LO word of the SCH block begins. -/
def State.schPair (s : State) (o n : Nat) : Option Nat :=
  let k := s.ctx (Fin.ofNat 64 n)
  match o with
  | 0x110 => some k.run.toNat
  | 0x118 => some k.energy.toNat
  | 0x2000 => some (s.pair Reg.SCH_ENERGY_OVH_LO)
  | 0x2008 => some (s.pair Reg.SCH_ENERGY_ALL_LO)
  | _ => none

def State.viewSch (s : State) (o n : Nat) (raw : W32) : W32 :=
  let k := s.ctx (Fin.ofNat 64 n)
  match o with
  | 0xC =>
    let p := s.part (Fin.ofNat 8 n)
    fieldsWord [(7, 7, boolNat p.switching), (6, 6, boolNat p.running.isSome), (5, 0, match p.running with | some x => x.val | none => 0)]
  | 0x100 => fieldsWord [(31, 28, k.state.code), (27, 25, k.part), (24, 24, boolNat k.saveStore)]
  | 0x104 => BitVec.ofInt 32 k.credit
  | 0x108 => k.overrun
  | 0x10C => k.switches
  | 0x110 | 0x118 | 0x2000 | 0x2008 => lowWord ((s.schPair o n).getD 0)
  | 0x114 => s.act (latchOf (Reg.SCH_CTX_RUN_HI n))
  | 0x11C => s.act (latchOf (Reg.SCH_CTX_ENERGY_HI n))
  | 0x2004 => s.act (latchOf Reg.SCH_ENERGY_OVH_HI)
  | 0x200C => s.act (latchOf Reg.SCH_ENERGY_ALL_HI)
  | 0x120 => lowWord k.saveVa.toNat &&& 0xFFE00000
  | 0x124 => highWord k.saveVa.toNat
  | 0x128 => k.stride.setWidth 32
  | _ => raw

/-! ## Cores -/

def SeqState.code : SeqState → Nat
  | .idle => 0 | .run => 1 | .wait => 2 | .stopping => 3 | .stopped => 4 | .held => 5 | .ended => 6 | .faulted => 7

def GenEntry.keyWord (e : GenEntry) : W32 := fieldsWord [(31, 31, 1), (21, 16, e.ctx), (15, 0, e.layer.toNat)]
def GenEntry.stateWord (e : GenEntry) : W32 := fieldsWord [(31, 16, e.cur.toNat), (15, 15, boolNat e.prov)]

/-- SEQ registers (R167) and the generation table (R294). -/
def State.viewSeq (s : State) (c : CoreId) (q : SeqId) (o n : Nat) (raw : W32) : W32 :=
  let z := s.seq c q
  let entry (g : GenEntry → W32) : W32 := match (s.core c).gens.find? (fun e => e.ix = n) with | some e => g e | none => 0
  match o with
  | 0x0 => fieldsWord [(31, 28, z.state.code), (27, 22, match (s.core c).ctx with | some x => x.val | none => 0),
      (21, 20, match z.win with | some w => w.val + 1 | none => 0), (11, 0, match z.wait with | some w => w.1.toNat | none => 0)]
  | 0x4 => BitVec.ofNat 32 z.pc.toNat
  | 0x8 => match z.wait with | some w => w.2 | none => 0
  | 0x1000 => if q = .U then entry GenEntry.keyWord else raw
  | 0x1004 => if q = .U then entry GenEntry.stateWord else raw
  | 0x1008 => if q = .U then
      entry (fun e => fieldsWord [(31, 16, min ((s.core c).genRefs e 1) 65535), (15, 0, min ((s.core c).genRefs e 0) 65535)]) else raw
  | _ => raw

def BankState.code : BankState → Nat | .empty => 0 | .loading => 1 | .loaded => 2 | .active => 3 | .full => 4 | .draining => 5

/-- ARR registers (R94). A pass counts as in the edges until it has completed. -/
def State.viewArr (s : State) (c : CoreId) (o : Nat) (raw : W32) : W32 :=
  let a := (s.core c).arr
  let b (i : Fin 2) := vget a.bank i
  match o with
  | 0x0 => fieldsWord [(23, 22, (b 1).tag), (21, 20, (b 0).tag), (19, 18, ownerCode (b 1).owner), (17, 16, ownerCode (b 0).owner),
      (11, 9, (b 1).state.code), (8, 6, (b 0).state.code), (2, 2, boolNat (!a.passes.isEmpty)), (1, 0, a.shape)]
  | 0x8 => lowWord a.products.toNat
  | 0xC => s.act (latchOf (Reg.ARR_PRODUCTS_HI c))
  | _ => raw

/-- STR and GTH registers (R252). -/
def State.viewSlots (s : State) (c : CoreId) (gth : Bool) (o n : Nat) (raw : W32) : W32 :=
  let zs := if gth then (s.core c).gth.toList else (s.core c).str.toList
  let z := s.slot c gth n
  match o with
  | 0x14 => lowWord (bitsWhere zs.length (fun i => (s.slot c gth i).state = .halted))
  | 0x18 => BitVec.ofNat 32 ((zs.map Slot.tags).sum + (if gth then 0 else (s.core c).copyTags.length))
  | 0x100 => BitVec.ofNat 32 (z.status + (if z.state = .idle then 0 else z.cur.org.ctx.val * 1024))
  | 0x200 => lowWord z.faultVa.toNat
  | 0x204 => highWord z.faultVa.toNat
  | _ => raw

/-- STORE registers (R289). -/
def State.viewStore (s : State) (c : CoreId) (o : Nat) (raw : W32) : W32 :=
  let k := s.core c
  match o with
  | 0x114 => BitVec.ofNat 32 (k.stash.flatMap (·.pages)).eraseDups.length
  | 0x118 => BitVec.ofNat 32 k.hbmHeld.length
  | 0x128 => BitVec.ofNat 32 k.stash.length
  | _ => raw

/-! ## Memory, hurdles -/

/-- Spare rows left in a stack, and its rows under repair (MEM_REPAIR). -/
def State.repairWord (s : State) (m : Nat) : W32 :=
  let banks := (List.range 4096).map (fun i => m * 4096 + i)
  let left := (banks.map (fun b => (Config.bankSpares b).val - smGet (fun _ => 0) s.spares b)).sum
  let done := (s.rows.filter (fun kv => kv.1 / 2 ^ 26 = m && (kv.2.st = .soft || kv.2.st = .hard))).length
  fieldsWord [(31, 16, min left 65535), (15, 0, min done 65535)]

def State.viewMem2 (s : State) (o : Nat) (raw : W32) : W32 :=
  match o with
  | 0x18 => BitVec.ofNat 32 (boolNat (!s.inval.isEmpty))
  | 0x1C => BitVec.ofNat 32 (boolNat s.flushing)
  | 0x1004 => BitVec.ofNat 32 ((s.retired[s.fld Reg.MEM_RET_INDEX 11 0]?).getD 0)
  | 0x1008 => BitVec.ofNat 32 s.retired.length
  | _ => raw

def HurdleState.code : HurdleState → Nat | .idle => 0 | .armed => 1 | .poisoned => 2

/-- HRD registers (R151). -/
def State.viewHrd (s : State) (n o i : Nat) (raw : W32) : W32 :=
  let h := s.hurdle (BitVec.ofNat 12 (n * 512 + i))
  match o with
  | 0x0 => fieldsWord [(31, 30, h.state.code), (29, 29, boolNat h.auto), (28, 27, h.window.toNat), (26, 21, h.owner), (15, 0, h.expect.toNat)]
  | 0x4 => fieldsWord [(16, 16, boolNat h.hostOk), (15, 0, h.ports.toNat)]
  | 0x8 => h.count.setWidth 32
  | 0xC => h.releases
  | 0x10 => fieldsWord [(25, 16, h.roundMin.toNat), (9, 0, h.lastMin.toNat)]
  | 0x14 => fieldsWord [(31, 16, h.lastPkg.toNat), (15, 13, h.lastCore.toNat)]
  | 0x18 => h.specBase
  | _ => raw

/-! ## A register -/

/-- The value of a register of a page, with what the copies give. -/
def State.view (s : State) (pk : PageKind) (o n : Nat) (raw : W32) : W32 :=
  match pk with
  | .glb => if o < 0x20 then s.glbWord o else raw
  | .clk => s.viewClk o raw
  | .hif => s.viewHif o n raw
  | .psc => s.viewPsc o n raw
  | .gnt => if o = 0x200 then s.sparesWord (Fin.ofNat 8 n) else raw
  | .smb => if o = 0x4 then s.alertWord else raw
  | .hng => s.viewHng o raw
  | .sch => s.viewSch o n raw
  | .seq c q => s.viewSeq (Fin.ofNat 8 c) q o n raw
  | .arr c => s.viewArr (Fin.ofNat 8 c) o raw
  | .str c => s.viewSlots (Fin.ofNat 8 c) false o n raw
  | .gth c => s.viewSlots (Fin.ofNat 8 c) true o n raw
  | .store c => s.viewStore (Fin.ofNat 8 c) o raw
  | .mem1 m => if o = 0x0 then s.repairWord m else raw
  | .mem2 => s.viewMem2 o raw
  | .hrd n' => s.viewHrd n' o n raw
  | _ => raw

/-- The bits of a register that the tables give. -/
def fieldBits (r : RegRow) : W32 := r.fields.foldl (fun w f => w ||| BitVec.ofNat 32 (maskOf f.hi f.lo)) 0

/-- What a word of BAR0 reads as, by its byte offset: zero at a reserved offset and in reserved and write-only fields (R46); an RWS
field reads its shadow at its own offset and its active value at the mirror (R44). -/
def State.regWord (s : State) (off : Nat) : W32 :=
  let home := homeOff off
  match regAt home with
  | none => 0
  | some (pk, r, ix) =>
    let rws := accMask r [.rws]
    let raw := (s.act home &&& ~~~rws) ||| ((if inMirror off then s.act home else s.shad home) &&& rws)
    s.view pk r.off (ix.headD 0) (raw &&& fieldBits r &&& ~~~(accMask r [.wo])) &&& fieldBits r

end Sys2Proof.Machine
end

