-- ==== Sys2Proof/Machine/RegAccess.lean ====
section
/-! DEFINITION. Reads and writes of the registers of BAR0 (R44 to R48), the MSI-X Table and PBA (R389), commit sets (R50 to R52), and
the end of an exit from Sleep or Deep sleep, after which held writes are applied (R36, R479, R483). -/

namespace Sys2Proof.Machine
open Sys2Proof

/-! ## MSI-X (R389; PCI Express Base Specification 6.0 by R373) -/

/-- An offset of the MSI-X Table or PBA of a function, in either half of the SCH page. -/
def inMsix (off : Nat) : Bool := decide (0xB4000 ≤ homeOff off) && decide (homeOff off < 0xB6000)

/-- Table size: 64 vectors for the PF, 256 for a VF. -/
def msixSize (f : FnId) : Nat := if f.val = 0 then 64 else 256

/-- A word of the Table or PBA; zero beyond their sizes. -/
def State.msixWord (s : State) (f : FnId) (off : Nat) : W32 :=
  let k := homeOff off - 0xB4000
  if k < 0x1000 then
    if k < 16 * msixSize f then BitVec.ofNat 32 ((List.range 4).map (fun i => (smGet msixByte (s.fn f).msixTab (k + i)).toNat * 256 ^ i)).sum else 0
  else if 8 * (k - 0x1000) < msixSize f then
    BitVec.ofNat 32 (bitsWhere 32 (fun i => smGet (fun _ => false) (s.fn f).pba (8 * (k - 0x1000) + i)))
  else 0

/-- A write of a word of the Table: bits 31:1 of Vector Control are reserved. A pending vector whose mask is cleared is sent
(notes/assumptions/8). A write of the PBA is ignored. -/
def State.writeMsix (s : State) (f : FnId) (off : Nat) (v : W32) : State :=
  let k := homeOff off - 0xB4000
  if 16 * msixSize f ≤ k then s else
  let v := if k % 16 = 12 then v &&& 1 else v
  let s := s.modFn f (fun n => { n with msixTab := (List.range 4).foldl (fun m i => smSet msixByte m (k + i) (BitVec.ofNat 8 (v.toNat / 256 ^ i))) n.msixTab })
  if k % 16 = 12 && v = 0 && smGet (fun _ => false) (s.fn f).pba (k / 16) then
    (s.modFn f (fun n => { n with pba := smSet (fun _ => false) n.pba (k / 16) false })).sendVector f (k / 16)
  else s

/-! ## Reads -/

/-- What a read of a register does: RC fields are cleared, a LO word latches its HI word, an index advances, the oldest alert goes. -/
def State.readEffect (s : State) (off : Nat) : State :=
  match regAt off with
  | none => s
  | some (pk, r, ix) =>
    let rc := accMask r [.rc]
    let s := if rc = 0 then s else s.setAct off (s.act off &&& ~~~rc)
    match pk, r.off with
    | .clk, 0x0 => s.setAct (latchOf Reg.PTB_NOW_HI) (highWord s.ptb.toNat)
    | .arr c, 0x8 => s.setAct (latchOf (off + 4)) (highWord (s.core (Fin.ofNat 8 c)).arr.products.toNat)
    | .sch, o => (match s.schPair o (ix.headD 0) with | some v => s.setAct (latchOf (off + 4)) (highWord v) | none => s)
    | .hng, 0x70 => s.setFld Reg.HNG_PHOTO_INDEX 18 0 (s.fld Reg.HNG_PHOTO_INDEX 18 0 + 1)
    | .smb, 0x4 => { s with alerts := s.alerts.tail }
    | _, _ => s

/-- A block whose clock is stopped: in Sleep those of the cores and the memory, in Deep sleep every one (R48, R477). -/
def State.stopped (s : State) (off : Nat) : Bool :=
  match s.psc.state with
  | .deep => true
  | .sleep => decide (0x1000000 ≤ off) && decide (off < 0x2400000)
  | _ => false

/-- One 32-bit read by a function: the value, and the state after it. -/
def State.readWord (s : State) (f : FnId) (off : Nat) : W32 × State :=
  match s.gate f off false with
  | .absent => (0xFFFFFFFF, s)
  | .ones => (0xFFFFFFFF, s)
  | .deny => (0, s.badAccess f off)
  | .allowed =>
    if inMsix off then (s.msixWord f off, s)
    else (s.regWord off, if inMirror off then s else s.readEffect (homeOff off))

/-- The high word of a 64-bit read at the mirror: at the instant of its low word, so the value that a read of the low word at its own
offset would latch, which the mirror leaves alone (R44, R45). -/
def State.highNow (s : State) (f : FnId) (off : Nat) : W32 × State :=
  if inMirror off && !inMsix off then
    let r := s.readWord f (off + 4)
    (((s.readEffect (homeOff off)).readWord f (off + 4)).1, r.2)
  else s.readWord f (off + 4)

/-- A BAR0 read is answered (R45): a 64-bit read aligned to 8 bytes takes both words from the same instant; any other returns the
word that contains the offset. -/
def State.answerRead (s : State) (f : FnId) (off : Nat) (wide : Bool) : State :=
  let a := s.readWord f off
  if wide && off % 8 = 0 then
    let b := a.2.highNow f off
    { b.2 with reply := vset b.2.reply f (b.1 ++ a.1) }
  else { a.2 with reply := vset a.2.reply f (a.1.setWidth 64) }

/-- A read waits (R47, R48): an earlier write of its function to its block has not taken effect, or the block's clock is stopped. -/
def State.readWaits (s : State) (f : FnId) (off : Nat) : Bool :=
  s.stopped (homeOff off) || s.posted.any (fun w => w.1 = f && w.2.1 / 0x10000 = off / 0x10000)
    || s.psc.heldWr.any (fun w => w.1 = f && w.2.1 / 0x10000 = off / 0x10000)

/-- A BAR0 read by a function. One that waits wakes a stopped block (R48). -/
def State.readReg (s : State) (f : FnId) (off : Nat) (wide : Bool) : State :=
  if s.psc.state = .off || !s.fnExists f then s
  else if s.gate f off false = .allowed && s.readWaits f off then
    { (if s.stopped (homeOff off) then s.wakeBy true else s) with heldReads := s.heldReads ++ [(f, off, wide)] }
  else s.answerRead f off wide

/-- The reads that no longer wait are answered, in order. -/
def State.releaseReads (s : State) : State :=
  s.heldReads.foldl (fun (s : State) r => s.readReg r.1 r.2.1 r.2.2) { s with heldReads := [] }

def execRegisterRead (f : FnId) (off : Nat) (wide : Bool) (s : State) : Out := .next (s.readReg f off wide)

/-- A read has had no answer within 1 ms (R48): it completes with all ones. -/
def State.timeoutRead (s : State) (f : FnId) (off : Nat) : State :=
  ({ s with
    reply := vset s.reply f (if s.heldReads.any (fun r => r = (f, off, true)) then 0xFFFFFFFFFFFFFFFF else 0xFFFFFFFF)
    heldReads := match s.heldReads.find? (fun r => r.1 = f && r.2.1 = off) with | some r => s.heldReads.erase r | none => s.heldReads
    } : State).hifEvent .hifRegTimeout f [.word off]

/-- A block does not answer a read within 1 ms (R48): one that waits, or one that comes with this command and wakes the block. -/
def execRegisterReadTimeout (f : FnId) (off : Nat) (s : State) : Out :=
  if s.psc.state = .off || !s.fnExists f then .next s else
  .next ((if s.stopped (homeOff off) then s.wakeBy true else s).timeoutRead f off)

/-! ## Writes of one register -/

/-- HRD_PORTS. -/
def State.writeHrdPorts (s : State) (hid : Hid) (v : W32) : State :=
  s.setHurdle hid { s.hurdle hid with hostOk := v.getLsbD 16, ports := v.setWidth 16 }

/-- LNK_CTL (R333, R342): AUTO and DISABLE, and then RETRAIN and OPEN, which are acted on at the write and read zero
(notes/assumptions/80). -/
def State.writeLnkCtl (s : State) (p : PortId) (v : W32) : State :=
  let s := s.setFld (Reg.LNK_CTL p) 28 28 (fieldOf v 28 28)
  let s := s.disablePort p (v.getLsbD 29)
  let s := if v.getLsbD 31 then s.retrain p else s
  if v.getLsbD 30 then s.openPort p else s

/-- The fields of a register by their access: RW takes the value, W1C clears where it is 1, and RWS goes to the shadow, which
marks the set DIRTY (R44, R46). -/
def State.plainWrite (s : State) (off : Nat) (r : RegRow) (v : W32) : State :=
  let rw := accMask r [.rw]
  let w1c := accMask r [.w1c]
  let rws := accMask r [.rws]
  let s := if rw = 0 && w1c = 0 then s else s.setAct off ((s.act off &&& ~~~rw &&& ~~~(v &&& w1c)) ||| (v &&& rw))
  if rws = 0 then s else
  let s := s.setShad off ((s.shad off &&& ~~~rws) ||| (v &&& rws))
  match setAt off with | some n => s.setBit Reg.CSET_DIRTY n true | none => s

/-- A write of CSET_COMMIT or CSET_DISCARD for a set without a pending commit; a reserved set number is refused. -/
def State.writeCset (s : State) (f : FnId) (off : Nat) (v : W32) : State :=
  let n := fieldOf v 4 0
  if 16 ≤ n then s.badAccess f off
  else if off = Reg.CSET_COMMIT then s.commit n else s.discardSet n

/-- REL_Q_BASE and the other entries of a context (R346): refused while the context is bound to a core, and for a ring that extends
beyond the core store. -/
def State.writeRelCtx (s : State) (f : FnId) (off : Nat) (r : RegRow) (x : CtxId) (v : W32) : State :=
  let q := decide (r.off = 0x110)
  if !(s.boundCores x).isEmpty || (q && decide (2 ^ 30 < fieldOf v 15 0 * 65536 + 2 ^ min 10 (fieldOf v 31 28) * 64)) then s.badAccess f off
  else s.plainWrite off r v

/-- The effect of a write of a register. A W1S bit asks for what its field says; it reads zero unless the field says how long it
stands (notes/assumptions/80). -/
def State.storeReg (s : State) (f : FnId) (off : Nat) (v : W32) : State :=
  match regAt off with
  | none => s
  | some (pk, r, ix) =>
    let i := ix.headD 0
    match pk, r.off with
    | .glb, 0x1C => if v.getLsbD 27 then s.clearOos else s
    | .cset, 0x0 | .cset, 0x4 => s.writeCset f off v
    | .psc, 0x34 => s.writePscCtl v
    | .psc, 0x3C => s.writeInput v
    | .crn, 0xC => s.writeCrnCtl v
    | .crn, 0x10 => s.writeLock v
    | .crn, 0x20 => s.writeStgCtl v
    | .crn, 0x28 => s.stageData v
    | .crn, 0x48 => s.writeActCtl v
    | .crn, 0x50 => s.writeLife v
    | .gnt, 0x4 => s.writeGntCtl v
    | .hng, 0x50 => s.writeReset v
    | .hng, 0x60 => if v.getLsbD 31 then s.takePhoto else s
    | .str c, 0xC => s.eachSlot v false (fun s j => s.resumeSlot (Fin.ofNat 8 c) false j)
    | .str c, 0x10 => s.eachSlot v false (fun s j => s.abortSlot (Fin.ofNat 8 c) false j)
    | .gth c, 0xC => s.eachSlot v true (fun s j => s.resumeSlot (Fin.ofNat 8 c) true j)
    | .gth c, 0x10 => s.eachSlot v true (fun s j => s.abortSlot (Fin.ofNat 8 c) true j)
    | .mem2, 0x14 => s.writeInval v
    | .mem2, 0x1C => s.writeFlush v
    | .lnk0 m, 0x8 => s.writeLnkCtl (Fin.ofNat 16 m) v
    | .hrd n, 0x0 => s.writeHrdCtl (BitVec.ofNat 12 (n * 512 + i)) v
    | .hrd n, 0x4 => s.writeHrdPorts (BitVec.ofNat 12 (n * 512 + i)) v
    | .rel _, o => if 0x100 ≤ o && accMask r [.rw] != 0 then s.writeRelCtx f off r (Fin.ofNat 64 i) v else s.plainWrite off r v
    | _, _ => s.plainWrite off r v

/-! ## Posted writes (R51) -/

/-- The set whose pending commit holds a write. -/
def heldBy (off : Nat) (v : W32) : Option Nat :=
  if off = Reg.CSET_COMMIT || off = Reg.CSET_DISCARD then some (fieldOf v 4 0)
  else if hasRws off then setAt off else none

/-- A write that reaches a register: held while a commit of its set is pending, or behind an earlier write of its block that is
held (R47). -/
def State.landWrite (s : State) (f : FnId) (off : Nat) (v : W32) : State :=
  let held := match heldBy off v with | some n => n < 16 && s.setPending n | none => false
  if held || s.writeAhead off then { s with posted := s.posted ++ [(f, off, v)] } else s.storeReg f off v

/-- Held writes take effect in order, up to those that a commit is still pending for; then reads that waited for them. -/
def State.releasePosted (s : State) : State :=
  (s.posted.foldl (fun (s : State) w => s.landWrite w.1 w.2.1 w.2.2) { s with posted := [] }).releaseReads

/-! ## Writes by a function (R40, R44 to R46) -/

/-- A 32-bit write of a word. The mirror half is read-only. -/
def State.writeWord (s : State) (f : FnId) (off : Nat) (v : W32) : State :=
  s.pfWrite f off v (fun s =>
    if inMirror off then s
    else if inMsix off then s.writeMsix f off v
    else s.landWrite f (homeOff off) v)

/-- A BAR0 write (R45). `full`: every byte enable is set. A 64-bit write must be aligned to 8 bytes, and writes its low word first. -/
def State.writeReg (s : State) (f : FnId) (off : Nat) (v : W64) (wide full : Bool) : State :=
  if s.psc.state = .off || !s.fnExists f then s
  else if !full || off % 4 != 0 || (wide && off % 8 != 0) then (if s.asleep then s.wakeBy true else s).badAccess f off
  else
    let s := s.writeWord f off (v.setWidth 32)
    if wide then s.writeWord f (off + 4) ((v >>> 32).setWidth 32) else s

def execRegisterWrite (f : FnId) (off : Nat) (v : W64) (wide full : Bool) (s : State) : Out := .next (s.writeReg f off v wide full)

/-! ## Commits (R50 to R52) -/

def execCsetCommit (v : W32) (s : State) : Out := .next (s.pfWrite 0 Reg.CSET_COMMIT v (·.landWrite 0 Reg.CSET_COMMIT v))
def execCsetDiscard (v : W32) (s : State) : Out := .next (s.pfWrite 0 Reg.CSET_DISCARD v (·.landWrite 0 Reg.CSET_DISCARD v))

/-- Every block of the set is at its apply point, and no commit written before is still to apply to one of them: the commit
applies, and the blocks resume. The apply waits while both management dies claim the crown (R486). -/
def execCommitApply (n : Fin 16) (s : State) : Out :=
  if !s.setPending n || !s.atApply n || !s.firstOf n || s.twoCrowns then .next s
  else .next ((((s.applySet n).commitDone n).resumeBlocks n).releasePosted)

/-- A block has not become ready within 1 ms; `off` is its offset. The blocks resume with their old values. -/
def execCommitTimeout (n : Fin 16) (off : Nat) (s : State) : Out :=
  if !s.setPending n || (s.atApply n && s.firstOf n) then .next s
  else .next (((s.commitRefused n 2 off).resumeBlocks n).releasePosted)

/-! ## The end of an exit (R36, R479, R483) -/

/-- The PTB at the end of an exit from Deep sleep: the recorded value and the AON time, in ticks of 1/32,768 s. -/
def aonTime (at_ : W64) (ticks : Nat) : W64 := at_ + BitVec.ofNat 64 (ticks * 1000000000 / 32768)

/-- The exit completes: the part runs. After a Deep sleep, PSC_STATUS.STATE keeps that last state until Idle begins or ends on a core,
the flash SSD's reset is released, and the PTB is restored. Writes that arrived meanwhile are applied in order. -/
def State.wakeUp (s : State) (ticks : Nat) : State :=
  let deep := decide (s.psc.state = .deep)
  let held := s.psc.heldWr
  let s := s.modPsc (fun p => { p with state := .run, exiting := false, wakeTimer := false, wakeMatch := false, heldWr := [] })
  let s : State :=
    if deep then
      ({ s with ptb := aonTime s.psc.sleepPtb ticks, pins := { s.pins with flpPerst := false } } : State).setFld Reg.PTB_STATUS 1 0 1
    else s.showIdle
  let s := s.modPsc (fun p => { p with dwellAt := s.ptb, resync := p.resync || deep })
  -- An exit from Deep sleep takes longer than the 1 ms that a read waits (R48, R473)
  let s := if deep then s.heldReads.foldl (fun s r => s.timeoutRead r.1 r.2.1) s else s
  (held.foldl (fun s w => s.writeWord w.1 w.2.1 w.2.2) s).releaseReads

/-- ticks: AON time spent in Deep sleep. -/
def execPowerStateExitComplete (ticks : Nat) (s : State) : Out :=
  if s.asleep && s.psc.exiting then .next (s.wakeUp ticks) else .next s

/-! ## Package-level actions once one die holds the crown (R486, R488) -/

/-- The actions that waited are decided again by the winner, in order. -/
def State.crownRuns (s : State) : State :=
  if s.twoCrowns then s else
  let t : State := { s with crown := { s.crown with waits := [] } }
  (s.crown.waits.foldl (fun t a => match a with | .warm => t.beginWarm | .photo n u => t.startPhoto n u) t).releasePosted

/-- The oldest heartbeat reaches the other die. -/
def execCrownHeartbeatReceived (mwDeg meDeg : Bool) (t : W64) (s : State) : Out :=
  match s.crown.beats with
  | [] => .next s
  | (me, b) :: rest =>
    let s := ({ s with crown := { s.crown with beats := rest } } : State).atTime t
    let holds := if me then s.crown.mw else s.crown.me
    .next (if b && holds then (s.doubleCrown mwDeg meDeg).crownRuns else s)

/-- A die that does not hold the crown has had no heartbeat for 10 µs: it takes the crown, and the package resets. -/
def execCrownTakeover (me : Bool) (s : State) : Out :=
  let holds := if me then s.crown.me else s.crown.mw
  if s.psc.state = .off || holds then .next s else
  let s := ({ s with crown := if me then { s.crown with me := true, mw := false } else { s.crown with mw := true, me := false } } : State).showCrown
  .next (((s.bumpFld Reg.CRN_STATUS 7 0 1).event .crnTakeover []).crownRuns).beginWarm

end Sys2Proof.Machine
end

