-- ==== Sys2Proof/Machine/Bar2.lean ====
section
/-! DEFINITION. Accesses of BAR2, the aperture onto physical addresses for the PF and onto its partition's addresses for a VF
(R38, R39, R269). -/

namespace Sys2Proof.Machine
open Sys2Proof

/-- The address that an offset of a function's BAR2 stands for: from the aperture base (HIF_FN_f.APER). -/
def State.aperture (s : State) (f : FnId) (off : Nat) : Nat := s.fld (Reg.HIF_FN_APER f) 26 0 * 2 ^ 30 + off

/-- The size of a function's BAR2 in bytes: of the PF's, and of every VF's (R38). -/
def State.barSize (s : State) (f : FnId) : Nat := 2 ^ (30 + (if f.val = 0 then s.pcie.barPf.val else s.pcie.barVf.val))

/-- The aperture does not reach memory (R498; notes/assumptions/45). -/
def State.barShut (s : State) : Bool := s.inWarmUp || s.fld Reg.GLB_STATUS 25 25 = 0

/-- No access of a function's BAR2 comes at an offset: the part is off, there is no such function, or the BAR ends before
(notes/assumptions/79). -/
def State.barNone (s : State) (f : FnId) (off : Nat) : Bool := s.psc.state = .off || !s.fnExists f || s.barSize f ≤ off

/-- The space code of a function's aperture: physical for the PF, virtual for a VF. -/
def barSpace (f : FnId) : Nat := if f.val = 0 then 2 else 1

/-- The bytes of an access, up to the end of the line it begins in. -/
def inLine (a n : Nat) : Nat := min n (256 - a % 256)

/-- Nothing lies at an offset. -/
def State.outOfRange (s : State) (f : FnId) (off : Nat) : State := s.hifEvent .hifApertureRange f [.word off]

/-- An uncorrectable read, as the VF's own event queue sees it, with the physical address; the PF's has the event already
(R269). -/
def State.vfUe (s : State) (f : FnId) (a : Nat) : State :=
  if f.val = 0 then s else
  let a := match (s.hostPlace f (barSpace f) a false).2 with | .ok (some x) => x.1 / 256 * 256 | _ => a
  let r := s.eqOffer f (recordWords .memUncorrectable false noSubject 0 s.ptb [.word a])
  if r.2 then r.1.sendVector0 f else r.1

def State.setReply (s : State) (f : FnId) (v : W64) : State := { s with reply := vset s.reply f v }

/-- A read of at most 8 bytes, which do not cross a line. Through a REMOTE window the reply comes with RD_RSP. -/
def State.bar2Read (s : State) (f : FnId) (off n : Nat) : State :=
  let a := s.aperture f off
  let n := inLine a n
  let r := s.hostRead f (barSpace f) a n
  match r.2 with
  | .ok bs => r.1.setReply f (BitVec.ofNat 64 (leNat bs))
  | .fail e =>
    if e = stUncorrectable then ((r.1.vfUe f a).setReply f 0xFFFFFFFFFFFFFFFF) else ((r.1.outOfRange f off).setReply f 0)
  | .remote g pa =>
    let t := r.1.sendReq vcDisp g (BitVec.ofNat 48 (pa / 256 * 256)) (.rdReq 1) (.bar2 f off (pa % 256) n) none
    if t.2 then t.1 else t.1.setReply f 0xFFFFFFFFFFFFFFFF

def execBar2Read (f : FnId) (off : Nat) (n : Fin 9) (s : State) : Out :=
  if s.barNone f off then .next s
  else if s.barShut then .next (s.setReply f 0xFFFFFFFFFFFFFFFF)
  else .next ((s.wakeBy true).bar2Read f off n)

/-- A write of bytes that do not cross a line. -/
def State.bar2Write (s : State) (f : FnId) (off : Nat) (bs : List Byte) : State :=
  let a := s.aperture f off
  let bs := bs.take (256 - a % 256)
  let r := s.hostWrite f (barSpace f) a bs
  match r.2 with
  | .ok _ => r.1
  | .fail _ => r.1.outOfRange f off
  | .remote g pa =>
    (r.1.sendReq vcDisp g (BitVec.ofNat 48 (pa / 256 * 256)) (.wr 1 (((List.range bs.length).map (· + pa % 256)).zip bs)) (.bar2 f off 0 0) none).1

def execBar2Write (f : FnId) (off : Nat) (bytes : List Byte) (s : State) : Out :=
  if s.barNone f off || s.barShut then .next s
  else .next ((s.wakeBy true).bar2Write f off bytes)

end Sys2Proof.Machine
end

