-- ==== Sys2Proof/Machine/ClearReads.lean ====
section
/-! DEFINITION. Reads of registers that have a row of their own: each is a read of its register by a function (R10, R44). -/

namespace Sys2Proof.Machine
open Sys2Proof

/-- PTB_NOW_LO (R37): it latches PTB_NOW_HI. -/
def execPtbNowLoRead (f : FnId) (s : State) : Out := .next (s.readReg f Reg.PTB_NOW_LO false)
/-- ARR_PRODUCTS_LO (R93): it latches the high word. -/
def execArrProductsLoRead (f : FnId) (c : CoreId) (s : State) : Out := .next (s.readReg f (Reg.ARR_PRODUCTS_LO c) false)
/-- ARR_BANK_STALL (R79). -/
def execArrBankStallRead (f : FnId) (c : CoreId) (s : State) : Out := .next (s.readReg f (Reg.ARR_BANK_STALL c) false)
/-- ARR_BANK_STALL_CYC (R79). -/
def execArrBankStallCycRead (f : FnId) (c : CoreId) (s : State) : Out := .next (s.readReg f (Reg.ARR_BANK_STALL_CYC c) false)
/-- ARR_WINDOW_TRUNC (R61). -/
def execArrWindowTruncRead (f : FnId) (c : CoreId) (s : State) : Out := .next (s.readReg f (Reg.ARR_WINDOW_TRUNC c) false)
/-- ARR_SAT (R110, R112): a class of converter k. -/
def execArrSatRead (f : FnId) (c : CoreId) (k : Fin 5) (s : State) : Out := .next (s.readReg f (Reg.ARR_SAT c k) false)
/-- ARR_NONFIN (R110, R112): a class of converter k. -/
def execArrNonfinRead (f : FnId) (c : CoreId) (k : Fin 5) (s : State) : Out := .next (s.readReg f (Reg.ARR_NONFIN c k) false)
/-- ARR_UNDER (R110, R112): a class of converter k. -/
def execArrUnderRead (f : FnId) (c : CoreId) (k : Fin 5) (s : State) : Out := .next (s.readReg f (Reg.ARR_UNDER c k) false)
/-- HRD_STRAY (R146). -/
def execHrdStrayRead (f : FnId) (n : CoreId) (s : State) : Out := .next (s.readReg f (Reg.HRD_STRAY n) false)
/-- SEQ_ISSUED (R167). -/
def execSeqIssuedRead (f : FnId) (c : CoreId) (q : SeqId) (s : State) : Out := .next (s.readReg f (Reg.SEQ_ISSUED c q) false)
/-- SEQ_GRANT_WAIT (R135). -/
def execSeqGrantWaitRead (f : FnId) (c : CoreId) (q : SeqId) (s : State) : Out := .next (s.readReg f (Reg.SEQ_GRANT_WAIT c q) false)
/-- STR_QUOTA_WAIT (R230). -/
def execStrQuotaWaitRead (f : FnId) (c : CoreId) (s : State) : Out := .next (s.readReg f (Reg.STR_QUOTA_WAIT c) false)
/-- GTH_QUOTA_WAIT (R250). -/
def execGthQuotaWaitRead (f : FnId) (c : CoreId) (s : State) : Out := .next (s.readReg f (Reg.GTH_QUOTA_WAIT c) false)
/-- STR_STALE (R243). -/
def execStrStaleRead (f : FnId) (c : CoreId) (s : State) : Out := .next (s.readReg f (Reg.STR_STALE c) false)
/-- STR_WATCH_EVICT (R243). -/
def execStrWatchEvictRead (f : FnId) (c : CoreId) (s : State) : Out := .next (s.readReg f (Reg.STR_WATCH_EVICT c) false)
/-- MEM_CE (R269). -/
def execMemCeRead (f : FnId) (m : PortId) (s : State) : Out := .next (s.readReg f (Reg.MEM_CE m) false)
/-- MEM_UE (R269). -/
def execMemUeRead (f : FnId) (m : PortId) (s : State) : Out := .next (s.readReg f (Reg.MEM_UE m) false)
/-- MEM_BLOCKED (R271). -/
def execMemBlockedRead (f : FnId) (m : PortId) (s : State) : Out := .next (s.readReg f (Reg.MEM_BLOCKED m) false)
/-- MEM_INBOUND_CNT (R274, R276): a count of zero lets the next refusal raise its event again. -/
def execMemInboundCntRead (f : FnId) (s : State) : Out := .next (s.readReg f Reg.MEM_INBOUND_CNT false)
/-- STORE_STASH_SPILLS (R289). -/
def execStoreStashSpillsRead (f : FnId) (c : CoreId) (s : State) : Out := .next (s.readReg f (Reg.STORE_STASH_SPILLS c) false)
/-- STORE_STASH_DROPS (R289). -/
def execStoreStashDropsRead (f : FnId) (c : CoreId) (s : State) : Out := .next (s.readReg f (Reg.STORE_STASH_DROPS c) false)
/-- STORE_STASH_WAIT (R289). -/
def execStoreStashWaitRead (f : FnId) (c : CoreId) (s : State) : Out := .next (s.readReg f (Reg.STORE_STASH_WAIT c) false)
/-- GEN_STALL (R293). -/
def execGenStallRead (f : FnId) (c : CoreId) (s : State) : Out := .next (s.readReg f (Reg.GEN_STALL c) false)
/-- LNK_FEC_CORR (R319). -/
def execLnkFecCorrRead (f : FnId) (p : PortId) (s : State) : Out := .next (s.readReg f (Reg.LNK_FEC_CORR p) false)
/-- LNK_FEC_UNCORR (R319). -/
def execLnkFecUncorrRead (f : FnId) (p : PortId) (s : State) : Out := .next (s.readReg f (Reg.LNK_FEC_UNCORR p) false)
/-- LNK_REPLAYS (R327). -/
def execLnkReplaysRead (f : FnId) (p : PortId) (s : State) : Out := .next (s.readReg f (Reg.LNK_REPLAYS p) false)
/-- LNK_PEER_LOST (R339). -/
def execLnkPeerLostRead (f : FnId) (p : PortId) (s : State) : Out := .next (s.readReg f (Reg.LNK_PEER_LOST p) false)
/-- LNK_BAD_MSG (R325). -/
def execLnkBadMsgRead (f : FnId) (p : PortId) (s : State) : Out := .next (s.readReg f (Reg.LNK_BAD_MSG p) false)
/-- REL_CAP_DROP (R364). -/
def execRelCapDropRead (f : FnId) (d : CoreId) (s : State) : Out := .next (s.readReg f (Reg.REL_CAP_DROP d) false)
/-- REL_READY_RETRY (R351). -/
def execRelReadyRetryRead (f : FnId) (d : CoreId) (s : State) : Out := .next (s.readReg f (Reg.REL_READY_RETRY d) false)
/-- REL_REFUSED (R344). -/
def execRelRefusedRead (f : FnId) (d : CoreId) (s : State) : Out := .next (s.readReg f (Reg.REL_REFUSED d) false)
/-- EQ_DROP (R385): of function g. -/
def execEqDropRead (f : FnId) (g : FnId) (s : State) : Out := .next (s.readReg f (Reg.HIF_FN_EQ_DROP g) false)
/-- PSC_DROOP (R462). -/
def execPscDroopRead (f : FnId) (c : CoreId) (s : State) : Out := .next (s.readReg f (Reg.PSC_DROOP c) false)
/-- PSC_REFUSE_CNT (R484): of the refuser k + 1. -/
def execPscRefuseCntRead (f : FnId) (k : Fin 13) (s : State) : Out := .next (s.readReg f (Reg.PSC_REFUSE_CNT k) false)
/-- HNG_PHOTO_STATUS (R450): it clears MISSED. -/
def execHngPhotoStatusRead (f : FnId) (s : State) : Out := .next (s.readReg f Reg.HNG_PHOTO_STATUS false)
/-- HNG_PHOTO_DATA (R451): the index advances. -/
def execHngPhotoDataRead (f : FnId) (s : State) : Out := .next (s.readReg f Reg.HNG_PHOTO_DATA false)
/-- SMB_ALERT (R397): the oldest entry goes. -/
def execSmbAlertRead (f : FnId) (s : State) : Out := .next (s.readReg f Reg.SMB_ALERT false)
/-- SMB_ALERT_DROP (R397). -/
def execSmbAlertDropRead (f : FnId) (s : State) : Out := .next (s.readReg f Reg.SMB_ALERT_DROP false)

/-- The LO word of a 64-bit count of the SCH block. -/
def schLoOff : SchLo → Nat
  | .run x => Reg.SCH_CTX_RUN_LO x
  | .energy x => Reg.SCH_CTX_ENERGY_LO x
  | .overhead => Reg.SCH_ENERGY_OVH_LO
  | .all => Reg.SCH_ENERGY_ALL_LO
/-- A _LO word of SCH (R414, R415): it latches its _HI word. -/
def execSchLoRead (f : FnId) (w : SchLo) (s : State) : Out := .next (s.readReg f (schLoOff w) false)

end Sys2Proof.Machine
end

