-- ==== Sys2Proof/Machine/ReadAhead.lean ====
section
/-! DEFINITION. The descriptor read-ahead of a sequencer (R173). -/

namespace Sys2Proof.Machine
open Sys2Proof

/-- Bytes of the descriptor that an instruction word reads (R171, R172); none where it reads none. -/
def descSize (w : W64) : Option Nat :=
  let op := (w >>> 56).toNat
  if op = 0x41 then (let mode := w.toNat / 2 ^ 26 % 4; if mode = 1 || mode = 2 then some 8 else none)
  else if op = 0x42 || op = 0x88 then some 32
  else if op = 0x84 || op = 0x85 || op = 0x86 then some 16
  else if op = 0x43 || (0x50 ≤ op && op ≤ 0x51) || op = 0x54 || (0x70 ≤ op && op ≤ 0x77) || (0x90 ≤ op && op ≤ 0x93) then some 64
  else none

/-- Offset field of an engine word: format EA has AR above 20 bits, format E 24 bits (R169). -/
def descDoff (w : W64) : Nat :=
  let op := (w >>> 56).toNat
  if (0x50 ≤ op && op ≤ 0x54) || (0x90 ≤ op && op ≤ 0x93) then w.toNat % 2 ^ 20 else w.toNat % 2 ^ 24

/-- The s-register an instruction word writes (R175 to R180, R191, R196). -/
def writesS (w : W64) : Option (BitVec 5) :=
  let op := (w >>> 56).toNat
  let d : BitVec 5 := (w >>> 47).setWidth 5
  if (0x01 ≤ op && op ≤ 0x0D) || (0x11 ≤ op && op ≤ 0x1D) || (0x20 ≤ op && op ≤ 0x22) || (0x30 ≤ op && op ≤ 0x34)
      || op = 0x38 || op = 0x3A || op = 0x53 || op = 0x63 then some d else none

/-- A window as an XSPEC that the scan passes will open it (R159, R173). -/
def State.opened (s : State) (c : CoreId) (v : Fin 2) : State :=
  s.modWin c v (fun z => { z with state := .open_, younger := if z.state = .closed then (s.win c (otherWin v)).state != .closed else z.younger })

/-- The next engine instruction from an address, at most `fuel` words on: its word, its address, the window it is in, and the
state whose redirection it has: with the windows opened that passed XSPECs open (R173). The scan ends at a word that leaves
program order, at an SST, and at an HWAIT with DF that is not satisfied; `ws` are the registers that passed instructions
write. -/
def State.scanAhead (s : State) (c : CoreId) (q : SeqId) (pc : Off) (win : Option (Fin 2)) (ws : List (BitVec 5)) :
    Nat → Option (W64 × Off × Option (Fin 2) × State)
  | 0 => none
  | fuel + 1 =>
    let w := BitVec.ofNat 64 (Mem.readN (s.core c).store pc.toNat 8)
    let op := (w >>> 56).toNat
    let go (s : State) (win : Option (Fin 2)) (ws : List (BitVec 5)) := s.scanAhead c q (pc + 8) win ws fuel
    match descSize w with
    | some _ => if ws.contains ((w >>> 47).setWidth 5) then none else some (w, pc, win, s)
    | none =>
      if op = 0x39 || (0xA1 ≤ op && op ≤ 0xA3) || op = 0xA5 then none
      else if op = 0x62 && w.getLsbD 28 then
        let z := s.seq c q
        let sa : BitVec 5 := (w >>> 47).setWidth 5
        if ws.contains sa || !satisfied (s.hurdle ((w >>> 29).setWidth 12)) ((z.rs sa).setWidth 32) then none else go s win ws
      else if op = 0x80 then
        let v : Fin 2 := if w.getLsbD 41 then 1 else 0
        go (s.opened c v) (some v) ws
      else match writesS w with
        | some d => go s win (d :: ws)
        | none => go s win ws

/-- A sequencer reads ahead the descriptor of its next engine instruction once the conditions of R173 hold. One whose read
would fault is left to its issue. -/
def execDescriptorReadAhead (c : CoreId) (q : SeqId) (s : State) : Out :=
  let z := s.seq c q
  let live := match z.state with | .run | .wait | .stopping => true | _ => false
  if (s.core c).ctx.isNone || !live || z.ahead.isSome || !z.sst.isEmpty || (z.state = .wait && z.waitDf) then .next s else
  match s.scanAhead c q z.pc (s.issueWin c q) [] 256 with
  | none => .next s
  | some (w, pc, win, t) =>
    match descSize w with
    | none => .next s
    | some n =>
      let off := descOff z ((w >>> 47).setWidth 5) (descDoff w)
      match t.readDesc c q win off n with
      | .ok d => .next (s.setSeq c q { z with ahead := some ⟨pc, off, d⟩ })
      | .error _ => .next s

end Sys2Proof.Machine
end

