-- ==== Sys2Proof/Machine/Flags.lean ====
section
/-! DEFINITION. The conditions of SCMP and the functions of SPRED (R177). There are no condition flags: predicates carry
every condition (R123). -/

namespace Sys2Proof.Machine
open Sys2Proof

/-- Condition FN on two 64-bit operands; the FP32 conditions take bits [31:0] (R177). Values 10 to 15 are reserved and
refused before this. -/
def condition (fn : Nat) (a b : W64) : Bool :=
  let fc := (f32 (a.setWidth 32)).cmp (f32 (b.setWidth 32))
  match fn with
  | 0 => a == b
  | 1 => a != b
  | 2 => a.slt b
  | 3 => !(a.slt b)
  | 4 => a.ult b
  | 5 => !(a.ult b)
  | 6 => match fc with | some z => z < 0 | none => false
  | 7 => match fc with | some z => z ≤ 0 | none => false
  | 8 => match fc with | some z => z == 0 | none => false
  | _ => fc.isNone

/-- Function FN of two predicates (R177). Values 4 to 15 are reserved and refused before this. -/
def predFn (fn : Nat) (a b : Bool) : Bool :=
  match fn with
  | 0 => a && b
  | 1 => a || b
  | 2 => xor a b
  | _ => a && !b

end Sys2Proof.Machine
end

