-- ==== Sys2Proof/Machine/Scalar.lean ====
section
/-! DEFINITION. The S class (R175 to R179). -/

namespace Sys2Proof.Machine
open Sys2Proof

/-! ## Integer operations (R175, R176) -/

/-- Signed quotient truncated toward zero; all ones by zero; −2⁶³ by −1 is −2⁶³ (R176). -/
def divS (a b : W64) : W64 := if b = 0 then BitVec.allOnes 64 else a.sdiv b
/-- Unsigned quotient; all ones by zero. -/
def divU (a b : W64) : W64 := if b = 0 then BitVec.allOnes 64 else a.udiv b
/-- Signed remainder, the sign of the dividend; the dividend by zero; 0 for −2⁶³ by −1. -/
def remS (a b : W64) : W64 := if b = 0 then a else a.srem b
/-- Unsigned remainder; the dividend by zero. -/
def remU (a b : W64) : W64 := if b = 0 then a else a.umod b
/-- Shifts by bits [5:0] of the second operand. -/
def shlOp (a b : W64) : W64 := a <<< (b.toNat % 64)
def shrOp (a b : W64) : W64 := a >>> (b.toNat % 64)
def sraOp (a b : W64) : W64 := a.sshiftRight (b.toNat % 64)

/-- s[D] := f s[A] s[B]. The operand fields an operation does not use, C and FN, are not reserved bits (R169). -/
def State.rrr (s : State) (c : CoreId) (q : SeqId) (w : SR) (f : W64 → W64 → W64) : Out :=
  s.issueSR c q w false (fun s _ => retireSeq s c q (fun z => z.ws w.d (f (z.rs w.a) (z.rs w.b))))

/-- s[D] := f s[A] IMM. -/
def State.rri (s : State) (c : CoreId) (q : SeqId) (w : SI) (f : W64 → W64 → W64) : Out :=
  s.issueSI c q w false (fun s _ => retireSeq s c q (fun z => z.ws w.d (f (z.rs w.a) (immS w.imm))))

def execSadd (c : CoreId) (q : SeqId) (w : SR) (s : State) : Out := s.rrr c q w (· + ·)
def execSsub (c : CoreId) (q : SeqId) (w : SR) (s : State) : Out := s.rrr c q w (· - ·)
def execSand (c : CoreId) (q : SeqId) (w : SR) (s : State) : Out := s.rrr c q w (· &&& ·)
def execSor (c : CoreId) (q : SeqId) (w : SR) (s : State) : Out := s.rrr c q w (· ||| ·)
def execSxor (c : CoreId) (q : SeqId) (w : SR) (s : State) : Out := s.rrr c q w (· ^^^ ·)
def execSshl (c : CoreId) (q : SeqId) (w : SR) (s : State) : Out := s.rrr c q w shlOp
def execSshr (c : CoreId) (q : SeqId) (w : SR) (s : State) : Out := s.rrr c q w shrOp
def execSsra (c : CoreId) (q : SeqId) (w : SR) (s : State) : Out := s.rrr c q w sraOp
def execSmul (c : CoreId) (q : SeqId) (w : SR) (s : State) : Out := s.rrr c q w (· * ·)
def execSdiv (c : CoreId) (q : SeqId) (w : SR) (s : State) : Out := s.rrr c q w divS
def execSdivu (c : CoreId) (q : SeqId) (w : SR) (s : State) : Out := s.rrr c q w divU
def execSrem (c : CoreId) (q : SeqId) (w : SR) (s : State) : Out := s.rrr c q w remS
def execSremu (c : CoreId) (q : SeqId) (w : SR) (s : State) : Out := s.rrr c q w remU
def execSaddi (c : CoreId) (q : SeqId) (w : SI) (s : State) : Out := s.rri c q w (· + ·)
def execSsubi (c : CoreId) (q : SeqId) (w : SI) (s : State) : Out := s.rri c q w (· - ·)
def execSandi (c : CoreId) (q : SeqId) (w : SI) (s : State) : Out := s.rri c q w (· &&& ·)
def execSori (c : CoreId) (q : SeqId) (w : SI) (s : State) : Out := s.rri c q w (· ||| ·)
def execSxori (c : CoreId) (q : SeqId) (w : SI) (s : State) : Out := s.rri c q w (· ^^^ ·)
def execSshli (c : CoreId) (q : SeqId) (w : SI) (s : State) : Out := s.rri c q w shlOp
def execSshri (c : CoreId) (q : SeqId) (w : SI) (s : State) : Out := s.rri c q w shrOp
def execSsrai (c : CoreId) (q : SeqId) (w : SI) (s : State) : Out := s.rri c q w sraOp
def execSmuli (c : CoreId) (q : SeqId) (w : SI) (s : State) : Out := s.rri c q w (· * ·)
def execSdivi (c : CoreId) (q : SeqId) (w : SI) (s : State) : Out := s.rri c q w divS
def execSdivui (c : CoreId) (q : SeqId) (w : SI) (s : State) : Out := s.rri c q w divU
def execSremi (c : CoreId) (q : SeqId) (w : SI) (s : State) : Out := s.rri c q w remS
def execSremui (c : CoreId) (q : SeqId) (w : SI) (s : State) : Out := s.rri c q w remU

/-! ## Moves (R175) -/

def execSmovi (c : CoreId) (q : SeqId) (w : SI) (s : State) : Out := s.rri c q w (fun _ i => i)

def execSmovhi (c : CoreId) (q : SeqId) (w : SI) (s : State) : Out :=
  s.issueSI c q w false (fun s _ => retireSeq s c q (fun z => z.ws w.d (w.imm ++ (z.rs w.d).setWidth 32)))

/-- s[D] := a[A]; A above 15 is illegal (R170). -/
def execSmova (c : CoreId) (q : SeqId) (w : SR) (s : State) : Out :=
  s.issueSR c q w (aReg w.a).isNone (fun s _ => match aReg w.a with
    | some a => retireSeq s c q (fun z => z.ws w.d ((z.ra a).setWidth 64))
    | none => .fault .xIllegal [])

/-- A write of an a-register; D above 15 is illegal (R170). -/
def State.toA (s : State) (c : CoreId) (q : SeqId) (d : BitVec 5) (f : Seq → VAddr) : Issued :=
  match aReg d with
  | some r => retireSeq s c q (fun z => z.wa r (f z))
  | none => .fault .xIllegal []

def execAmov (c : CoreId) (q : SeqId) (w : SR) (s : State) : Out :=
  s.issueSR c q w (aReg w.d).isNone (fun s _ => s.toA c q w.d (fun z => (z.rs w.a).setWidth 57))

/-- a[D] := (a[A] + s[B]) mod 2^57. -/
def execAadd (c : CoreId) (q : SeqId) (w : SR) (s : State) : Out :=
  s.issueSR c q w ((aReg w.d).isNone || (aReg w.a).isNone) (fun s _ =>
    s.toA c q w.d (fun z => z.ra (w.a.setWidth 4) + (z.rs w.b).setWidth 57))

def execAaddi (c : CoreId) (q : SeqId) (w : SI) (s : State) : Out :=
  s.issueSI c q w ((aReg w.d).isNone || (aReg w.a).isNone) (fun s _ =>
    s.toA c q w.d (fun z => z.ra (w.a.setWidth 4) + (immS w.imm).setWidth 57))

/-! ## Predicates (R177) -/

/-- A write of a predicate register; D above 7 is illegal (R170). -/
def State.toP (s : State) (c : CoreId) (q : SeqId) (d : BitVec 5) (f : Seq → Bool) : Issued :=
  match pReg d with
  | some r => retireSeq s c q (fun z => z.wp r (f z))
  | none => .fault .xIllegal []

def execScmp (c : CoreId) (q : SeqId) (w : SR) (s : State) : Out :=
  s.issueSR c q w ((pReg w.d).isNone || 10 ≤ w.fn.toNat) (fun s _ =>
    s.toP c q w.d (fun z => condition w.fn.toNat (z.rs w.a) (z.rs w.b)))

def execScmpi (c : CoreId) (q : SeqId) (w : SI) (s : State) : Out :=
  s.issueSI c q w ((pReg w.d).isNone || 10 ≤ w.fn.toNat) (fun s _ =>
    s.toP c q w.d (fun z => condition w.fn.toNat (z.rs w.a) (immS w.imm)))

def execSpred (c : CoreId) (q : SeqId) (w : SR) (s : State) : Out :=
  s.issueSR c q w ((pReg w.d).isNone || (pReg w.a).isNone || (pReg w.b).isNone || 4 ≤ w.fn.toNat) (fun s _ =>
    s.toP c q w.d (fun z => predFn w.fn.toNat (z.rp (w.a.setWidth 3)) (z.rp (w.b.setWidth 3))))

/-! ## FP32 (R175, R176) -/

/-- An FP32 result of FP32 operands: bits [31:0], with bits [63:32] cleared. -/
def f2 (f : W32 → W32 → W32) (a b : W64) : W64 := (f (a.setWidth 32) (b.setWidth 32)).setWidth 64

def execFadd (c : CoreId) (q : SeqId) (w : SR) (s : State) : Out := s.rrr c q w (f2 fAdd)
def execFmul (c : CoreId) (q : SeqId) (w : SR) (s : State) : Out := s.rrr c q w (f2 fMul)
def execFfma (c : CoreId) (q : SeqId) (w : SR) (s : State) : Out :=
  s.issueSR c q w false (fun s _ => retireSeq s c q (fun z => z.ws w.d
    ((fFma ((z.rs w.a).setWidth 32) ((z.rs w.b).setWidth 32) ((z.rs w.cc).setWidth 32)).setWidth 64)))
def execFcvti (c : CoreId) (q : SeqId) (w : SR) (s : State) : Out := s.rrr c q w (fun a _ => fToInt (a.setWidth 32))
def execIcvtf (c : CoreId) (q : SeqId) (w : SR) (s : State) : Out := s.rrr c q w (fun a _ => (intToF a).setWidth 64)

/-! ## Loads, stores and system values (R178, R179) -/

/-- The address s[A][29:0] + IMM: negative or 2^30 and above is X_REGION, a misaligned one X_ALIGN (R179). -/
def memAddr (z : Seq) (w : SI) : Except EvName Nat :=
  let a : Int := ((z.rs w.a).toNat % 2 ^ 30 : Nat) + w.imm.toInt
  if a < 0 || 2 ^ 30 ≤ a then .error .xRegion
  else if a % 8 != 0 then .error .xAlign
  else .ok a.toNat

def execSld (c : CoreId) (q : SeqId) (w : SI) (s : State) : Out :=
  s.issueSI c q w false (fun s _ =>
    match memAddr (s.seq c q) w with
    | .error e => .fault e []
    | .ok a => match s.access c q (s.issueWin c q) .read a 8 with
      | .error e => .fault e []
      | .ok a => retireSeq s c q (fun z => z.ws w.d (BitVec.ofNat 64 (Mem.readN (s.core c).store a 8))))

/-- The store is issued here and written before the sequencer's next instruction issues (R132). -/
def execSst (c : CoreId) (q : SeqId) (w : SI) (s : State) : Out :=
  s.issueSI c q w false (fun s _ =>
    match memAddr (s.seq c q) w with
    | .error e => .fault e []
    | .ok a => match s.access c q (s.issueWin c q) .write a 8 with
      | .error e => .fault e []
      | .ok a => retireSeq s c q (fun z => { z with sst := z.sst ++ [(a, z.rs w.d)], ahead := none }))

/-- The system values of R178. -/
def State.sysValue (s : State) (c : CoreId) (q : SeqId) (x : CtxId) : Nat → Option W64
  | 0 => some s.ptb
  | 1 => some (BitVec.ofNat 64 c)
  | 2 => some (BitVec.ofNat 64 x)
  | 3 => some (s.pkg.setWidth 64)
  | 4 => some (BitVec.ofNat 64 (s.core c).aclk)
  | 5 => some (BitVec.ofNat 64 (seqUnit q))
  | _ => none

def execSsys (c : CoreId) (q : SeqId) (w : SI) (s : State) : Out :=
  s.issueSI c q w (6 ≤ w.imm.toNat) (fun s x => match s.sysValue c q x w.imm.toNat with
    | some v => retireSeq s c q (fun z => z.ws w.d v)
    | none => .fault .xIllegal [])

end Sys2Proof.Machine
end

