-- ==== Sys2Proof/Machine/Smb.lean ====
section
/-! DEFINITION. The SMBus target (R395 to R397, R540). Each command says whether its PEC is right; the reply stands where the PF's
last reply does. -/

namespace Sys2Proof.Machine
open Sys2Proof

/-- The target serves a command: not in Off, with a right PEC, and not in Deep sleep unless it is one of those of R396. -/
def State.smbServes (s : State) (pec deepToo : Bool) : Bool := pec && s.psc.state != .off && (deepToo || s.psc.state != .deep)

/-- The command before a status read was served, or refused (notes/assumptions/44). -/
def State.smbDone (s : State) (refused : Bool) : State := { s with smbRefused := refused }

/-- 0x10: the pointer. -/
def execSmbSetPointer (v : W32) (pec : Bool) (s : State) : Out :=
  if s.smbServes pec false then .next { s.smbDone false with smbPtr := v } else .next s

/-- 0x11: the word at the pointer, which advances by 4. In Deep sleep a word of the GLB block comes from the copy taken at entry. -/
def execSmbReadWord (pec : Bool) (s : State) : Out :=
  let p := s.smbPtr.toNat
  if !s.smbServes pec (pageOf p = some .glb) then .next s
  else if s.psc.state = .deep then
    .next { s.smbDone false with smbPtr := s.smbPtr + 4, reply := vset s.reply 0 ((smGet (fun _ => 0) s.glbCopy (homeOff p)).setWidth 64) }
  else .next { (s.smbDone false).readReg 0 p false with smbPtr := s.smbPtr + 4 }

/-- Offsets that SMBus may write (R395). -/
def smbWritable (off : Nat) : Bool :=
  match pageOf off with
  | some .psc | some .crn | some .smb => true
  | _ => off = Reg.HNG_PHOTO_INDEX

/-- 0x12: a write of the word at the pointer, which advances by 4; refused for any other offset. -/
def execSmbWriteWord (v : W32) (pec : Bool) (s : State) : Out :=
  let p := s.smbPtr.toNat / 4 * 4
  if !s.smbServes pec false then .next s
  else if smbWritable p then .next { (s.smbDone false).writeWord 0 p v with smbPtr := s.smbPtr + 4 }
  else .next (s.smbDone true)

/-- 0x13: Wake, an edge. `latch`: it arrives in step 4 of an entry, and is lost (R482). -/
def execSmbWake (latch pec : Bool) (s : State) : Out :=
  if !s.smbServes pec true then .next s
  else if s.psc.entry.isSome && latch then .next (s.smbDone false) else .next ((s.smbDone false).wakeBy true)

/-- The status byte (R395). -/
def State.smbStatus (s : State) : Nat :=
  boolNat (s.psc.state = .run) + 2 * boolNat (!s.psc.heldWr.isEmpty) + 4 * boolNat s.smbRefused + 8 * boolNat s.inWarmUp

/-- 0x14: status. -/
def execSmbStatus (pec : Bool) (s : State) : Out :=
  if s.smbServes pec true then .next { s with reply := vset s.reply 0 (BitVec.ofNat 64 s.smbStatus) } else .next s

/-- An Alert Response returns the target's address, while ALERT_N is asserted (R397; notes/assumptions/44). -/
def execSmbAlertResponse (s : State) : Out :=
  if s.alertPin then .next { s with reply := vset s.reply 0 (BitVec.ofNat 64 (0x58 + s.pins.straps)) } else .next s

/-- An address match wakes the part from Deep sleep, and is latched until the exit completes (R396, R481). -/
def execSmbAddressMatch (s : State) : Out :=
  if s.psc.state = .deep then .next ((s.modPsc (fun p => { p with wakeMatch := true })).wakeBy true)
  else if s.psc.entry = some .deep then .next (s.modPsc (fun p => { p with wakeMatch := true }))
  else .next s

/-- SCL has been low for more than 35 ms (R540): the target releases the bus and abandons the transaction, which then has had no
effect. -/
def execSmbBusTimeout (s : State) : Out := .next s

end Sys2Proof.Machine
end

