-- ==== Sys2Proof/Machine/Dispatch.lean ====
section
/-! DEFINITION. The meaning of every command, one arm per constructor. -/
namespace Sys2Proof.Machine
open Sys2Proof

def exec (i : Instr) (s : State) : Host.Outcome State Fault Refusal :=
  match i with

  | .sadd c q w => Sys2Proof.Machine.execSadd c q w s
  | .ssub c q w => Sys2Proof.Machine.execSsub c q w s
  | .sand c q w => Sys2Proof.Machine.execSand c q w s
  | .sor c q w => Sys2Proof.Machine.execSor c q w s
  | .sxor c q w => Sys2Proof.Machine.execSxor c q w s
  | .sshl c q w => Sys2Proof.Machine.execSshl c q w s
  | .sshr c q w => Sys2Proof.Machine.execSshr c q w s
  | .ssra c q w => Sys2Proof.Machine.execSsra c q w s
  | .smul c q w => Sys2Proof.Machine.execSmul c q w s
  | .sdiv c q w => Sys2Proof.Machine.execSdiv c q w s
  | .sdivu c q w => Sys2Proof.Machine.execSdivu c q w s
  | .srem c q w => Sys2Proof.Machine.execSrem c q w s
  | .sremu c q w => Sys2Proof.Machine.execSremu c q w s
  | .saddi c q w => Sys2Proof.Machine.execSaddi c q w s
  | .ssubi c q w => Sys2Proof.Machine.execSsubi c q w s
  | .sandi c q w => Sys2Proof.Machine.execSandi c q w s
  | .sori c q w => Sys2Proof.Machine.execSori c q w s
  | .sxori c q w => Sys2Proof.Machine.execSxori c q w s
  | .sshli c q w => Sys2Proof.Machine.execSshli c q w s
  | .sshri c q w => Sys2Proof.Machine.execSshri c q w s
  | .ssrai c q w => Sys2Proof.Machine.execSsrai c q w s
  | .smuli c q w => Sys2Proof.Machine.execSmuli c q w s
  | .sdivi c q w => Sys2Proof.Machine.execSdivi c q w s
  | .sdivui c q w => Sys2Proof.Machine.execSdivui c q w s
  | .sremi c q w => Sys2Proof.Machine.execSremi c q w s
  | .sremui c q w => Sys2Proof.Machine.execSremui c q w s
  | .smovi c q w => Sys2Proof.Machine.execSmovi c q w s
  | .smovhi c q w => Sys2Proof.Machine.execSmovhi c q w s
  | .smova c q w => Sys2Proof.Machine.execSmova c q w s
  | .amov c q w => Sys2Proof.Machine.execAmov c q w s
  | .aadd c q w => Sys2Proof.Machine.execAadd c q w s
  | .aaddi c q w => Sys2Proof.Machine.execAaddi c q w s
  | .scmp c q w => Sys2Proof.Machine.execScmp c q w s
  | .scmpi c q w => Sys2Proof.Machine.execScmpi c q w s
  | .spred c q w => Sys2Proof.Machine.execSpred c q w s
  | .fadd c q w => Sys2Proof.Machine.execFadd c q w s
  | .fmul c q w => Sys2Proof.Machine.execFmul c q w s
  | .ffma c q w => Sys2Proof.Machine.execFfma c q w s
  | .fcvti c q w => Sys2Proof.Machine.execFcvti c q w s
  | .icvtf c q w => Sys2Proof.Machine.execIcvtf c q w s
  | .sld c q w => Sys2Proof.Machine.execSld c q w s
  | .sst c q w => Sys2Proof.Machine.execSst c q w s
  | .ssys c q w => Sys2Proof.Machine.execSsys c q w s
  | .nop c q w => Sys2Proof.Machine.execNop c q w s
  | .br c q w => Sys2Proof.Machine.execBr c q w s
  | .call c q w => Sys2Proof.Machine.execCall c q w s
  | .jr c q w => Sys2Proof.Machine.execJr c q w s
  | .cheap c q w => Sys2Proof.Machine.execCheap c q w s
  | .endIssue c q w => Sys2Proof.Machine.execEndIssue c q w s
  | .mshape c q w => Sys2Proof.Machine.execMshape c q w s
  | .mpre c q w => Sys2Proof.Machine.execMpre c q w s
  | .mpass c q w => Sys2Proof.Machine.execMpass c q w s
  | .mdrain c q w => Sys2Proof.Machine.execMdrain c q w s
  | .tstream c q w => Sys2Proof.Machine.execTstream c q w s
  | .trearm c q w => Sys2Proof.Machine.execTrearm c q w s
  | .tcancel c q w => Sys2Proof.Machine.execTcancel c q w s
  | .tstat c q w => Sys2Proof.Machine.execTstat c q w s
  | .tgather c q w => Sys2Proof.Machine.execTgather c q w s
  | .harm c q w => Sys2Proof.Machine.execHarm c q w s
  | .harrive c q w => Sys2Proof.Machine.execHarrive c q w s
  | .hwait c q w => Sys2Proof.Machine.execHwait c q w s
  | .hread c q w => Sys2Proof.Machine.execHread c q w s
  | .wnorm c q w => Sys2Proof.Machine.execWnorm c q w s
  | .wnormb c q w => Sys2Proof.Machine.execWnormb c q w s
  | .wsmax c q w => Sys2Proof.Machine.execWsmax c q w s
  | .wsmaxb c q w => Sys2Proof.Machine.execWsmaxb c q w s
  | .wact c q w => Sys2Proof.Machine.execWact c q w s
  | .wactb c q w => Sys2Proof.Machine.execWactb c q w s
  | .wew c q w => Sys2Proof.Machine.execWew c q w s
  | .wloss c q w => Sys2Proof.Machine.execWloss c q w s
  | .xspec c q w => Sys2Proof.Machine.execXspec c q w s
  | .xcommit c q w => Sys2Proof.Machine.execXcommit c q w s
  | .xdiscard c q w => Sys2Proof.Machine.execXdiscard c q w s
  | .xstash c q w => Sys2Proof.Machine.execXstash c q w s
  | .xrecall c q w => Sys2Proof.Machine.execXrecall c q w s
  | .xfree c q w => Sys2Proof.Machine.execXfree c q w s
  | .xrcheck c q w => Sys2Proof.Machine.execXrcheck c q w s
  | .ugrad c q w => Sys2Proof.Machine.execUgrad c q w s
  | .usignPlane c q w => Sys2Proof.Machine.execUsignPlane c q w s
  | .usignStep c q w => Sys2Proof.Machine.execUsignStep c q w s
  | .uapply c q w => Sys2Proof.Machine.execUapply c q w s
  | .uapplyWrite c => Sys2Proof.Machine.execUapplyWrite c s
  | .upubInit c q w => Sys2Proof.Machine.execUpubInit c q w s
  | .upubPublish c q w => Sys2Proof.Machine.execUpubPublish c q w s
  | .upubVerdict c q w => Sys2Proof.Machine.execUpubVerdict c q w s
  | .descriptorReadAhead c q => Sys2Proof.Machine.execDescriptorReadAhead c q s
  | .arrayCommandAccept c => Sys2Proof.Machine.execArrayCommandAccept c s
  | .shapeReconfigured c => Sys2Proof.Machine.execShapeReconfigured c s
  | .preloadStart c => Sys2Proof.Machine.execPreloadStart c s
  | .preloadComplete c b => Sys2Proof.Machine.execPreloadComplete c b s
  | .passStart c => Sys2Proof.Machine.execPassStart c s
  | .passComplete c => Sys2Proof.Machine.execPassComplete c s
  | .drainStart c => Sys2Proof.Machine.execDrainStart c s
  | .drainComplete c b => Sys2Proof.Machine.execDrainComplete c b s
  | .rowCommandComplete c => Sys2Proof.Machine.execRowCommandComplete c s
  | .harmAtHome c q => Sys2Proof.Machine.execHarmAtHome c q s
  | .hurdleArrival hid k => Sys2Proof.Machine.execHurdleArrival hid k s
  | .hrdCtlWrite hid v => Sys2Proof.Machine.execHrdCtlWrite hid v s
  | .quiesceComplete x => Sys2Proof.Machine.execQuiesceComplete x s
  | .saveComplete x t => Sys2Proof.Machine.execSaveComplete x t s
  | .restoreComplete x => Sys2Proof.Machine.execRestoreComplete x s
  | .specCommitComplete c w => Sys2Proof.Machine.execSpecCommitComplete c w s
  | .specDiscardComplete c w => Sys2Proof.Machine.execSpecDiscardComplete c w s
  | .streamArm c j => Sys2Proof.Machine.execStreamArm c j s
  | .gatherArm c => Sys2Proof.Machine.execGatherArm c s
  | .lineGenerate c gth => Sys2Proof.Machine.execLineGenerate c gth s
  | .lineTagGrant c gth => Sys2Proof.Machine.execLineTagGrant c gth s
  | .lineComplete c gth j n => Sys2Proof.Machine.execLineComplete c gth j n s
  | .strResumeWrite c v => Sys2Proof.Machine.execStrResumeWrite c v s
  | .strAbortWrite c v => Sys2Proof.Machine.execStrAbortWrite c v s
  | .gthResumeWrite c v => Sys2Proof.Machine.execGthResumeWrite c v s
  | .gthAbortWrite c v => Sys2Proof.Machine.execGthAbortWrite c v s
  | .prgResponse c gth j ok => Sys2Proof.Machine.execPrgResponse c gth j ok s
  | .watchEntryExpire n t => Sys2Proof.Machine.execWatchEntryExpire n t s
  | .xrcheckCompare c => Sys2Proof.Machine.execXrcheckCompare c s
  | .stashCopyComplete c => Sys2Proof.Machine.execStashCopyComplete c s
  | .stashSpillComplete c => Sys2Proof.Machine.execStashSpillComplete c s
  | .stashStallTimeout c row t => Sys2Proof.Machine.execStashStallTimeout c row t s
  | .hbmRead c gth j n e => Sys2Proof.Machine.execHbmRead c gth j n e s
  | .hbmWrite c gth j n => Sys2Proof.Machine.execHbmWrite c gth j n s
  | .wcbIdleWriteback line => Sys2Proof.Machine.execWcbIdleWriteback line s
  | .scrub pa e => Sys2Proof.Machine.execScrub pa e s
  | .softRepairComplete pa => Sys2Proof.Machine.execSoftRepairComplete pa s
  | .memInvalWrite v => Sys2Proof.Machine.execMemInvalWrite v s
  | .memInvalComplete => Sys2Proof.Machine.execMemInvalComplete s
  | .memFlushWrite v => Sys2Proof.Machine.execMemFlushWrite v s
  | .memFlushComplete => Sys2Proof.Machine.execMemFlushComplete s
  | .atsInvalidation p page present => Sys2Proof.Machine.execAtsInvalidation p page present s
  | .flitSlot p => Sys2Proof.Machine.execFlitSlot p s
  | .idleFlit p h down => Sys2Proof.Machine.execIdleFlit p h down s
  | .dataFlit p h vc tseq msgs => Sys2Proof.Machine.execDataFlit p h vc tseq msgs s
  | .ctrlLaneSwap p h fibre lambda tx => Sys2Proof.Machine.execCtrlLaneSwap p h fibre lambda tx s
  | .ctrlWidthChange p h w tx => Sys2Proof.Machine.execCtrlWidthChange p h w tx s
  | .openRx p h => Sys2Proof.Machine.execOpenRx p h s
  | .tsyncFlit p h t => Sys2Proof.Machine.execTsyncFlit p h t s
  | .noticeFlit p h cause => Sys2Proof.Machine.execNoticeFlit p h cause s
  | .identFlit p h id => Sys2Proof.Machine.execIdentFlit p h id s
  | .rdReq n => Sys2Proof.Machine.execRdReq n s
  | .rdRsp n => Sys2Proof.Machine.execRdRsp n s
  | .wr n => Sys2Proof.Machine.execWr n s
  | .wrAck n => Sys2Proof.Machine.execWrAck n s
  | .refuse n => Sys2Proof.Machine.execRefuse n s
  | .peerLost n => Sys2Proof.Machine.execPeerLost n s
  | .arriveMessage n => Sys2Proof.Machine.execArriveMessage n s
  | .tsyncRequest t => Sys2Proof.Machine.execTsyncRequest t s
  | .lossOfLight p => Sys2Proof.Machine.execLossOfLight p s
  | .codewordLockLoss p => Sys2Proof.Machine.execCodewordLockLoss p s
  | .peerDownCount p => Sys2Proof.Machine.execPeerDownCount p s
  | .portMarkLost p => Sys2Proof.Machine.execPortMarkLost p s
  | .lightRegained p => Sys2Proof.Machine.execLightRegained p s
  | .portTrained p wtx wrx stx srx => Sys2Proof.Machine.execPortTrained p wtx wrx stx srx s
  | .trainTimeout p t => Sys2Proof.Machine.execTrainTimeout p t s
  | .trainRetry p t => Sys2Proof.Machine.execTrainRetry p t s
  | .laneSpare p tx fibre lambda => Sys2Proof.Machine.execLaneSpare p tx fibre lambda s
  | .widthReduce p tx => Sys2Proof.Machine.execWidthReduce p tx s
  | .laserSample p k dbm => Sys2Proof.Machine.execLaserSample p k dbm s
  | .lnkRetrain p => Sys2Proof.Machine.execLnkRetrain p s
  | .lnkOpen p => Sys2Proof.Machine.execLnkOpen p s
  | .lnkDisable p v => Sys2Proof.Machine.execLnkDisable p v s
  | .refclkSysLoss => Sys2Proof.Machine.execRefclkSysLoss s
  | .refclkLinkLoss => Sys2Proof.Machine.execRefclkLinkLoss s
  | .ptbReplicaReload t => Sys2Proof.Machine.execPtbReplicaReload t s
  | .relayQueueKick => Sys2Proof.Machine.execRelayQueueKick s
  | .relayQueuePoll d x q => Sys2Proof.Machine.execRelayQueuePoll d x q s
  | .reduceScatter d id => Sys2Proof.Machine.execReduceScatter d id s
  | .allReduce d id => Sys2Proof.Machine.execAllReduce d id s
  | .allGather d id => Sys2Proof.Machine.execAllGather d id s
  | .dispatch d id => Sys2Proof.Machine.execDispatch d id s
  | .combine d id => Sys2Proof.Machine.execCombine d id s
  | .ugradReduce d id => Sys2Proof.Machine.execUgradReduce d id s
  | .norm d id => Sys2Proof.Machine.execNorm d id s
  | .codes d id => Sys2Proof.Machine.execCodes d id s
  | .vote d id => Sys2Proof.Machine.execVote d id s
  | .relayCommandStart d => Sys2Proof.Machine.execRelayCommandStart d s
  | .ready n => Sys2Proof.Machine.execReady n s
  | .relayData n => Sys2Proof.Machine.execRelayData n s
  | .relayAck n => Sys2Proof.Machine.execRelayAck n s
  | .relayAbort n => Sys2Proof.Machine.execRelayAbort n s
  | .rows n => Sys2Proof.Machine.execRows n s
  | .relayValue n => Sys2Proof.Machine.execRelayValue n s
  | .relayRefuse n => Sys2Proof.Machine.execRelayRefuse n s
  | .readyResend d id j => Sys2Proof.Machine.execReadyResend d id j s
  | .readyWaitExpire d id t => Sys2Proof.Machine.execReadyWaitExpire d id t s
  | .packIdle d id dst t => Sys2Proof.Machine.execPackIdle d id dst t s
  | .followProbe n x t => Sys2Proof.Machine.execFollowProbe n x t s
  | .bar2Read f off n => Sys2Proof.Machine.execBar2Read f off n s
  | .bar2Write f off bytes => Sys2Proof.Machine.execBar2Write f off bytes s
  | .registerWrite f off v wide full => Sys2Proof.Machine.execRegisterWrite f off v wide full s
  | .registerReadTimeout f off => Sys2Proof.Machine.execRegisterReadTimeout f off s
  | .csetCommit v => Sys2Proof.Machine.execCsetCommit v s
  | .csetDiscard v => Sys2Proof.Machine.execCsetDiscard v s
  | .commitApply n => Sys2Proof.Machine.execCommitApply n s
  | .commitTimeout n off => Sys2Proof.Machine.execCommitTimeout n off s
  | .ptbNowLoRead f => Sys2Proof.Machine.execPtbNowLoRead f s
  | .arrProductsLoRead f c => Sys2Proof.Machine.execArrProductsLoRead f c s
  | .schLoRead f w => Sys2Proof.Machine.execSchLoRead f w s
  | .arrBankStallRead f c => Sys2Proof.Machine.execArrBankStallRead f c s
  | .arrBankStallCycRead f c => Sys2Proof.Machine.execArrBankStallCycRead f c s
  | .arrWindowTruncRead f c => Sys2Proof.Machine.execArrWindowTruncRead f c s
  | .arrSatRead f c k => Sys2Proof.Machine.execArrSatRead f c k s
  | .arrNonfinRead f c k => Sys2Proof.Machine.execArrNonfinRead f c k s
  | .arrUnderRead f c k => Sys2Proof.Machine.execArrUnderRead f c k s
  | .hrdStrayRead f n => Sys2Proof.Machine.execHrdStrayRead f n s
  | .seqIssuedRead f c q => Sys2Proof.Machine.execSeqIssuedRead f c q s
  | .seqGrantWaitRead f c q => Sys2Proof.Machine.execSeqGrantWaitRead f c q s
  | .strQuotaWaitRead f c => Sys2Proof.Machine.execStrQuotaWaitRead f c s
  | .gthQuotaWaitRead f c => Sys2Proof.Machine.execGthQuotaWaitRead f c s
  | .strStaleRead f c => Sys2Proof.Machine.execStrStaleRead f c s
  | .strWatchEvictRead f c => Sys2Proof.Machine.execStrWatchEvictRead f c s
  | .memCeRead f m => Sys2Proof.Machine.execMemCeRead f m s
  | .memUeRead f m => Sys2Proof.Machine.execMemUeRead f m s
  | .memBlockedRead f m => Sys2Proof.Machine.execMemBlockedRead f m s
  | .memInboundCntRead f => Sys2Proof.Machine.execMemInboundCntRead f s
  | .storeStashSpillsRead f c => Sys2Proof.Machine.execStoreStashSpillsRead f c s
  | .storeStashDropsRead f c => Sys2Proof.Machine.execStoreStashDropsRead f c s
  | .storeStashWaitRead f c => Sys2Proof.Machine.execStoreStashWaitRead f c s
  | .genStallRead f c => Sys2Proof.Machine.execGenStallRead f c s
  | .lnkFecCorrRead f p => Sys2Proof.Machine.execLnkFecCorrRead f p s
  | .lnkFecUncorrRead f p => Sys2Proof.Machine.execLnkFecUncorrRead f p s
  | .lnkReplaysRead f p => Sys2Proof.Machine.execLnkReplaysRead f p s
  | .lnkPeerLostRead f p => Sys2Proof.Machine.execLnkPeerLostRead f p s
  | .lnkBadMsgRead f p => Sys2Proof.Machine.execLnkBadMsgRead f p s
  | .relCapDropRead f d => Sys2Proof.Machine.execRelCapDropRead f d s
  | .relReadyRetryRead f d => Sys2Proof.Machine.execRelReadyRetryRead f d s
  | .relRefusedRead f d => Sys2Proof.Machine.execRelRefusedRead f d s
  | .eqDropRead f g => Sys2Proof.Machine.execEqDropRead f g s
  | .pscDroopRead f c => Sys2Proof.Machine.execPscDroopRead f c s
  | .pscRefuseCntRead f k => Sys2Proof.Machine.execPscRefuseCntRead f k s
  | .hngPhotoStatusRead f => Sys2Proof.Machine.execHngPhotoStatusRead f s
  | .hngPhotoDataRead f => Sys2Proof.Machine.execHngPhotoDataRead f s
  | .glbOosClear => Sys2Proof.Machine.execGlbOosClear s
  | .flr f => Sys2Proof.Machine.execFlr f s
  | .doorbellTailWrite f q v whole => Sys2Proof.Machine.execDoorbellTailWrite f q v whole s
  | .eqHeadWrite f v whole => Sys2Proof.Machine.execEqHeadWrite f v whole s
  | .queueNop f q => Sys2Proof.Machine.execQueueNop f q s
  | .copy f q hostErr => Sys2Proof.Machine.execCopy f q hostErr s
  | .fill f q hostErr => Sys2Proof.Machine.execFill f q hostErr s
  | .arrive f q => Sys2Proof.Machine.execArrive f q s
  | .wait f q => Sys2Proof.Machine.execWait f q s
  | .timestamp f q hostErr => Sys2Proof.Machine.execTimestamp f q hostErr s
  | .inval f q => Sys2Proof.Machine.execInval f q s
  | .qcreate f q => Sys2Proof.Machine.execQcreate f q s
  | .qdelete f q => Sys2Proof.Machine.execQdelete f q s
  | .commandComplete f q idx => Sys2Proof.Machine.execCommandComplete f q idx s
  | .waitLimitExpire f q idx t => Sys2Proof.Machine.execWaitLimitExpire f q idx t s
  | .eqModerationExpire f t => Sys2Proof.Machine.execEqModerationExpire f t s
  | .nvmeCompletion n error warn => Sys2Proof.Machine.execNvmeCompletion n error warn s
  | .flashCommandTimeout => Sys2Proof.Machine.execFlashCommandTimeout s
  | .smbSetPointer v pec => Sys2Proof.Machine.execSmbSetPointer v pec s
  | .smbReadWord pec => Sys2Proof.Machine.execSmbReadWord pec s
  | .smbWriteWord v pec => Sys2Proof.Machine.execSmbWriteWord v pec s
  | .smbWake latch pec => Sys2Proof.Machine.execSmbWake latch pec s
  | .smbStatus pec => Sys2Proof.Machine.execSmbStatus pec s
  | .smbAlertResponse => Sys2Proof.Machine.execSmbAlertResponse s
  | .smbAlertRead f => Sys2Proof.Machine.execSmbAlertRead f s
  | .smbAlertDropRead f => Sys2Proof.Machine.execSmbAlertDropRead f s
  | .smbAddressMatch => Sys2Proof.Machine.execSmbAddressMatch s
  | .smbBusTimeout => Sys2Proof.Machine.execSmbBusTimeout s
  | .ctxCreate f q => Sys2Proof.Machine.execCtxCreate f q s
  | .ctxStart f q => Sys2Proof.Machine.execCtxStart f q s
  | .ctxSuspend f q => Sys2Proof.Machine.execCtxSuspend f q s
  | .ctxResume f q => Sys2Proof.Machine.execCtxResume f q s
  | .ctxReset f q => Sys2Proof.Machine.execCtxReset f q s
  | .ctxDestroy f q => Sys2Proof.Machine.execCtxDestroy f q s
  | .ctxEnergy f q hostErr => Sys2Proof.Machine.execCtxEnergy f q hostErr s
  | .heatEnd p t => Sys2Proof.Machine.execHeatEnd p t s
  | .yieldWaitExpire p t => Sys2Proof.Machine.execYieldWaitExpire p t s
  | .stopLimitExpire p t => Sys2Proof.Machine.execStopLimitExpire p t s
  | .energySample t core stack rest => Sys2Proof.Machine.execEnergySample t core stack rest s
  | .splTake f q => Sys2Proof.Machine.execSplTake f q s
  | .splStore f q hostErr => Sys2Proof.Machine.execSplStore f q hostErr s
  | .splRestore f q hostErr => Sys2Proof.Machine.execSplRestore f q hostErr s
  | .splitCaptureStop x => Sys2Proof.Machine.execSplitCaptureStop x s
  | .splitCopyStart x => Sys2Proof.Machine.execSplitCopyStart x s
  | .splitTakeTimeout x t => Sys2Proof.Machine.execSplitTakeTimeout x t s
  | .splitData n => Sys2Proof.Machine.execSplitData n s
  | .splitAck n => Sys2Proof.Machine.execSplitAck n s
  | .seal n => Sys2Proof.Machine.execSeal n s
  | .sealAck n => Sys2Proof.Machine.execSealAck n s
  | .readReq n => Sys2Proof.Machine.execReadReq n s
  | .readRsp n => Sys2Proof.Machine.execReadRsp n s
  | .splitRefuse n => Sys2Proof.Machine.execSplitRefuse n s
  | .flashDrainComplete p => Sys2Proof.Machine.execFlashDrainComplete p s
  | .splitDue x t => Sys2Proof.Machine.execSplitDue x t s
  | .watchdogFire k n q t => Sys2Proof.Machine.execWatchdogFire k n q t s
  | .engineResetComplete k n => Sys2Proof.Machine.execEngineResetComplete k n s
  | .engineResetTimeout k n => Sys2Proof.Machine.execEngineResetTimeout k n s
  | .replayCheckpoint x t => Sys2Proof.Machine.execReplayCheckpoint x t s
  | .replayTimeout p t => Sys2Proof.Machine.execReplayTimeout p t s
  | .photoUnitTimeout n started t => Sys2Proof.Machine.execPhotoUnitTimeout n started t s
  | .photoComplete recs t => Sys2Proof.Machine.execPhotoComplete recs t s
  | .hngPhotoTake => Sys2Proof.Machine.execHngPhotoTake s
  | .hngResetWarm v => Sys2Proof.Machine.execHngResetWarm v s
  | .controlPeriod temps mean amps canaries rings t => Sys2Proof.Machine.execControlPeriod temps mean amps canaries rings t s
  | .inputSample vin => Sys2Proof.Machine.execInputSample vin s
  | .inputDegradeTimeout => Sys2Proof.Machine.execInputDegradeTimeout s
  | .inputShutdown => Sys2Proof.Machine.execInputShutdown s
  | .pscInputWrite v => Sys2Proof.Machine.execPscInputWrite v s
  | .frequencyStep c => Sys2Proof.Machine.execFrequencyStep c s
  | .droopTrip c => Sys2Proof.Machine.execDroopTrip c s
  | .droopRecover c => Sys2Proof.Machine.execDroopRecover c s
  | .brimReplan c t => Sys2Proof.Machine.execBrimReplan c t s
  | .thermalTrip => Sys2Proof.Machine.execThermalTrip s
  | .coreIdleEntry c t => Sys2Proof.Machine.execCoreIdleEntry c t s
  | .idleExit c => Sys2Proof.Machine.execIdleExit c s
  | .powerStateAttempt t => Sys2Proof.Machine.execPowerStateAttempt t s
  | .powerStateEntered => Sys2Proof.Machine.execPowerStateEntered s
  | .wakeNLow latch held => Sys2Proof.Machine.execWakeNLow latch held s
  | .wakeTimer latch => Sys2Proof.Machine.execWakeTimer latch s
  | .powerStateExitComplete ticks => Sys2Proof.Machine.execPowerStateExitComplete ticks s
  | .pscCtlOff v => Sys2Proof.Machine.execPscCtlOff v s
  | .powerGoodStage vin rails => Sys2Proof.Machine.execPowerGoodStage vin rails s
  | .crownStage mwDeg meDeg => Sys2Proof.Machine.execCrownStage mwDeg meDeg s
  | .crownClaimTimeout me => Sys2Proof.Machine.execCrownClaimTimeout me s
  | .imageStage w => Sys2Proof.Machine.execImageStage w s
  | .gauntletStage us => Sys2Proof.Machine.execGauntletStage us s
  | .hbmStage w => Sys2Proof.Machine.execHbmStage w s
  | .linkStage t => Sys2Proof.Machine.execLinkStage t s
  | .coreReleaseStage idle => Sys2Proof.Machine.execCoreReleaseStage idle s
  | .recordStage => Sys2Proof.Machine.execRecordStage s
  | .falseStartRetry => Sys2Proof.Machine.execFalseStartRetry s
  | .crownHeartbeat me => Sys2Proof.Machine.execCrownHeartbeat me s
  | .crownHeartbeatReceived mwDeg meDeg t => Sys2Proof.Machine.execCrownHeartbeatReceived mwDeg meDeg t s
  | .crownTakeover me => Sys2Proof.Machine.execCrownTakeover me s
  | .crnWarmup v => Sys2Proof.Machine.execCrnWarmup v s
  | .crnRestart v => Sys2Proof.Machine.execCrnRestart v s
  | .crnLockWrite v => Sys2Proof.Machine.execCrnLockWrite v s
  | .crnStgBegin => Sys2Proof.Machine.execCrnStgBegin s
  | .crnStgDataWrite v => Sys2Proof.Machine.execCrnStgDataWrite v s
  | .crnStgEnd => Sys2Proof.Machine.execCrnStgEnd s
  | .crnStgAbort => Sys2Proof.Machine.execCrnStgAbort s
  | .stageCheckComplete sig own => Sys2Proof.Machine.execStageCheckComplete sig own s
  | .crnActArm v => Sys2Proof.Machine.execCrnActArm v s
  | .crnActDisarm v => Sys2Proof.Machine.execCrnActDisarm v s
  | .crnActCopyNow v => Sys2Proof.Machine.execCrnActCopyNow v s
  | .activationTime t => Sys2Proof.Machine.execActivationTime t s
  | .activationReset t => Sys2Proof.Machine.execActivationReset t s
  | .crnLifeDeploy v => Sys2Proof.Machine.execCrnLifeDeploy v s
  | .crnLifeScrap v => Sys2Proof.Machine.execCrnLifeScrap v s
  | .jtagFusing => Sys2Proof.Machine.execJtagFusing s
  | .gntStart v => Sys2Proof.Machine.execGntStart v s
  | .gauntletRunComplete g => Sys2Proof.Machine.execGauntletRunComplete g s
  | .vaux33Apply straps => Sys2Proof.Machine.execVaux33Apply straps s
  | .pwrgdRise => Sys2Proof.Machine.execPwrgdRise s
  | .pwrgdFall => Sys2Proof.Machine.execPwrgdFall s
  | .perstNAssert => Sys2Proof.Machine.execPerstNAssert s
  | .perstNDeassert speed width flit => Sys2Proof.Machine.execPerstNDeassert speed width flit s
  | .registerRead f off wide => Sys2Proof.Machine.execRegisterRead f off wide s
  | .pcieL1Exit => Sys2Proof.Machine.execPcieL1Exit s
  | .vfEnableClear n => Sys2Proof.Machine.execVfEnableClear n s
  | .flashLinkDown => Sys2Proof.Machine.execFlashLinkDown s
  | .vaux33Remove => Sys2Proof.Machine.execVaux33Remove s
  | .stagingBufferProgrammed n => Sys2Proof.Machine.execStagingBufferProgrammed n s

end Sys2Proof.Machine
end

