-- ==== Sys2Proof/Machine/Idle.lean ====
section
/-! DEFINITION. What the part does when no command waits: a sequencer that stands at a word with a reserved opcode issues it
(R170, R171). The table has no row for such a word, so no command stands for it (DESIGN CHOICE, notes/assumptions/11). -/

namespace Sys2Proof.Machine
open Sys2Proof

/-- A sequencer issues from a word whose opcode R171 does not list. -/
def State.atReserved (s : State) (c : CoreId) (q : SeqId) : Bool :=
  (s.core c).ctx.isSome && s.canIssue c q && (decodeWord c q 0 (s.wordAt c q)).isNone

/-- The first sequencer, by core and then in the order SEQ-F, SEQ-B, SEQ-U, that stands at such a word. -/
def State.reservedAt (s : State) : Option (CoreId × SeqId) :=
  allCores.findSome? (fun c => (allSeqs.find? (s.atReserved c)).map (fun q => (c, q)))

/-- It faults with X_ILLEGAL, unless the predicate of the word is false (R127, R170). -/
def idle (s : State) : Out :=
  match s.reservedAt with
  | none => .next s
  | some (c, q) =>
    let w := s.wordAt c q
    s.issue c q (w.getLsbD 55) ((w >>> 52).setWidth 3) true (fun s _ => .retire s)

end Sys2Proof.Machine
end

