-- ==== Sys2Proof/Machine/UpdateProgram.lean ====
section
/-! DEFINITION. Update programs (R302, R303): the host runtime runs them between steps, to make code planes of sign planes. The part
executes none; their format and meaning are defined so that every host of a group runs the same update. -/

namespace Sys2Proof.Machine
open Sys2Proof

/-- Operations (R303). -/
inductive UpOp where
  | lds | ldt | stt | maj | add | sub | muli | sra | sgn | sel | cgt | abs | movi | out
  deriving DecidableEq, Repr

def upOpOf : Nat → Option UpOp
  | 1 => some .lds | 2 => some .ldt | 3 => some .stt | 4 => some .maj | 5 => some .add | 6 => some .sub | 7 => some .muli | 8 => some .sra
  | 9 => some .sgn | 10 => some .sel | 11 => some .cgt | 12 => some .abs | 13 => some .movi | 14 => some .out | _ => none

structure UpInstr where
  op : UpOp
  d : Nat
  a : Nat
  b : Nat
  c : Nat
  imm : Int
  deriving DecidableEq, Repr

/-- A program, as its header describes it (R302). -/
structure UpProg where
  nsign : Nat
  nstate : Nat
  ops : List UpInstr
  deriving DecidableEq, Repr

/-- An operation within the limits of the header: its inputs and states exist, and its reserved field is zero. -/
def upInstr (nsign nstate : Nat) (w : Nat) : Option UpInstr :=
  match upOpOf (bitsOf w 63 56) with
  | none => none
  | some op =>
    let i : UpInstr := ⟨op, bitsOf w 55 52, bitsOf w 51 48, bitsOf w 47 44, bitsOf w 43 40, (BitVec.ofNat 32 (bitsOf w 31 0)).toInt⟩
    let ok := match op with
      | .lds => decide (i.a < nsign)
      | .maj => decide (i.a + i.b < nsign)
      | .ldt | .stt => decide (i.a < nstate)
      | _ => true
    if bitsOf w 39 32 = 0 && ok then some i else none

/-- The program of its words; none where the host runtime rejects it. -/
def upProg (ws : List Nat) : Option UpProg :=
  let h := (ws[0]?).getD 0
  let n := bitsOf h 47 40
  let ns := bitsOf h 39 32
  let nt := bitsOf h 31 24
  let ops := (ws.drop 8).map (upInstr ns nt)
  if bitsOf h 63 48 = 1 && 1 ≤ n && n ≤ 32 && ns ≤ 16 && nt ≤ 8 && bitsOf h 23 0 = 0 && bitsOf ((ws[1]?).getD 0) 63 32 = 0
      && ((ws.drop 2).take 6).all (· = 0) && ws.length = 8 + n && ops.all (·.isSome)
  then some ⟨ns, nt, ops.filterMap id⟩ else none

def satTo (n : Nat) (v : Int) : Int := max (-(2 ^ (n - 1))) (min (2 ^ (n - 1) - 1) v)
def sgnOf (v : Int) : Int := if v < 0 then -1 else if v = 0 then 0 else 1

/-- The state of one element: registers, state values and the code. -/
structure UpElem where
  r : List Int
  t : List Int
  code : Int
  deriving DecidableEq, Repr

def listSet (l : List Int) (i : Nat) (v : Int) : List Int := l.set i v
def listAt (l : List Int) (i : Nat) : Int := (l[i]?).getD 0

/-- One operation on an element; `sign` gives the bit of each input. -/
def upStep (sign : Nat → Bool) (e : UpElem) (o : UpInstr) : UpElem :=
  let r := listAt e.r
  let lds (k : Nat) : Int := if sign k then -1 else 1
  let put (v : Int) : UpElem := { e with r := listSet e.r o.d (satTo 32 v) }
  match o.op with
  | .lds => put (lds o.a)
  | .ldt => put (listAt e.t o.a)
  | .stt => { e with t := listSet e.t o.a (satTo 16 (r o.b)) }
  | .maj => put (sgnOf ((List.range (o.b + 1)).map (fun k => lds (o.a + k))).sum)
  | .add => put (r o.a + r o.b)
  | .sub => put (r o.a - r o.b)
  | .muli => put (r o.a * o.imm)
  | .sra => put (r o.a / 2 ^ (o.imm % 32).toNat)
  | .sgn => put (sgnOf (r o.a))
  | .sel => put (if r o.c != 0 then r o.a else r o.b)
  | .cgt => put (if r o.b < r o.a then 1 else 0)
  | .abs => put (r o.a).natAbs
  | .movi => put o.imm
  | .out => { e with code := sgnOf (r o.a) }

/-- The program run on one element: its code, and the states it leaves. -/
def UpProg.run (p : UpProg) (sign : Nat → Bool) (t : List Int) : Int × List Int :=
  let e := p.ops.foldl (upStep sign) ⟨List.replicate 16 0, t, 0⟩
  (e.code, e.t)

end Sys2Proof.Machine
end

