-- ==== Sys2Proof/WellFormed.lean ====
section
/-! DEFINITION. What a command must hold beyond its type: the sizes the spec gives to what comes with it. The meanings are total; an
ill-formed command is one that the part cannot meet. -/

namespace Sys2Proof

/-- A line of memory is 256 bytes (R256). -/
def lineOk (l : List Byte) : Bool := l.length = 256

/-- Bytes of a line by offset, each named once. -/
def lineBytesOk (bs : List (Nat × Byte)) : Bool := bs.all (fun b => decide (b.1 < 256)) && (bs.map (·.1)).Nodup

/-- The body of a message has the length its type gives (R325). -/
def MsgBody.ok : MsgBody → Bool
  | .rdRsp l => lineOk l
  | .wr _ bs => lineBytesOk bs
  | _ => true

/-- A BAR0 offset of a function: 64 MiB for the PF and 32 MiB for a VF (R38). -/
def barOk (f : FnId) (off : Nat) : Bool := decide (off < (if f.val = 0 then 2 ^ 26 else 2 ^ 25))

/-- Stream slots 0 to 31, and gather streams 0 to 7 (R219, R249). -/
def slotOk (gth : Bool) (j : Nat) : Bool := decide (j < (if gth then 8 else 32))

/-- The check of each command that needs one. -/
def Instr.ok : Instr → Bool
  | .lineComplete _ gth j _ | .prgResponse _ gth j _ | .hbmRead _ gth j _ _ | .hbmWrite _ gth j _ => slotOk gth j
  | .dataFlit _ _ _ _ msgs => msgs.all (fun m => m.body.ok)
  | .bar2Read _ off n => decide (off % 256 + n.val ≤ 256)
  | .bar2Write _ off bytes => decide (off % 256 + bytes.length ≤ 256)
  | .registerRead f off _ | .registerWrite f off _ _ _ | .registerReadTimeout f off => barOk f off
  | .commitTimeout _ off => barOk 0 off
  | .energySample _ core stack _ => core.length = 8 && stack.length = 16
  | .controlPeriod temps _ amps canaries _ _ => temps.length = 192 && amps.length = 9 && canaries.length = 512
  | .photoComplete recs _ => recs.length = 130
  | .photoUnitTimeout n _ _ => decide (n < 130)
  | .gauntletStage us => us.length = 60
  | .scrub pa _ | .softRepairComplete pa => decide (pa < 2 ^ 40)
  | .wcbIdleWriteback line => decide (line < 2 ^ 32)
  | _ => true

end Sys2Proof
end

