-- ==== Sys2Proof/Safety.lean ====
section
/-! DEFINITION. The terms that claims about the part are stated in: reachable states, the state at issue and after retirement, when
registers answer, and the canonical form of the tables. -/

namespace Sys2Proof.Machine
open Sys2Proof

/-- A state that some commands lead to from reset. -/
inductive Reachable : State → Prop where
  | reset : Reachable State.reset
  | step {s t : State} (i : Instr) : Reachable s → exec i s = .next t → Reachable t

/-- A table of bytes is in canonical form (notes/assumptions/2). -/
def Mem.wf (m : Mem) : Prop := smWf emptyByte m

/-- The part is awake, in service: its start record published, not in warm-up mode, and no power-state entry holds its queues. -/
def State.inService (s : State) : Bool :=
  s.awake && s.fld Reg.GLB_STATUS 25 25 = 1 && !s.inWarmUp

/-- A sequencer issues the instruction at its program counter: its core is bound to a context, it may issue, the word lies in a region
that lets it execute, and the predicate of the word holds (R124, R126, R168). -/
def State.mayIssue (s : State) (c : CoreId) (q : SeqId) (x : CtxId) (pn : Bool) (pr : BitVec 3) : Bool :=
  decide ((s.core c).ctx = some x) && s.canIssue c q
    && ((s.landSst c q).permitted c q .exec ((s.landSst c q).seq c q).pc.toNat 8).isSome
    && xor (((s.landSst c q).seq c q).rp pr) pn

/-- The state once the instruction at the program counter has retired, having left a state. -/
def State.retires (s : State) (c : CoreId) (q : SeqId) (t : State) : State := t.retireTo c q ((s.seq c q).pc + 8)

/-- The state once an instruction has retired that changes registers of its sequencer alone. -/
def State.retiresWith (s : State) (c : CoreId) (q : SeqId) (f : Seq → Seq) : State :=
  s.retires c q ((s.landSst c q).modSeq c q f)

end Sys2Proof.Machine
end

