-- ==== Sys2Proof/Certificates/Slice0/Obligations.lean ====
section
/-! DEFINITION. The statements for the provers: rules of the spec over all states and operands, what every command does where it
completes, and what it leaves unchanged. -/

namespace Sys2Proof.Machine
open Sys2Proof

/-! ## Tables the statements run over -/

/-- Register forms of the integer S class, with their operation on s[A] and s[B] (R175, R176). -/
def aluReg : List ((CoreId → SeqId → SR → Instr) × (W64 → W64 → W64)) :=
  [(.sadd, fun a b => a + b), (.ssub, fun a b => a - b), (.sand, fun a b => a &&& b), (.sor, fun a b => a ||| b), (.sxor, fun a b => a ^^^ b),
   (.sshl, fun a b => a <<< (b.toNat % 64)), (.sshr, fun a b => a >>> (b.toNat % 64)), (.ssra, fun a b => a.sshiftRight (b.toNat % 64)),
   (.smul, fun a b => a * b), (.sdiv, fun a b => if b = 0 then BitVec.allOnes 64 else a.sdiv b),
   (.sdivu, fun a b => if b = 0 then BitVec.allOnes 64 else a.udiv b), (.srem, fun a b => if b = 0 then a else a.srem b),
   (.sremu, fun a b => if b = 0 then a else a.umod b)]

/-- Their immediate forms, with the operation on s[A] and IMM; and SMOVI. -/
def aluImm : List ((CoreId → SeqId → SI → Instr) × (W64 → W64 → W64)) :=
  [(.saddi, fun a b => a + b), (.ssubi, fun a b => a - b), (.sandi, fun a b => a &&& b), (.sori, fun a b => a ||| b), (.sxori, fun a b => a ^^^ b),
   (.sshli, fun a b => a <<< (b.toNat % 64)), (.sshri, fun a b => a >>> (b.toNat % 64)), (.ssrai, fun a b => a.sshiftRight (b.toNat % 64)),
   (.smuli, fun a b => a * b), (.sdivi, fun a b => if b = 0 then BitVec.allOnes 64 else a.sdiv b),
   (.sdivui, fun a b => if b = 0 then BitVec.allOnes 64 else a.udiv b), (.sremi, fun a b => if b = 0 then a else a.srem b),
   (.sremui, fun a b => if b = 0 then a else a.umod b), (.smovi, fun _ b => b)]

/-- FP32 instructions of two operands, and the conversions, on the low words of s[A] and s[B] (R175, R176). -/
def fpReg : List ((CoreId → SeqId → SR → Instr) × (W64 → W64 → W64)) :=
  [(.fadd, fun a b => (fAdd (a.setWidth 32) (b.setWidth 32)).setWidth 64), (.fmul, fun a b => (fMul (a.setWidth 32) (b.setWidth 32)).setWidth 64),
   (.fcvti, fun a _ => fToInt (a.setWidth 32)), (.icvtf, fun a _ => (intToF a).setWidth 64)]

end Sys2Proof.Machine

open Sys2Proof Sys2Proof.Machine

/-! ## The queue, the words, the tables -/

/-- A step runs the command at the front of the queue on the rest; on an empty queue the part idles, unless a sequencer stands at a word
with a reserved opcode (the model's choice, logs 1 and 11). -/
def Obligations.StepRunsFrontCommand : Prop :=
  (∀ (i : Instr) (rest : List Instr) (s : State), s.pending = i :: rest → step s = exec i { s with pending := rest })
  ∧ ∀ s : State, s.pending = [] → (∀ (c : CoreId) (q : SeqId), s.atReserved c q = false) → step s = .next s

/-- The word of every instruction of a sequencer decodes to that instruction, every field at every value (R168, R169, R171). -/
def Obligations.InstructionWordRoundTrip : Prop :=
  ∀ (i : Instr) (c : CoreId) (q : SeqId) (k : Nat) (w : W64), encodeWord i = some (c, q, k, w) → decodeWord c q k w = some i

/-- The opcodes that R171 lists, and no others, spell an instruction. -/
def Obligations.UnlistedOpcodesSpellNone : Prop :=
  ∀ (c : CoreId) (q : SeqId) (k : Nat) (w : W64), (decodeWord c q k w).isSome ↔
    let o := (w >>> 56).toNat
    (0x01 ≤ o ∧ o ≤ 0x0D) ∨ (0x11 ≤ o ∧ o ≤ 0x1D) ∨ (0x20 ≤ o ∧ o ≤ 0x25) ∨ (0x28 ≤ o ∧ o ≤ 0x2A) ∨ (0x30 ≤ o ∧ o ≤ 0x34)
    ∨ (0x38 ≤ o ∧ o ≤ 0x3A) ∨ (0x40 ≤ o ∧ o ≤ 0x43) ∨ (0x50 ≤ o ∧ o ≤ 0x54) ∨ (0x60 ≤ o ∧ o ≤ 0x63) ∨ (0x70 ≤ o ∧ o ≤ 0x77)
    ∨ o = 0x80 ∨ o = 0x81 ∨ o = 0x82 ∨ o = 0x84 ∨ o = 0x85 ∨ o = 0x86 ∨ o = 0x88 ∨ (0x90 ≤ o ∧ o ≤ 0x93) ∨ (0xA0 ≤ o ∧ o ≤ 0xA5)

/-- A byte that is written reads back, every other byte is as before, and the table keeps its canonical form, whatever the byte (the
model's form of a memory, log 2); a write of one register changes no other and keeps the register table's form. -/
def Obligations.TablesKeepTheirForm : Prop :=
  (∀ (m : Mem) (a : Nat) (bs : List Byte), m.wf →
     (m.setBytes a bs).wf
     ∧ (∀ i : Nat, ∀ h : i < bs.length, (m.setBytes a bs).byte (a + i) = bs[i])
     ∧ ∀ k : Nat, (k < a ∨ a + bs.length ≤ k) → (m.setBytes a bs).byte k = m.byte k)
  ∧ (∀ (s : State) (off : Nat) (v : W32), smWf regReset s.regs →
     smWf regReset (s.setAct off v).regs ∧ (s.setAct off v).act off = v
     ∧ (∀ k : Nat, k ≠ off → (s.setAct off v).act k = s.act k) ∧ ∀ k : Nat, (s.setAct off v).shad k = s.shad k)

/-! ## Issue and the S class -/

/-- Retirement of an instruction that changes its sequencer alone, and what it leaves unchanged (R127, R128, R130): the program counter
advances and the instruction is counted; no byte of the core store changes outside the sequencer's own earlier SSTs (R132), and no byte of
HBM or of host memory. -/
def Obligations.RetirementFrame : Prop :=
  ∀ (s : State) (c : CoreId) (q : SeqId) (f : Seq → Seq), let t := s.retiresWith c q f
    (∀ d : CoreId, d ≠ c → t.core d = s.core d)
    ∧ (∀ p : SeqId, p ≠ q → t.seq c p = s.seq c p)
    ∧ (t.core c).arr = (s.core c).arr ∧ (t.core c).wins = (s.core c).wins ∧ (t.core c).ctx = (s.core c).ctx
    ∧ (t.core c).rowQ = (s.core c).rowQ ∧ (t.core c).str = (s.core c).str ∧ (t.core c).gth = (s.core c).gth
    ∧ (∀ off : Nat, off ≠ Reg.SEQ_ISSUED c q → t.act off = s.act off) ∧ t.shadow = s.shadow
    ∧ (t.act (Reg.SEQ_ISSUED c q)).toNat = min ((s.act (Reg.SEQ_ISSUED c q)).toNat + 1) 0xFFFFFFFF
    ∧ (∀ a : Nat, (∀ e ∈ (s.seq c q).sst, ¬(e.1 ≤ a ∧ a < e.1 + 8)) → Mem.byte (t.core c).store a = Mem.byte (s.core c).store a)
    ∧ (∀ a : Nat, Mem.byte t.dram a = Mem.byte s.dram a) ∧ (∀ a : Nat, Mem.byte t.host a = Mem.byte s.host a)
    ∧ t.hurdles = s.hurdles ∧ t.arrivals = s.arrivals ∧ t.ctxs = s.ctxs ∧ t.parts = s.parts ∧ t.fns = s.fns
    ∧ (t.seq c q).pc = (s.seq c q).pc + 8

/-- A write of a scalar register reads back and leaves the other registers; an address register keeps its 57 bits; p0 reads 1 whatever
is written to it (R123). -/
def Obligations.RegisterFileRules : Prop :=
  ∀ (z : Seq) (v : W64) (a : VAddr) (b : Bool),
    (∀ d r : BitVec 5, (z.ws d v).rs r = if r = d then v else z.rs r)
    ∧ (∀ d r : BitVec 4, (z.wa d a).ra r = if r = d then a else z.ra r)
    ∧ (∀ d r : BitVec 3, (z.wp d b).rp r = if r = 0 then true else if r = d then b else z.rp r)
    ∧ (∀ (d : BitVec 5) (r : BitVec 4), (z.ws d v).ra r = z.ra r) ∧ (∀ (d : BitVec 5) (r : BitVec 3), (z.ws d v).rp r = z.rp r)

/-- Every integer instruction of the S class, in its register and its immediate form, retires with its result in s[D] (R175). -/
def Obligations.IntegerResults : Prop :=
  (∀ e ∈ aluReg, ∀ (c : CoreId) (q : SeqId) (w : SR) (s : State) (x : CtxId), s.mayIssue c q x w.pn w.pr = true → w.zero = 0 →
    exec (e.1 c q w) s = .next (s.retiresWith c q (fun z => z.ws w.d (e.2 (z.rs w.a) (z.rs w.b)))))
  ∧ ∀ e ∈ aluImm, ∀ (c : CoreId) (q : SeqId) (w : SI) (s : State) (x : CtxId), s.mayIssue c q x w.pn w.pr = true → w.zero = 0 →
    exec (e.1 c q w) s = .next (s.retiresWith c q (fun z => z.ws w.d (e.2 (z.rs w.a) (w.imm.signExtend 64))))

/-- A false predicate: the instruction retires with no effect, whatever its word and its operands (R127), stated of one instruction of
each format of every class; a copy of its descriptor that was read ahead is of no use any more (R173). -/
def Obligations.FalsePredicateRetires : Prop :=
  ∀ (c : CoreId) (q : SeqId) (s : State) (x : CtxId) (pn : Bool) (pr : BitVec 3), s.mayIssue c q x (!pn) pr = true →
    let t := (s.landSst c q).modSeq c q (fun z => z.goTo (z.pc + 8))
    (∀ w : SR, w.pn = pn → w.pr = pr → exec (.sadd c q w) s = .next t ∧ exec (.scmp c q w) s = .next t ∧ exec (.ffma c q w) s = .next t)
    ∧ (∀ w : SI, w.pn = pn → w.pr = pr → exec (.saddi c q w) s = .next t ∧ exec (.sld c q w) s = .next t ∧ exec (.sst c q w) s = .next t)
    ∧ (∀ w : CT, w.pn = pn → w.pr = pr → exec (.br c q w) s = .next t ∧ exec (.nop c q w) s = .next t)
    ∧ (∀ w : HF, w.pn = pn → w.pr = pr → exec (.harm c q w) s = .next t ∧ exec (.hread c q w) s = .next t)
    ∧ (∀ w : EF, w.pn = pn → w.pr = pr → exec (.mpass c q w) s = .next t ∧ exec (.wnorm c q w) s = .next t)
    ∧ ∀ w : EA, w.pn = pn → w.pr = pr → exec (.tstream c q w) s = .next t ∧ exec (.ugrad c q w) s = .next t

/-- A reserved bit of the word, or a register field out of range, faults with X_ILLEGAL (R170): the fault is that of the sequencer
(R166), with the program counter and the code recorded. A word whose opcode R171 does not list faults so on an empty queue, since no command
stands for it (log 11). -/
def Obligations.IllegalWordFaults : Prop :=
  ∀ (c : CoreId) (q : SeqId) (s : State) (x : CtxId) (pn : Bool) (pr : BitVec 3), s.mayIssue c q x pn pr = true →
    let u := (s.landSst c q).bump (Reg.SEQ_ISSUED c q) 1
    let t := u.seqFault ((s.landSst c q).origin c q x) .xIllegal []
    (∀ w : SR, w.pn = pn → w.pr = pr → w.zero ≠ 0 → exec (.sadd c q w) s = .next t ∧ exec (.amov c q w) s = .next t)
    ∧ (∀ w : SR, w.pn = pn → w.pr = pr → w.zero = 0 →
        (16 ≤ w.d.toNat → exec (.amov c q w) s = .next t ∧ exec (.aadd c q w) s = .next t) ∧ (16 ≤ w.a.toNat → exec (.smova c q w) s = .next t)
        ∧ (8 ≤ w.d.toNat ∨ 10 ≤ w.fn.toNat → exec (.scmp c q w) s = .next t) ∧ (8 ≤ w.d.toNat ∨ 4 ≤ w.fn.toNat → exec (.spred c q w) s = .next t))
    ∧ ((t.act (Reg.SEQ_FAULT_CODE c q)).toNat = 0x0501)
    ∧ ((t.act (Reg.SEQ_FAULT c q)).toNat = (s.seq c q).pc.toNat)
    ∧ (s.pending = [] → s.reservedAt = some (c, q) → (s.wordAt c q).getLsbD 55 = pn → (s.wordAt c q >>> 52).setWidth 3 = pr → step s = .next t)

/-- Moves between scalar and address registers, and address arithmetic modulo 2^57 (R175). -/
def Obligations.AddressRegisterResults : Prop :=
  ∀ (c : CoreId) (q : SeqId) (s : State) (x : CtxId),
    (∀ w : SR, s.mayIssue c q x w.pn w.pr = true → w.zero = 0 →
      (w.a.toNat < 16 → exec (.smova c q w) s = .next (s.retiresWith c q (fun z => z.ws w.d ((z.ra (w.a.setWidth 4)).setWidth 64))))
      ∧ (w.d.toNat < 16 → exec (.amov c q w) s = .next (s.retiresWith c q (fun z => z.wa (w.d.setWidth 4) ((z.rs w.a).setWidth 57))))
      ∧ (w.d.toNat < 16 → w.a.toNat < 16 →
          exec (.aadd c q w) s = .next (s.retiresWith c q (fun z => z.wa (w.d.setWidth 4) (z.ra (w.a.setWidth 4) + (z.rs w.b).setWidth 57)))))
    ∧ ∀ w : SI, s.mayIssue c q x w.pn w.pr = true → w.zero = 0 →
      (w.d.toNat < 16 → w.a.toNat < 16 →
        exec (.aaddi c q w) s = .next (s.retiresWith c q (fun z => z.wa (w.d.setWidth 4) (z.ra (w.a.setWidth 4) + (w.imm.signExtend 64).setWidth 57))))
      ∧ exec (.smovhi c q w) s = .next (s.retiresWith c q (fun z => z.ws w.d (w.imm ++ (z.rs w.d).setWidth 32)))

/-- The place of an FP32 value that is no NaN in the order of the values: −0 and +0 share one. -/
def Sys2Proof.Machine.fpOrder (a : W64) : Int := if a.getLsbD 31 then -((a.setWidth 31).toNat : Int) else ((a.setWidth 31).toNat : Int)

/-- Comparisons and predicate functions retire with their result in p[D], and the conditions by their values: equality and the orders, signed
and unsigned, and the four FP32 conditions on a NaN (R177). -/
def Obligations.PredicateResults : Prop :=
  (∀ (c : CoreId) (q : SeqId) (s : State) (x : CtxId),
     (∀ w : SR, s.mayIssue c q x w.pn w.pr = true → w.zero = 0 → w.d.toNat < 8 →
       (w.fn.toNat < 10 → exec (.scmp c q w) s = .next (s.retiresWith c q (fun z => z.wp (w.d.setWidth 3) (condition w.fn.toNat (z.rs w.a) (z.rs w.b)))))
       ∧ (w.fn.toNat < 4 → w.a.toNat < 8 → w.b.toNat < 8 →
         exec (.spred c q w) s = .next (s.retiresWith c q (fun z => z.wp (w.d.setWidth 3) (predFn w.fn.toNat (z.rp (w.a.setWidth 3)) (z.rp (w.b.setWidth 3)))))))
     ∧ (∀ w : SI, s.mayIssue c q x w.pn w.pr = true → w.zero = 0 → w.d.toNat < 8 → w.fn.toNat < 10 →
       exec (.scmpi c q w) s = .next (s.retiresWith c q (fun z => z.wp (w.d.setWidth 3) (condition w.fn.toNat (z.rs w.a) (w.imm.signExtend 64))))))
  ∧ (∀ a b : W64,
     (condition 0 a b = decide (a = b)) ∧ (condition 1 a b = decide (a ≠ b)) ∧ (condition 2 a b = decide (a.toInt < b.toInt))
     ∧ (condition 3 a b = decide (b.toInt ≤ a.toInt)) ∧ (condition 4 a b = decide (a.toNat < b.toNat)) ∧ (condition 5 a b = decide (b.toNat ≤ a.toNat))
     ∧ ((a.setWidth 31).toNat > 0x7F800000 ∨ (b.setWidth 31).toNat > 0x7F800000 →
         condition 6 a b = false ∧ condition 7 a b = false ∧ condition 8 a b = false ∧ condition 9 a b = true)
     ∧ (¬((a.setWidth 31).toNat > 0x7F800000 ∨ (b.setWidth 31).toNat > 0x7F800000) →
         condition 6 a b = decide (fpOrder a < fpOrder b) ∧ condition 7 a b = decide (fpOrder a ≤ fpOrder b)
         ∧ condition 8 a b = decide (fpOrder a = fpOrder b) ∧ condition 9 a b = false)
     ∧ (∀ p r : Bool, predFn 0 p r = (p && r) ∧ predFn 1 p r = (p || r) ∧ predFn 2 p r = xor p r ∧ predFn 3 p r = (p && !r)))

/-- FP32 arithmetic and the conversions retire with their results in s[D] (R175, R176); a NaN operand of FADD, FMUL or FFMA gives the
canonical NaN (R96, R176), and FCVTI gives 0 for it. -/
def Obligations.FloatResults : Prop :=
  (∀ (c : CoreId) (q : SeqId) (w : SR) (s : State) (x : CtxId), s.mayIssue c q x w.pn w.pr = true → w.zero = 0 →
     (∀ e ∈ fpReg, exec (e.1 c q w) s = .next (s.retiresWith c q (fun z => z.ws w.d (e.2 (z.rs w.a) (z.rs w.b)))))
     ∧ exec (.ffma c q w) s = .next (s.retiresWith c q (fun z => z.ws w.d
         ((fFma ((z.rs w.a).setWidth 32) ((z.rs w.b).setWidth 32) ((z.rs w.cc).setWidth 32)).setWidth 64))))
  ∧ (∀ a b k : W32, (a.setWidth 31).toNat > 0x7F800000 →
     fAdd a b = 0x7FC00000 ∧ fAdd b a = 0x7FC00000 ∧ fMul a b = 0x7FC00000 ∧ fMul b a = 0x7FC00000
     ∧ fFma a b k = 0x7FC00000 ∧ fFma b a k = 0x7FC00000 ∧ fFma b k a = 0x7FC00000 ∧ fToInt a = 0)

/-- Loads, stores and system values (R178, R179): SLD reads its 8 bytes, and SST leaves its 8 bytes with its sequencer. An
address out of range faults with X_REGION, a misaligned one with X_ALIGN, one that R140 or R160 refuses with its
fault; a reserved value of SSYS is X_ILLEGAL. -/
def Obligations.LoadsAndStores : Prop :=
  (∀ (c : CoreId) (q : SeqId) (w : SI) (s : State) (x : CtxId), s.mayIssue c q x w.pn w.pr = true → w.zero = 0 →
     let l := s.landSst c q
     let a : Int := (((l.seq c q).rs w.a).toNat % 2 ^ 30 : Nat) + w.imm.toInt
     (∀ k : Nat, 0 ≤ a → a < 2 ^ 30 → a % 8 = 0 → l.access c q (l.issueWin c q) .read a.toNat 8 = .ok k →
       exec (.sld c q w) s = .next (s.retiresWith c q (fun z => z.ws w.d (BitVec.ofNat 64 (Mem.readN (l.core c).store k 8)))))
     ∧ (∀ k : Nat, 0 ≤ a → a < 2 ^ 30 → a % 8 = 0 → l.access c q (l.issueWin c q) .write a.toNat 8 = .ok k →
       exec (.sst c q w) s = .next (s.retiresWith c q (fun z => { z with sst := z.sst ++ [(k, z.rs w.d)] })))
     ∧ (∀ v : W64, (w.imm = 0 → v = s.ptb) → (w.imm = 1 → v = BitVec.ofNat 64 c) → (w.imm = 2 → v = BitVec.ofNat 64 x)
         → (w.imm = 3 → v = s.pkg.setWidth 64) → (w.imm = 4 → v = BitVec.ofNat 64 (s.core c).aclk)
         → (w.imm = 5 → v = match q with | .F => 0 | .B => 1 | .U => 2) → w.imm.toNat < 6 →
       exec (.ssys c q w) s = .next (s.retiresWith c q (fun z => z.ws w.d v))))
  ∧ (∀ (c : CoreId) (q : SeqId) (w : SI) (s : State) (x : CtxId), s.mayIssue c q x w.pn w.pr = true → w.zero = 0 →
     let l := s.landSst c q
     let a : Int := (((l.seq c q).rs w.a).toNat % 2 ^ 30 : Nat) + w.imm.toInt
     let f (e : EvName) : State := (l.bump (Reg.SEQ_ISSUED c q) 1).seqFault (l.origin c q x) e []
     (a < 0 ∨ 2 ^ 30 ≤ a → exec (.sld c q w) s = .next (f .xRegion) ∧ exec (.sst c q w) s = .next (f .xRegion))
     ∧ (0 ≤ a → a < 2 ^ 30 → a % 8 ≠ 0 → exec (.sld c q w) s = .next (f .xAlign) ∧ exec (.sst c q w) s = .next (f .xAlign))
     ∧ (∀ e : EvName, 0 ≤ a → a < 2 ^ 30 → a % 8 = 0 →
       (l.access c q (l.issueWin c q) .read a.toNat 8 = .error e → exec (.sld c q w) s = .next (f e))
       ∧ (l.access c q (l.issueWin c q) .write a.toNat 8 = .error e → exec (.sst c q w) s = .next (f e)))
     ∧ (6 ≤ w.imm.toNat → exec (.ssys c q w) s = .next (f .xIllegal)))

/-- The control instructions (R180): the program counter they leave, and s[D] of CALL. -/
def Obligations.ControlResults : Prop :=
  ∀ (c : CoreId) (q : SeqId) (w : CT) (s : State) (x : CtxId), s.mayIssue c q x w.pn w.pr = true → w.zero = 0 →
    let l := s.landSst c q
    let pc := (s.seq c q).pc
    let tgt : Off := pc + (w.imm.signExtend 64).setWidth 30
    exec (.nop c q w) s = .next (s.retires c q l)
    ∧ (tgt.toNat % 8 = 0 → exec (.br c q w) s = .next (l.retireTo c q tgt)
      ∧ exec (.call c q w) s = .next ((l.modSeq c q (fun z => z.ws w.d ((pc + 8).setWidth 64))).retireTo c q tgt)
      ∧ ((s.seq c q).state = .run → (∃ p, (s.core c).ctx = some p ∧ ((s.ctx p).stopFor = .none)) →
          ∃ t, exec (.cheap c q w) s = .next t ∧ (t.seq c q).lrp = some tgt ∧ (t.seq c q).pc = pc + 8 ∧ (t.seq c q).state = .run))
    ∧ (let j : Off := ((l.seq c q).rs w.a).setWidth 30
       (j.toNat % 8 = 0 → exec (.jr c q w) s = .next (l.retireTo c q j))
       ∧ (j.toNat % 8 ≠ 0 → exec (.jr c q w) s = .next ((l.bump (Reg.SEQ_ISSUED c q) 1).seqFault (l.origin c q x) .xAlign [])))
    ∧ (tgt.toNat % 8 ≠ 0 → let t := (l.bump (Reg.SEQ_ISSUED c q) 1).seqFault (l.origin c q x) .xAlign []
       exec (.br c q w) s = .next t ∧ exec (.call c q w) s = .next t)

/-! ## Hurdles -/

/-- The hurdle instructions at issue (R193 to R196): HARM leaves for the home unit and issue holds; HARRIVE sends one arrival with its
baton word, or its message to another package; HREAD reads RELEASES; a satisfied HWAIT retires and another waits. One on a hurdle of
another context, or a HARM whose configuration is not legal, faults. -/
def Obligations.HurdleInstructions : Prop :=
  (∀ (c : CoreId) (q : SeqId) (w : HF) (s : State) (x : CtxId), s.mayIssue c q x w.pn w.pr = true → w.zero = 0 →
     let l := s.landSst c q
     let h := s.hurdle w.hid
     let b := ((l.seq c q).rs w.sb).toNat
     let bat := l.coreBaton c (seqUnit q) (bitsOf b 15 0) (bitsOf b 31 16)
     let dst : BitVec 16 := ((l.seq c q).rs w.sa).setWidth 16
     let cfg := ((l.seq c q).rs w.sa)
     let n : W32 := ((l.seq c q).rs w.sa).setWidth 32
     (w.remote = false → w.df = false → w.sb = 0 → bitsOf cfg.toNat 63 48 = 0 → bitsOf cfg.toNat 31 20 = 0 → bitsOf cfg.toNat 19 18 ≠ 3 →
       exec (.harm c q w) s = .next ((l.bump (Reg.SEQ_ISSUED c q) 1).modSeq c q (fun z => { z with harm := some ⟨w.hid, cfg⟩ })))
     ∧ (w.remote = false → w.df = false → w.sa = 0 → l.issueWin c q = none → h.owner = x →
       exec (.harrive c q w) s = .next (s.retires c q { l with arrivals := l.arrivals ++ [⟨w.hid, bat, .ctx x none (.feed c)⟩] }))
     ∧ (w.remote = true → w.df = false → dst ≠ s.pkg → l.issueWin c q = none →
       let r := l.sendMsg vcHctl ⟨dst, l.pkg, 0, 0, .arrive w.hid bat⟩ (some x)
       r.2 = true → exec (.harrive c q w) s = .next (s.retires c q r.1))
     ∧ (w.remote = false → w.df = false → w.sb = 0 →
       exec (.hread c q w) s = .next (s.retiresWith c q (fun z => z.ws w.sa (h.releases.setWidth 64))))
     ∧ (w.remote = false → h.owner = x → (s.seq c q).state = .run → (s.ctx x).stopFor = .none →
       ((h.releases - n).toNat < 2 ^ 31 →
         ∃ t, exec (.hwait c q w) s = .next t ∧ (t.seq c q).pc = (s.seq c q).pc + 8 ∧ (t.seq c q).state = .run)
       ∧ (2 ^ 31 ≤ (h.releases - n).toNat → h.state ≠ .poisoned →
         ∃ t, exec (.hwait c q w) s = .next t ∧ (t.seq c q).pc = (s.seq c q).pc ∧ (t.seq c q).state = .wait
           ∧ (t.seq c q).wait = some (w.hid, n) ∧ (t.seq c q).waitDf = w.df)))
  ∧ (∀ (c : CoreId) (q : SeqId) (w : HF) (s : State) (x : CtxId), s.mayIssue c q x w.pn w.pr = true → w.zero = 0 →
     w.remote = false → w.df = false → w.sb = 0 →
     let l := s.landSst c q
     let cfg := ((l.seq c q).rs w.sa).toNat
     let f (e : EvName) (is : List Item) : State := (l.bump (Reg.SEQ_ISSUED c q) 1).seqFault (l.origin c q x) e is
     (bitsOf cfg 63 48 ≠ 0 ∨ bitsOf cfg 31 20 ≠ 0 ∨ bitsOf cfg 19 18 = 3 → exec (.harm c q w) s = .next (f .xIllegal []))
     ∧ ((s.hurdle w.hid).owner ≠ x → (∃ t, exec (.hwait c q w) s = .next t ∧ (t.act (Reg.SEQ_FAULT_CODE c q)).toNat = EvName.xHurdleOwner.code.toNat)
       ∧ (w.sa = 0 → exec (.harrive c q w) s = .next (f .xHurdleOwner [.small 12 w.hid.toNat]))))

/-- The arrivals that an ARMED hurdle counts in one cycle (R145): the release, the count it leaves, and the overrun; and the baton word
(R148), each of its fields at its place. -/
def Obligations.HurdleCounting : Prop :=
  (∀ (h : Hurdle) (n : Nat), 0 < h.expect.toNat → n < 2 ^ 16 → h.count.toNat < 2 ^ 16 →
     let r := countArrivals h n
     let v := h.count.toNat + n
     (v < h.expect.toNat → r.1 = { h with count := BitVec.ofNat 16 v } ∧ r.2.1 = false ∧ r.2.2 = false)
     ∧ (h.expect.toNat ≤ v → r.1.releases = h.releases + 1 ∧ r.2.1 = true ∧ r.1.lastMin = h.roundMin ∧ r.1.roundMin = 0
       ∧ (h.auto = true → r.1.count = BitVec.ofNat 16 (v - h.expect.toNat)
           ∧ (v < 2 * h.expect.toNat → r.1.state = h.state ∧ r.2.2 = false) ∧ (2 * h.expect.toNat ≤ v → r.1.state = .poisoned ∧ r.2.2 = true))
       ∧ (h.auto = false → r.1.count = 0 ∧ (v = h.expect.toNat → r.1.state = .idle ∧ r.2.2 = false)
           ∧ (h.expect.toNat < v → r.1.state = .poisoned ∧ r.2.2 = true))))
  ∧ (∀ pkg core unit mb gen pace : Nat, pkg < 2 ^ 16 → core < 8 → unit < 8 → mb < 2 ^ 16 → gen < 2 ^ 16 → pace < 2 ^ 10 →
     let b := (baton pkg core unit mb gen pace).toNat
     bitsOf b 63 48 = pkg ∧ bitsOf b 47 45 = core ∧ bitsOf b 44 42 = unit ∧ bitsOf b 41 26 = mb ∧ bitsOf b 25 10 = gen ∧ bitsOf b 9 0 = pace)

/-- The events of a hurdle unit: a HARM that arms (R144, R193), arrivals that are counted and release, one that is a stray (R145, R146),
and a write of HRD_CTL (R147), which releases an ARMED hurdle whose EXPECT it brings down to COUNT (R145). -/
def Obligations.HurdleUnitEvents : Prop :=
  ∀ (s : State) (hid : Hid),
    (∀ (c : CoreId) (q : SeqId) (x : CtxId) (cfg : W64), (s.seq c q).harm = some ⟨hid, cfg⟩ → (s.core c).ctx = some x →
      (s.hurdle hid).owner = x → (s.hurdle hid).state = .idle ∨ ((s.hurdle hid).state = .armed ∧ (s.hurdle hid).count = 0) →
      (cfg.setWidth 16 : BitVec 16) ≠ 0 →
      ∃ t, exec (.harmAtHome c q) s = .next t ∧ (t.seq c q).harm = none ∧ (t.seq c q).pc = (s.seq c q).pc + 8
        ∧ (let h := t.hurdle hid
           h.state = .armed ∧ h.count = 0 ∧ h.expect = cfg.setWidth 16 ∧ h.auto = cfg.getLsbD 16 ∧ h.hostOk = cfg.getLsbD 17
           ∧ h.window.toNat = bitsOf cfg.toNat 19 18 ∧ h.ports.toNat = bitsOf cfg.toNat 47 32 ∧ h.releases = (s.hurdle hid).releases)
        ∧ ∀ k : Hid, k ≠ hid → t.hurdle k = s.hurdle k)
    ∧ (∀ k : Nat, let mine := (splitArrivals hid k [] s.arrivals).1
        (s.hurdle hid).state = .armed → mine ≠ [] → (∀ a ∈ mine, s.accepts (s.hurdle hid) a.src = true) → (∀ h : Hid, (s.hurdle h).state ≠ .poisoned) →
        let v := (s.hurdle hid).count.toNat + mine.length
        (v < (s.hurdle hid).expect.toNat → ∃ t, exec (.hurdleArrival hid k) s = .next t ∧ (t.hurdle hid).count.toNat = v
          ∧ (t.hurdle hid).releases = (s.hurdle hid).releases ∧ t.cores = s.cores
          ∧ t.arrivals.length + mine.length = s.arrivals.length)
        ∧ (v = (s.hurdle hid).expect.toNat → (s.hurdle hid).auto = false → ∃ t, exec (.hurdleArrival hid k) s = .next t
          ∧ (t.hurdle hid).releases = (s.hurdle hid).releases + 1 ∧ (t.hurdle hid).count = 0 ∧ (t.hurdle hid).state = .idle
          ∧ ∀ (c : CoreId) (q : SeqId) (n : W32), (s.seq c q).state = .wait → (s.seq c q).wait = some (hid, n) →
              ((s.hurdle hid).releases + 1 - n).toNat < 2 ^ 31 → (t.seq c q).state = .run ∧ (t.seq c q).wait = none ∧ (t.seq c q).pc = (s.seq c q).pc + 8))
    ∧ (∀ a : Arrival, s.arrivals = [a] → a.hid = hid → (s.hurdle hid).state = .armed → s.accepts (s.hurdle hid) a.src = false →
        ∃ t, exec (.hurdleArrival hid 1) s = .next t ∧ t.arrivals = [] ∧ (t.hurdle hid).count = (s.hurdle hid).count
          ∧ (t.act (Reg.HRD_STRAY (homeDie hid))).toNat = min ((s.act (Reg.HRD_STRAY (homeDie hid))).toNat + 1) 0xFFFFFFFF)
    ∧ ∀ v : W32, s.inService = true → s.writeAhead (Reg.HRD_CTL (homeDie hid) (hid.toNat % 512)) = false → fieldOf v 31 30 ≠ 2 →
      let h := s.hurdle hid
      ((h.state = .armed → fieldOf v 31 30 ≠ 0 → h.count.toNat < fieldOf v 15 0) → ∃ t, exec (.hrdCtlWrite hid v) s = .next t
        ∧ (t.hurdle hid).state = (if fieldOf v 31 30 = 0 then .idle else h.state)
        ∧ (t.hurdle hid).auto = v.getLsbD 29 ∧ (t.hurdle hid).window.toNat = fieldOf v 28 27 ∧ (t.hurdle hid).owner.val = fieldOf v 26 21
        ∧ (t.hurdle hid).expect.toNat = fieldOf v 15 0 ∧ (t.hurdle hid).releases = h.releases ∧ ∀ k : Hid, k ≠ hid → t.hurdle k = s.hurdle k)
      ∧ (h.state = .armed → fieldOf v 31 30 ≠ 0 → v.getLsbD 29 = false → h.count.toNat = fieldOf v 15 0 → (∀ k : Hid, (s.hurdle k).state ≠ .poisoned) →
        ∃ t, exec (.hrdCtlWrite hid v) s = .next t ∧ (t.hurdle hid).releases = h.releases + 1 ∧ (t.hurdle hid).count = 0
          ∧ (t.hurdle hid).state = .idle ∧ ∀ k : Hid, k ≠ hid → t.hurdle k = s.hurdle k)

/-! ## The array -/

/-- The M class at issue (R182 to R188): once its banks are free, crossing 1 has room and the arbiter grants it, the command enters
crossing 1 with its checked words, and the sequencer retires. -/
def Obligations.ArrayInstructions : Prop :=
  ∀ (c : CoreId) (q : SeqId) (w : EF) (s : State) (x : CtxId), s.mayIssue c q x w.pn w.pr = true →
    let l := s.landSst c q
    let org := l.originE c q x w.hv w.hid w.sb
    let b : Fin 2 := if w.xf.getLsbD 4 then 1 else 0
    let mode := w.xf.toNat / 4 % 4
    let put (k : ArrCmd) : State := s.retires c q (((l.grant c .array q).modArr c (fun a => { a with xing := a.xing ++ [k] })).accepted c q)
    (s.core c).arr.xing.length < 16 → l.arbiter c .array q = some q →
    (w.xf.toNat < 4 → exec (.mshape c q w) s = .next (put ⟨.shape (Fin.ofNat 4 w.xf.toNat), 0, [], org⟩))
    ∧ (l.bankFree c q b = true → w.xf.toNat % 4 = 0 →
        (mode = 0 ∨ mode = 3 → exec (.mpre c q w) s = .next (put ⟨.pre (BitVec.ofNat 2 mode), b, [], org⟩))
        ∧ (∀ (d : List W64) (a : Nat), (mode = 1 ∨ mode = 2) → l.takeDesc c q (l.issueWin c q) (descOff (l.seq c q) w.sd w.doff.toNat) 8 = .ok d →
            zeroBits d [(0, 63, 48), (0, 31, 30)] = true → wbits d 0 29 0 % 64 = 0 →
            (let e := preExtent mode (l.projFeed c).shape d
             l.access c q org.win .read e.1 e.2 = .ok a) → exec (.mpre c q w) s = .next (put ⟨.pre (BitVec.ofNat 2 mode), b, putOff d 0 0 a, org⟩))
        ∧ ∀ d e : List W64, l.takeDesc c q (l.issueWin c q) (descOff (l.seq c q) w.sd w.doff.toNat) 64 = .ok d → l.checkDrain c q org.win b d = .ok e →
            exec (.mdrain c q w) s = .next (put ⟨.drain (w.xf.getLsbD 3) (w.xf.getLsbD 2), b, e, org⟩))
    ∧ ∀ d e : List W64, w.xf.toNat % 8 = 0 → l.takeDesc c q (l.issueWin c q) (descOff (l.seq c q) w.sd w.doff.toNat) 32 = .ok d →
        (if wbits d 0 35 32 = 7 then l.bankFree c q 0 && l.bankFree c q 1 else l.bankFree c q b) = true → l.checkPass c q org.win d = .ok e →
        exec (.mpass c q w) s = .next (put ⟨.pass (w.xf.getLsbD 3), b, e, org⟩)

/-- What the array does with its commands (R70 to R81): it accepts a valid one, takes a shape, loads a bank, starts and ends a pass, and
drains a bank. Every statement names the state the bank leaves and the completion arrival. -/
def Obligations.ArrayCommands : Prop :=
  ∀ (c : CoreId) (s : State),
    (∀ (k : ArrCmd) (t : List ArrCmd), s.coreIdle c = false → (s.core c).arr.xing = k :: t → arrFault (s.projArr c) k = none →
      ∃ u, exec (.arrayCommandAccept c) s = .next u ∧ (u.core c).arr.xing = t ∧ (u.core c).arr.queue = (s.core c).arr.queue ++ [k]
        ∧ (u.core c).arr.bank = (s.core c).arr.bank ∧ u.regs = s.regs)
    ∧ (∀ (k : ArrCmd) (t : List ArrCmd) (sh : Fin 4), (s.core c).arr.queue = k :: t → k.op = .shape sh → (s.core c).arr.passes = [] →
        (∀ b : Fin 2, (s.bank c b).state ≠ .active) → k.org.hv = false → s.coreHeld c = false →
        ∃ u, exec (.shapeReconfigured c) s = .next u ∧ (u.core c).arr.shape = sh ∧ (u.core c).arr.queue = t ∧ (u.core c).arr.bank = (s.core c).arr.bank)
    ∧ (∀ (k : ArrCmd) (t : List ArrCmd), s.coreHeld c = false → (s.core c).arr.queue = k :: t → k.op = .pre 0 →
        (s.bank c k.bank).state = .empty ∨ (s.bank c k.bank).state = .loaded →
        ∃ u, exec (.preloadStart c) s = .next u ∧ (u.core c).arr.queue = t ∧ (u.bank c k.bank).state = .loading ∧ (u.bank c k.bank).tag = (s.core c).arr.shape
          ∧ ((s.bank c k.bank).owner = none → (u.bank c k.bank).owner = some k.org.seq))
    ∧ (∀ (b : Fin 2) (k : ArrCmd), (s.bank c b).state = .loading → (s.bank c b).cmd = some k → k.op = .pre 0 → k.org.hv = false →
        ∃ u, exec (.preloadComplete c b) s = .next u ∧ (u.bank c b).state = .loaded ∧ (u.bank c b).cells = [] ∧ (u.bank c b).cmd = none)
    ∧ (∀ (k : ArrCmd) (t : List ArrCmd) (acc : Bool) (p : Pairing), s.coreHeld c = false → (s.core c).arr.queue = k :: t → k.op = .pass acc →
        pairing (passDesc k.desc).pair = some p → p.cplx = false → (passDesc k.desc).pair ≠ 7 → (s.bank c k.bank).state = .loaded →
        (passDesc k.desc).k ≠ 0 → (passDesc k.desc).m ≠ 0 → (passDesc k.desc).n ≠ 0 →
        ∃ u, exec (.passStart c) s = .next u ∧ (u.core c).arr.queue = t ∧ (u.core c).arr.passes = (s.core c).arr.passes ++ [k]
          ∧ (u.bank c k.bank).state = .active ∧ (u.bank c (otherWin k.bank)) = s.bank c (otherWin k.bank)
          ∧ ((s.bank c k.bank).anyShape = true → (u.bank c k.bank).tag = (s.core c).arr.shape)
          ∧ (u.core c).arr.products = (s.core c).arr.products + BitVec.ofNat 64 (passProducts (passDesc k.desc) p) ∧ (u.core c).store = (s.core c).store)
    ∧ (∀ (k : ArrCmd) (t : List ArrCmd) (acc : Bool), (s.core c).arr.passes = k :: t → k.op = .pass acc → wbits k.desc 0 35 32 ≠ 7 →
        (∀ j ∈ t, k.bank ∉ j.banks) → (s.bank c k.bank).state = .active → k.org.hv = true → k.org.win = none →
        ∃ u, exec (.passComplete c) s = .next u ∧ (u.core c).arr.passes = t ∧ (u.bank c k.bank).state = .full
          ∧ u.arrivals = s.arrivals ++ [⟨k.org.hid, s.coreBaton k.org.core unitArr k.org.mb.toNat k.org.gen.toNat, .ctx k.org.ctx none (.feed k.org.core)⟩])
    ∧ (∀ (k : ArrCmd) (t : List ArrCmd) (clear sr : Bool), s.coreHeld c = false → (s.core c).arr.queue = k :: t → k.op = .drain clear sr → (s.bank c k.bank).state = .full →
        ∃ u, exec (.drainStart c) s = .next u ∧ (u.core c).arr.queue = t ∧ (u.bank c k.bank).state = .draining ∧ (u.bank c k.bank).cells = (s.bank c k.bank).cells)
    ∧ ∀ (b : Fin 2) (k : ArrCmd) (clear sr : Bool), (s.bank c b).state = .draining → (s.bank c b).cmd = some k → k.op = .drain clear sr → k.org.hv = false →
        (s.core c).arr.queue = [] →
        ∃ u, exec (.drainComplete c b) s = .next u ∧ (u.bank c b).cells = []
          ∧ (clear = true → (u.bank c b).state = .loaded ∧ (u.bank c b).anyShape = true ∧ (u.bank c b).owner = (s.bank c b).owner)
          ∧ (clear = false → (u.bank c b).state = .empty ∧ (u.bank c b).owner = none)

/-! ## Streams and gathers -/

/-- TSTREAM, TREARM, TCANCEL, TSTAT, TGATHER and XRCHECK at issue (R189 to R192, R215), outside a speculation window: the lowest IDLE
slot is taken under the quota and its number returned; a re-arm is kept; a cancel takes effect; a check or a gather is queued. A sequencer
whose quota of the engine is zero faults with X_QUOTA (R136). The status word of TSTAT (R191). -/
def Obligations.StreamInstructions : Prop :=
  (∀ (c : CoreId) (q : SeqId) (s : State) (x : CtxId),
     let l := s.landSst c q
     l.issueWin c q = none →
     (∀ (w : EA) (d : List W64), s.mayIssue c q x w.pn w.pr = true → l.takeDesc c q none (descOff (l.seq c q) w.sd w.doff.toNat) 64 = .ok d →
       let mb := memBase (l.seq c q) w.ar (word d 1)
       let r : Rearm := ⟨d, mb, l.originE c q x w.hv w.hid w.sb, none, [], []⟩
       (∀ j : Nat, checkStream d mb = none → (l.slotsOf c q false).length < l.slotQuota c q false → j < 32 → (l.slot c false j).state = .idle →
         (∀ i : Nat, i < j → (l.slot c false i).state ≠ .idle) →
         ∃ t, exec (.tstream c q w) s = .next t ∧ (t.slot c false j).state = .armed ∧ (t.slot c false j).cur = r ∧ (t.slot c false j).holder = some q
           ∧ (t.seq c q).rs w.xf = BitVec.ofNat 64 j ∧ (t.seq c q).pc = (s.seq c q).pc + 8
           ∧ ∀ i : Nat, i < 32 → i ≠ j → t.slot c false i = s.slot c false i)
       ∧ (let j := ((l.seq c q).rs w.xf).toNat % 32
          let z := l.slot c false j
          checkStream d mb = none → z.holder = some q →
           (z.state = .running ∨ z.state = .armed ∨ z.state = .halted → z.pend = none →
             exec (.trearm c q w) s = .next (s.retires c q ((l.setSlot c false j { z with pend := some r }).accepted c q)))
           ∧ (z.state = .done → ∃ t, exec (.trearm c q w) s = .next t ∧ (t.slot c false j).state = .armed ∧ (t.slot c false j).cur = r))
       ∧ (∀ (e : List W64) (j : Nat), l.checkGather c q none d = .ok e → (l.slotsOf c q true).length < l.slotQuota c q true →
         (s.core c).gthQ.length < 16 → j < 8 → (l.slot c true j).state = .idle → (∀ i : Nat, i < j → (l.slot c true i).state ≠ .idle) →
         ∃ t, exec (.tgather c q w) s = .next t ∧ (t.slot c true j).state = .armed ∧ (t.slot c true j).cur = { r with desc := e }
           ∧ (t.core c).gthQ = (s.core c).gthQ ++ [.gather (Fin.ofNat 8 j)] ∧ (t.seq c q).rs w.xf = BitVec.ofNat 64 j))
     ∧ (∀ w : EA, s.mayIssue c q x w.pn w.pr = true → w.sd = 0 → w.ar = 0 → w.doff = 0 → w.hv = false →
         let j := ((l.seq c q).rs w.xf).toNat % 32
         let z := l.slot c false j
         z.holder = some q → z.state = .running →
         ∃ t, exec (.tcancel c q w) s = .next t ∧ (t.slot c false j).state = .cancelled ∧ (t.slot c false j).pend = none
           ∧ (t.slot c false j).reqs = z.reqs.filter (fun r => r.st != .window) ∧ (t.seq c q).pc = (s.seq c q).pc + 8)
     ∧ (∀ w : SR, s.mayIssue c q x w.pn w.pr = true → w.zero = 0 →
         exec (.tstat c q w) s = .next (s.retiresWith c q (fun z => z.ws w.d (BitVec.ofNat 64 (l.slot c false (((l.seq c q).rs w.a).toNat % 32)).status))))
     ∧ ∀ (w : EF) (d e : List W64), s.mayIssue c q x w.pn w.pr = true → w.xf = 0 →
         l.takeDesc c q none (descOff (l.seq c q) w.sd w.doff.toNat) 32 = .ok d → l.checkXr c q none d = .ok e → (s.core c).gthQ.length < 16 →
         ∃ t, exec (.xrcheck c q w) s = .next t ∧ (t.core c).gthQ = (s.core c).gthQ ++ [.xrcheck e (l.originE c q x w.hv w.hid w.sb)]
           ∧ (t.seq c q).pc = (s.seq c q).pc + 8)
  ∧ ((∀ (c : CoreId) (q : SeqId) (s : State) (x : CtxId) (w : EA) (d : List W64),
     let l := s.landSst c q
     s.mayIssue c q x w.pn w.pr = true → l.takeDesc c q (l.issueWin c q) (descOff (l.seq c q) w.sd w.doff.toNat) 64 = .ok d →
     checkStream d (memBase (l.seq c q) w.ar (word d 1)) = none → l.slotQuota c q false = 0 →
     exec (.tstream c q w) s = .next ((l.bump (Reg.SEQ_ISSUED c q) 1).seqFault (l.origin c q x) .xQuota []))
   ∧ ∀ z : Slot, z.tags < 2 ^ 13 → bitsOf z.status 2 0 = z.state.code ∧ bitsOf z.status 4 3 = ownerCode z.holder
       ∧ bitsOf z.status 5 5 = (if z.pend.isSome then 1 else 0) ∧ bitsOf z.status 31 16 = z.tags)

/-- The stream and gather engines arm a slot: a program that passes its checks runs once its gate opens (R221, R236), and an index
stream leaves the queue (R251); a program that fails them is cancelled and faults the instruction. A sequencer reads ahead the descriptor
of its next engine instruction where the conditions of R173 hold: the copy is what the issue of the word at that address works from, and nothing else changes. -/
def Obligations.EngineArming : Prop :=
  ((∀ (c : CoreId) (j : Fin 32) (s : State) (p : List StrideOp), let z := s.slot c false j
     z.state = .armed → z.prog = [] → p ≠ [] → (s.asIssued c z.cur).readProg c z.cur.org.seq z.cur.org.win (wbits z.desc 0 29 0) 16 0 = .ok p →
     (progOk p = true → s.gateOpen z = true → s.coreHeld c = false → ∃ t, exec (.streamArm c j) s = .next t ∧ (t.slot c false j) = { z with prog := p, state := .running }
       ∧ t.regs = s.regs ∧ ∀ d : CoreId, d ≠ c → t.core d = s.core d)
     ∧ (progOk p = false → (s.ctx z.cur.org.ctx).state = .running → ∃ t, exec (.streamArm c j) s = .next t ∧ (t.slot c false j).state = .cancelled
       ∧ (t.ctx z.cur.org.ctx).state = .faulted))
   ∧ ∀ (c : CoreId) (j : Fin 8) (k : List GthCmd) (s : State), s.coreHeld c = false → (s.core c).gthQ = .gather j :: k → (s.slot c true j).state = .armed →
     ∃ t, exec (.gatherArm c) s = .next t ∧ (t.core c).gthQ = k ∧ (t.slot c true j).state = .running)
  ∧ (∀ (c : CoreId) (q : SeqId) (s u : State) (w : W64) (pc : Off) (win : Option (Fin 2)) (n : Nat) (d : List W64), let z := s.seq c q
     (s.core c).ctx.isSome = true → z.state = .run → z.ahead = none → z.sst = [] → s.scanAhead c q z.pc (s.issueWin c q) [] 256 = some (w, pc, win, u) →
     descSize w = some n → u.readDesc c q win (descOff z ((w >>> 47).setWidth 5) (descDoff w)) n = .ok d →
     ∃ t, exec (.descriptorReadAhead c q) s = .next t ∧ (t.seq c q).ahead = some ⟨pc, descOff z ((w >>> 47).setWidth 5) (descDoff w), d⟩
       ∧ (t.seq c q).pc = z.pc ∧ (∀ p : SeqId, p ≠ q → t.seq c p = s.seq c p) ∧ t.regs = s.regs ∧ (t.core c).store = (s.core c).store)

/-- Generation of lines (R227, R228): the first slot in rotation that produces a line is served for up to eight lines, and one that
produces none is passed over; a line merges into the request just before it only when that request is for the same line and holds no tag. -/
def Obligations.LineGeneration : Prop :=
  (∀ (c : CoreId) (gth : Bool) (s : State) (j : Nat), let rot := if gth then (s.core c).gthRot else (s.core c).strRot
    let z := s.rouse (if gth then 3 else 2) c ((s.core c).lineHolds gth)
    j = (rot + 1) % slotCount gth → ((s.slot c gth j).reqs.filter (fun r => r.st = .window)).length ≤ 8 →
    let turn (t : State) : State := t.modCore c (fun k => if gth then { k with gthRot := j } else { k with strRot := j })
    (∀ t : State, z.genOne c gth j = (t, .produced) → exec (.lineGenerate c gth) s = .next (((turn t).genMany c gth j 7).settleSlot c gth j))
    ∧ ∀ t : State, z.genOne c gth j = (t, .stopped) ∨ z.genOne c gth j = (t, .blocked) →
        exec (.lineGenerate c gth) s = .next (t.genFirst c gth (rotation (slotCount gth) rot).tail))
  ∧ (∀ (z : Slot) (l : GenLine) (va : Nat) (pl : Place) (b : Bool) (ps : List Piece) (r : LineReq) (t : List LineReq), z.reqs = t ++ [r] →
      let y := z.addLine l va pl b ps
      (r.va = l.va → r.st = .window → r.n + 1 = z.next → y.reqs = t ++ [{ r with pieces := r.pieces ++ ps }] ∧ y.next = z.next)
      ∧ (r.va ≠ l.va ∨ r.st ≠ .window ∨ r.n + 1 ≠ z.next → y.reqs.length = z.reqs.length + 1 ∧ y.next = z.next + 1
          ∧ ∃ k, y.reqs.getLast? = some k ∧ k.va = l.va ∧ k.tva = va ∧ k.place = pl ∧ k.n = z.next ∧ k.st = .window))
  ∧ ∀ (s : State) (c : CoreId) (j : Nat) (l : GenLine) (pl : Place) (b : Bool) (va : Nat), let z := s.slot c true j
      let p := (s.ctx z.cur.org.ctx).part
      z.cur.org.win = none → (s.asIssued c z.cur).specAddr p c none z.isStore l.va = .ok va → (s.translate (.core c) p va z.isStore).2 = .at_ pl b →
      (s.genLine c true j l).2 = .produced
      ∧ (s.genLine c true j l).1.slot c true j = ((s.translate (.core c) p va z.isStore).1.slot c true j).addLine l va pl b l.pieces

/-- Tags, service and completion of lines (R229, R231, R265, R266): a request takes a tag; a controller serves it; its bytes reach the
core store, or its write the memory. -/
def Obligations.LineService : Prop :=
  ∀ (c : CoreId) (gth : Bool) (s : State),
    (∀ (j : Nat) (r : LineReq) (pa : Nat), let rot := if gth then (s.core c).gthTagRot else (s.core c).strTagRot
      j = (rot + 1) % slotCount gth → s.eligible c gth (s.slot c gth j) = some r → r.place = .hbm pa → s.fld (Reg.STR_CFG c) 0 0 = 0 → s.coreHeld c = false →
      ∃ t, exec (.lineTagGrant c gth) s = .next t ∧ (∃ y ∈ (t.slot c gth j).reqs, y.n = r.n ∧ y.st = .sent ∧ y.va = r.va)
        ∧ (t.slot c gth j).reqs.length = (s.slot c gth j).reqs.length
        ∧ (if gth then (t.core c).gthTagRot else (t.core c).strTagRot) = j)
    ∧ (∀ (j n pa : Nat) (e : Ecc) (r : LineReq), (s.slot c gth j).toServe n = some r → r.place = .hbm pa →
        (s.row (s.cell (pa / 256 * 256)).rowKey).copying = false →
        ((s.slot c gth j).isStore = false →
          let x := (s.lineEcc (pa / 256 * 256) e).lineRead (pa / 256 * 256) r.cached r.hint
          exec (.hbmRead c gth j n e) s = .next (if x.2.1
            then (x.2.2.countUe (pa / 256 * 256)).modReq c gth j n (fun y => { y with st := .failed (.poisoned (pa / 256 * 256)) })
            else x.2.2.modReq c gth j n (fun y => { y with data := (List.range 256).zip x.1, st := .served })))
        ∧ ((s.slot c gth j).isStore = true →
          exec (.hbmWrite c gth j n) s = .next ((s.lineWrite (pa / 256 * 256) r.cached r.hint r.data (engUnit gth)).modReq c gth j n (fun y => { y with st := .served }))))
    ∧ ∀ (j n a : Nat) (r : LineReq) (p : Piece), let z := s.slot c gth j
        j < slotCount gth → z.reqs.find? (fun y => y.n = n) = some r → z.state = .running → z.bad = none → z.isStore = false → r.st = .served → r.pieces = [p] → p.dest = .lin a →
        s.allEnded z.cur.org.ctx = false →
        ∃ t, exec (.lineComplete c gth j n) s = .next t ∧ (∀ y ∈ (t.slot c gth j).reqs, y.n ≠ n)
          ∧ (∀ i : Nat, i < p.len → Mem.byte (t.core c).store (a + i) = match r.data.find? (fun d => d.1 = p.moff + i) with | some d => d.2 | none => 0)
          ∧ ∀ k : Nat, (k < a ∨ a + p.len ≤ k) → Mem.byte (t.core c).store k = Mem.byte (s.core c).store k

/-- HALTED slots (R245): a resume goes on from the kept position; an abort faults the instruction and the slot ends; a page response does
either. Watch entries lapse at their time (R243). XRCHECK writes its result (R215). -/
def Obligations.HaltedSlots : Prop :=
  ∀ (c : CoreId) (s : State),
    (∀ (j : Nat) (v : W32), s.inService = true → s.writeAhead (Reg.STR_RESUME c) = false → s.writeAhead (Reg.GTH_RESUME c) = false → v.getLsbD j = true →
      (j < 32 → (s.slot c false j).state = .halted → (s.slot c false j).bad = none → (s.slot c false j).lost = false →
        ∃ t, exec (.strResumeWrite c v) s = .next t ∧ t.slot c false j = { s.slot c false j with state := .running, prg := false })
      ∧ (j < 8 → (s.slot c true j).state = .halted → (s.slot c true j).bad = none → (s.slot c true j).lost = false →
        ∃ t, exec (.gthResumeWrite c v) s = .next t ∧ t.slot c true j = { s.slot c true j with state := .running, prg := false })
      ∧ (j < 32 → v = 1 <<< j → (s.slot c false j).state = .halted → (s.slot c false j).bad = none → (s.slot c false j).reqs = [] →
        (s.ctx (s.slot c false j).cur.org.ctx).state = .running →
        ∃ t, exec (.strAbortWrite c v) s = .next t ∧ (t.slot c false j).state = .cancelled ∧ (t.ctx (s.slot c false j).cur.org.ctx).state = .faulted)
      ∧ (j < 8 → v = 1 <<< j → (s.slot c true j).state = .halted → (s.slot c true j).bad = none → (s.slot c true j).reqs = [] →
        (s.ctx (s.slot c true j).cur.org.ctx).state = .running →
        ∃ t, exec (.gthAbortWrite c v) s = .next t ∧ (t.slot c true j).state = .cancelled ∧ (t.ctx (s.slot c true j).cur.org.ctx).state = .faulted))
    ∧ (∀ (gth : Bool) (j : Nat), j < slotCount gth → (s.slot c gth j).state = .halted → (s.slot c gth j).prg = true → (s.slot c gth j).bad = none →
        (s.slot c gth j).lost = false → ∃ t, exec (.prgResponse c gth j true) s = .next t ∧ (t.slot c gth j).state = .running ∧ (t.slot c gth j).prg = false
          ∧ ∀ r ∈ t.pageReqs, ¬(r.core = c ∧ r.gth = gth ∧ r.slot = j))
    ∧ (∀ (n : CoreId) (t : W64), ∃ u, exec (.watchEntryExpire n t) s = .next u ∧ (s.psc.ahead = false → t.toNat ≤ u.ptb.toNat)
        ∧ ∀ e : Watch, e ∈ vget u.watch n ↔ e ∈ vget s.watch n ∧ ∀ d : W64, e.due = some d → u.ptb.toNat < d.toNat)
    ∧ ∀ (d : List W64) (o : Origin) (k : List GthCmd), (s.core c).gthQ = .xrcheck d o :: k → s.allEnded o.ctx = false →
        let bad := (List.range (wbits d 2 31 0)).filter (fun i =>
          Mem.readN (s.core c).store (wbits d 0 29 0 + 4 * i) 4 != Mem.readN (s.core c).store (wbits d 1 29 0 + 4 * i) 4)
        ∃ t, exec (.xrcheckCompare c) s = .next t ∧ (t.core c).gthQ = k
          ∧ Mem.readN (t.core c).store (wbits d 3 29 0) 8 = bad.length * 2 ^ 32 + (bad.head?).getD 0xFFFFFFFF
/-! ## The row engine -/

/-- Instructions of the W class with their operation. -/
def Sys2Proof.Machine.rowClass : List ((CoreId → SeqId → EF → Instr) × RowOp) :=
  [(.wnorm, .norm), (.wnormb, .normB), (.wsmax, .smax), (.wsmaxb, .smaxB), (.wact, .act), (.wactb, .actB), (.wew, .ew), (.wloss, .loss)]

/-- The W class at issue (R133, R198): granted and checked, the command enters the row engine's queue and the sequencer retires. -/
def Obligations.RowInstructions : Prop :=
  ∀ e ∈ rowClass, ∀ (c : CoreId) (q : SeqId) (w : EF) (s : State) (x : CtxId) (d r : List W64), s.mayIssue c q x w.pn w.pr = true → w.xf = 0 →
    let l := s.landSst c q
    l.takeDesc c q (l.issueWin c q) (descOff (l.seq c q) w.sd w.doff.toNat) 64 = .ok d → (s.core c).rowQ.length < 16 → l.arbiter c .row q = some q →
    (l.checkRow c q (l.issueWin c q) e.2 d = .ok r →
      exec (e.1 c q w) s = .next (s.retires c q ((((l.grant c .row q).rouse 4 c (s.core c).rowHolds).modCore c (fun k => { k with
        rowQ := k.rowQ ++ [⟨e.2, r, l.originE c q x w.hv w.hid w.sb⟩] })).accepted c q)))
    ∧ ∀ f : EvName, l.checkRow c q (l.issueWin c q) e.2 d = .error f →
      exec (e.1 c q w) s = .next ((l.bump (Reg.SEQ_ISSUED c q) 1).seqFault (l.origin c q x) f [])

/-- A command of the row engine (R201, R203, R208, R210): an element-wise one writes its rows and leaves the queue; a backward one whose
row has no statistics faults with ROW_STAT_MISSING; an empty one completes at once. The functions of WEW and of WACT with RELU (R204,
R205), and the row maximum with a NaN (R199). -/
def Obligations.RowCommands : Prop :=
  (∀ (c : CoreId) (s : State) (k : RowCmd) (t : List RowCmd), (s.core c).rowQ = k :: t → (s.ctx k.org.ctx).state = .running → k.org.hv = false →
     let d := rowDesc k.desc
     (d.rows = 0 ∨ d.len = 0 → ∃ u, exec (.rowCommandComplete c) s = .next u ∧ (u.core c).rowQ = t ∧ (u.core c).store = (s.core c).store)
     ∧ (d.rows ≠ 0 → d.len ≠ 0 → (k.op = .act ∨ k.op = .ew ∨ k.op = .actB ∨ k.op = .loss) →
         ∃ u, exec (.rowCommandComplete c) s = .next u ∧ (u.core c).rowQ = t ∧ (u.core c).store = ((s.writeRows c k []).core c).store
           ∧ (u.core c).stats = (s.core c).stats)
     ∧ (d.rows ≠ 0 → d.len ≠ 0 → (k.op = .normB ∨ k.op = .smaxB) → (∃ r, r < d.rows ∧ ∀ e ∈ (s.core c).stats, k.isKey r e = false) →
         ∃ u, exec (.rowCommandComplete c) s = .next u ∧ (u.core c).rowQ = t ∧ (u.ctx k.org.ctx).state = .faulted))
  ∧ ((∀ a x y : W32, ewZ 0 a x y = x ∧ ewZ 1 a x y = fAdd x y ∧ ewZ 2 a x y = fMul x y ∧ ewZ 3 a x y = fAdd (fMul a x) y ∧ ewZ 4 a x y = fMul a x)
   ∧ (∀ x g : W32, ((x.setWidth 31).toNat > 0x7F800000 → actZ 1 x g = 0x7FC00000) ∧ (x.msb = true → (x.setWidth 31).toNat ≤ 0x7F800000 → actZ 1 x g = 0)
       ∧ (x.msb = false → 0 < x.toNat → x.toNat ≤ 0x7F800000 → actZ 1 x g = x))
   ∧ ∀ (ts : List (Option W32)) (v : W32), some v ∈ ts → (v.setWidth 31).toNat > 0x7F800000 → rowMax ts = some 0x7FC00000)

/-! ## Speculation and the stash -/

/-- XSPEC, XCOMMIT and XDISCARD at issue, and how a commit and a discard end (R159, R162, R163): the checkpoint taken, the held arrivals
sent, the registers restored at the discard target. -/
def Obligations.SpeculationWindows : Prop :=
  ∀ (c : CoreId) (s : State) (x : CtxId),
    (∀ w : CT, s.mayIssue c .F x w.pn w.pr = true → w.zero = 0 →
      let l := s.landSst c .F
      let v : Fin 2 := if w.win then 1 else 0
      let z := l.seq c .F
      (∀ tgt : Off, tgt = z.pc + (w.imm.signExtend 64).setWidth 30 → tgt.toNat % 8 = 0 → s.hasShadow c x v = true → (s.win c v).state = .closed → (s.win c v).discarding = false →
        ∃ t, exec (.xspec c .F w) s = .next t ∧ (t.win c v).state = .open_ ∧ (t.win c v).ckS = z.s ∧ (t.win c v).ckA = z.a ∧ (t.win c v).ckP = z.p
          ∧ (t.win c v).target = tgt ∧ (t.win c v).gen = (z.rs w.a).setWidth 16 ∧ (t.seq c .F).win = some v ∧ (t.seq c .F).pc = z.pc + 8
          ∧ (t.win c v).younger = ((s.win c (otherWin v)).state != .closed)))
    ∧ (∀ (q : SeqId) (w : CT), s.mayIssue c q x w.pn w.pr = true → w.zero = 0 → w.d = 0 → w.a = 0 → w.imm = 0 →
      let l := s.landSst c q
      let v : Fin 2 := if w.win then 1 else 0
      ((s.win c v).state = .open_ → exec (.xcommit c q w) s = .next (s.retires c q (l.modWin c v (fun z => { z with
          state := if (s.win c v).younger && (s.win c (otherWin v)).state != .closed then .commitPending else .committing }))))
      ∧ ((s.win c v).state = .open_ ∨ (s.win c v).state = .commitPending →
          ∃ t, exec (.xdiscard c q w) s = .next t ∧ (t.win c v).discarding = true ∧ (t.win c v).state = .closed ∧ (t.win c v).heldArr = [])
      ∧ ((s.win c v).state = .closed → exec (.xcommit c q w) s = .next ((l.bump (Reg.SEQ_ISSUED c q) 1).seqFault (l.origin c q x) .xSpecState [])
          ∧ exec (.xdiscard c q w) s = .next ((l.bump (Reg.SEQ_ISSUED c q) 1).seqFault (l.origin c q x) .xSpecState [])))
    ∧ (∀ v : Fin 2, (s.core c).ctx = some x → (s.ctx x).state = .running → (s.win c v).state = .committing → (s.core c).winBusy v = false →
        ∃ t, exec (.specCommitComplete c v) s = .next t ∧ t.win c v = Win.reset
          ∧ t.arrivals = s.arrivals.map (ordinary c v) ++ (s.win c v).heldArr.map (ordinary c v)
          ∧ ((s.win c (otherWin v)).state = .commitPending → (t.win c (otherWin v)).state = .committing)
          ∧ (t.core c).store = (s.core c).store)
    ∧ ∀ v : Fin 2, (s.win c v).discarding = true → (s.seq c .F).harm = none →
        ∃ t, exec (.specDiscardComplete c v) s = .next t ∧ t.win c v = Win.reset ∧ (t.seq c .F).s = (s.win c v).ckS ∧ (t.seq c .F).a = (s.win c v).ckA
          ∧ (t.seq c .F).p = (s.win c v).ckP ∧ (t.seq c .F).pc = (s.win c v).target ∧ (t.seq c .F).win = none ∧ (t.seq c .F).wait = none
          ∧ t.seq c .B = s.seq c .B ∧ t.seq c .U = s.seq c .U

/-- XSTASH, XRECALL and XFREE at issue (R212 to R214, R284, R285): a new key placed in the core store, what p[D] says of a key, and a
key that is freed; the copies of the stash and its stall timer (R283, R284, R286): a copy is written, a spilled key leaves the core store,
and a stall that lasts EXHAUST_MS faults. -/
def Obligations.StashKeys : Prop :=
  (∀ (c : CoreId) (w : EF) (s : State) (x : CtxId) (d : List W64),
     (s.mayIssue c .F x w.pn w.pr = true → w.xf = 0 →
       let l := s.landSst c .F
       let o := l.originE c .F x w.hv w.hid w.sb
       l.takeDesc c .F (l.issueWin c .F) (descOff (l.seq c .F) w.sd w.doff.toNat) 16 = .ok d →
       zeroBits d [(0, 63, 55), (1, 63, 32)] = true → wbits d 0 29 0 % 64 = 0 → l.issueWin c .F = none →
       ∀ (a : Nat) (ps : List Nat), l.access c .F none .read (wbits d 0 29 0) (wbits d 0 53 30 * 64) = .ok a →
         let d' := putOff d 0 0 a
         (s.core c).findKey o d' = none → (s.core c).keyOf (s.core c).stashUid = none → (s.core c).stash.length < 8192 → wbits d' 0 53 30 ≠ 0 →
         l.storeRoom c x none (pagesOf (wbits d' 0 53 30)) = some ps →
         ∃ t e a, exec (.xstash c .F w) s = .next t ∧ (t.core c).stash = (s.core c).stash ++ [e] ∧ e.state = .store ∧ e.pages = ps ∧ e.ctx = x
           ∧ e.len = wbits d' 0 53 30 ∧ e.mb = o.mb ∧ e.gen = o.gen ∧ (t.core c).stashOps = (s.core c).stashOps ++ [a] ∧ a.uid = e.uid
           ∧ a.isRecall = false ∧ a.off = wbits d' 0 29 0 ∧ a.len = wbits d' 0 53 30 ∧ a.org = o ∧ a.pages = ps ∧ a.src = []
           ∧ (t.seq c .F).pc = (s.seq c .F).pc + 8)
     ∧ (s.mayIssue c .B x w.pn w.pr = true →
       let l := s.landSst c .B
       let o := l.originE c .B x w.hv w.hid w.sb
       l.takeDesc c .B none (descOff (l.seq c .B) w.sd w.doff.toNat) 16 = .ok d →
       (∀ a : Nat, w.xf.toNat < 8 → w.xf ≠ 0 → zeroBits d [(0, 63, 54), (1, 63, 32)] = true → wbits d 0 29 0 % 64 = 0 →
         l.access c .B none .write (wbits d 0 29 0) (wbits d 0 53 30 * 64) = .ok a →
         (∀ e : StashKey, (s.core c).findKey o (putOff d 0 0 a) = some e → (s.core c).keyOf e.uid = some e → e.state ≠ .dropped → e.len ≠ 0 →
           ∃ t, exec (.xrecall c .B w) s = .next t ∧ (t.seq c .B).rp (w.xf.setWidth 3) = true ∧ (t.core c).stash = (s.core c).stash
             ∧ (t.core c).stashOps = (s.core c).stashOps ++ [l.copyOp c e true (putOff d 0 0 a) o])
         ∧ ((s.core c).findKey o (putOff d 0 0 a) = none →
           ∃ t, exec (.xrecall c .B w) s = .next t ∧ (t.seq c .B).rp (w.xf.setWidth 3) = false ∧ (t.core c).stashOps = (s.core c).stashOps))
       ∧ ∀ e : StashKey, w.xf = 0 → zeroBits d [(0, 63, 55), (1, 63, 32)] = true → (s.core c).findKey o d = some e →
           ∃ t, exec (.xfree c .B w) s = .next t ∧ (t.core c).stash = (s.core c).stash.filter (fun y => y.uid != e.uid) ∧ (t.seq c .B).pc = (s.seq c .B).pc + 8))
  ∧ (∀ (c : CoreId) (s : State),
     (∀ (a : StashOp) (k : List StashOp), (s.core c).stashOps = a :: k → s.allEnded a.org.ctx = false → a.org.hv = false →
       (a.isRecall = true → a.len ≠ a.keyLen → (s.ctx a.org.ctx).state = .running →
         ∃ t, exec (.stashCopyComplete c) s = .next t ∧ (t.core c).stashOps = k ∧ (t.ctx a.org.ctx).state = .faulted)
       ∧ (a.waits.any (s.core c).isMoving = false → (s.core c).pagesBusy a.uid a.pages = false →
         (a.isRecall = false → a.src = [] → (s.core c).copyWanted a = true → ∃ t, exec (.stashCopyComplete c) s = .next t ∧ (t.core c).stashOps = k
           ∧ (t.core c).store = putPages (s.core c).store a.pages (Mem.bytes (s.core c).store a.off (a.len * 64)))
         ∧ (a.isRecall = true → a.len = a.keyLen → a.src = [] → ∃ t, exec (.stashCopyComplete c) s = .next t ∧ (t.core c).stashOps = k
           ∧ (t.core c).store = Mem.setBytes (s.core c).store a.off (pageBytes (s.core c).store a.pages (a.len * 64)))
         ∧ ∀ bs : List Byte, a.isRecall = true → a.len = a.keyLen → a.src ≠ [] → s.copyHeld c a.uid a.org.ctx a.src false (a.len * 64) = false →
             let u := s.modCore c (fun z => { z with stashOps := k, stashTags := z.stashTags.filter (fun y => y.1 != a.uid) })
             (u.hbmGet c (s.ctx a.org.ctx).part a.src (a.len * 64)).2 = .ok bs → ∃ t, exec (.stashCopyComplete c) s = .next t
               ∧ (t.core c).stashOps = k ∧ (t.core c).store = Mem.setBytes (s.core c).store a.off bs))
     ∧ (∀ e : StashKey, (s.core c).stash.find? (fun e => e.state = .moving) = some e → (s.core c).stashOps = [] → (s.core c).pagesBusy e.uid e.pages = false →
         let vas := e.hpages.map (s.stashVa c e.ctx none)
         s.copyHeld c e.uid e.ctx vas true (e.len * 64) = false →
         let r := s.hbmPut c (s.ctx e.ctx).part vas (pageBytes (s.core c).store e.pages (e.len * 64))
         r.2 = none → exec (.stashSpillComplete c) s = .next ((r.1.modCore c (fun k => { k with stashTags := k.stashTags.filter (fun t => t.1 != e.uid) })).modKey
           c e.uid (fun e => { e with state := .hbm, pages := [] })))
     ∧ ∀ (a t : W64) (x : CtxId), (s.core c).stallAt = some a → a.toNat + s.exhaustNs c ≤ t.toNat → (s.core c).ctx = some x → (s.seq c .F).stalled = true →
         (s.ctx x).state = .running → ∃ u, exec (.stashStallTimeout c false t) s = .next u ∧ (u.ctx x).state = .faulted ∧ (u.core c).stallAt = none
           ∧ (u.act (Reg.SEQ_FAULT_CODE c .F)).toNat = EvName.xStashExhausted.code.toNat)

/-! ## The U class -/

/-- The U class at issue (R216, R296 to R309): its checks passed, an instruction hands its command to the relay engine of its core, or
makes its accesses, and retires; a publication stalls while both generations are referenced, and a refused access faults. A command that is
handed over is the engine's newest (R344). Codes applied to masters (R122, R298, R307): code 0 keeps a master, one that is not finite stays
and is counted; a plane has bit i set where element i is below zero; and a gathered UAPPLY writes once its slot is free. -/
def Obligations.UpdateInstructions : Prop :=
  (∀ (c : CoreId) (w : EA) (s : State) (x : CtxId) (d : List W64), s.mayIssue c .U x w.pn w.pr = true →
     let l := s.landSst c .U
     let o := l.originE c .U x w.hv w.hid w.sb
     let base := ((l.seq c .U).ra w.ar).toNat
     let retired (t : State) : State := s.retires c .U (t.accepted c .U)
     let refused (va : Nat) : State := (l.bump (Reg.SEQ_ISSUED c .U) 1).seqFault (l.origin c .U x) .strPerm [.word va]
     l.takeDesc c .U none (descOff (l.seq c .U) w.sd w.doff.toNat) 64 = .ok d →
     (w.xf = 0 → wbits d 2 31 0 ≠ 0 → wbits d 3 56 0 % 256 = 0 →
       zeroBits d [(0, 61, 48), (0, 31, 30), (2, 63, 48), (3, 63, 57), (4, 63, 32), (5, 63, 56), (5, 42, 0), (6, 63, 0), (7, 63, 0)] = true →
       (wbits d 0 63 63 = 1 ∧ (word d 1).toNat % 64 = 0
         ∨ wbits d 0 63 63 = 0 ∧ wbits d 0 29 0 % 64 = 0 ∧ ∃ k, l.access c .U none .read (wbits d 0 29 0) (wbits d 2 31 0 * 4) = .ok k) →
       ∃ r : RelCmd, r.op = opUgrad ∧ r.ctx = x ∧ r.len = wbits d 2 31 0 ∧ r.dstVa = wbits d 3 56 0 ∧ r.dims.toNat = wbits d 2 47 32
         ∧ r.srcStore = (if wbits d 0 63 63 = 1 then none else some (wbits d 0 29 0))
         ∧ exec (.ugrad c .U w) s = .next (retired (l.relHand c r ⟨.ugrad, d, 0, false, o, 0, 0, none, false⟩)))
     ∧ (w.xf = 0 → usignZero d = true → wbits d 1 56 0 % 256 = 0 →
         (wbits d 0 63 62 = 0 → wbits d 0 31 0 ≠ 0 → wbits d 4 56 0 % 256 = 0 →
           (∀ t : State, l.exportPlane o d base = .ok t → exec (.usignPlane c .U w) s = .next (retired t))
           ∧ ∀ va : Nat, l.exportPlane o d base = .error va → exec (.usignPlane c .U w) s = .next (refused va))
         ∧ (wbits d 0 63 62 = 1 → let e := l.nextExport x
           (e.1.ctx x).exports = (s.ctx x).exports + 1 ∧ ∃ r : RelCmd, r.op = opNorm ∧ r.ctx = x ∧ r.dims.toNat = wbits d 3 15 0
             ∧ exec (.usignStep c .U w) s = .next (retired (e.1.relHand c r ⟨.step, d, 0, false, o, 0, e.2, none, false⟩))))
     ∧ (∀ e : GenEntry, w.xf.toNat % 16 = 0 → uCount d ≠ 0 → uShapeOk d = true → (s.core c).gen x (uLayer d) = some e → e.prov = false →
         zeroBits d [(0, 63, 59), (0, 53, 48), (1, 63, 48), (2, 63, 32), (3, 63, 57), (5, 63, 57), (6, 63, 57), (7, 63, 57)] = true →
         let h := l.devRead (.core c) (l.ctx x).part (wbits d 6 56 0) (uRecord d)
         (∀ va : Nat, h.2 = .error va → exec (.uapply c .U w) s = .next (refused va))
         ∧ ∀ bs : List Byte, h.2 = .ok bs → recBits bs 0 31 0 = shardLen (uCount d) (2 ^ (dimsOf (uDims d)).length) (rankOf l.pkg (uDims d)) →
           recBits bs 1 47 32 = rankOf l.pkg (uDims d) → recBits bs 1 31 0 = uStep d → recBits bs 0 47 32 = uLayer d → recBits bs 3 1 0 ≠ 3 →
           ∃ r : RelCmd, r.op = opCodes ∧ r.ctx = x ∧ r.srcBytes = bs ∧ r.dstVa = wbits d 7 56 0
             ∧ exec (.uapply c .U w) s = .next (retired (h.1.relHand c r ⟨.apply, d, base, w.xf.getLsbD 4, o, 0, 0, none, false⟩)))
     ∧ (w.xf = 0 → uShapeOk d = true → uCount d ≠ 0 → upubZero d false = true →
         (∀ i : Nat, wbits d 0 63 62 = 0 → (s.core c).gen x (uLayer d) = none → (s.core c).genRoom = some i →
           let r := l.publish o d base ((BitVec.ofNat 16 (wbits d 1 63 48)).toNat % 2) (wbits d 0 61 61 = 1)
           r.2 = none → ∃ t, exec (.upubInit c .U w) s = .next t
             ∧ ⟨i, x, BitVec.ofNat 16 (uLayer d), BitVec.ofNat 16 (wbits d 1 63 48), false, false⟩ ∈ (t.core c).gens)
         ∧ ∀ e : GenEntry, wbits d 0 63 62 = 1 → (s.core c).gen x (uLayer d) = some e →
           ((s.core c).genRefs e 0 = 0 ∨ (s.core c).genRefs e 1 = 0 →
             let r := l.publish o d base ((if e.prov then e.cur.toNat + 1 else e.cur.toNat) % 2) (wbits d 0 61 61 = 1)
             (r.2 = none → exec (.upubPublish c .U w) s = .next (retired (r.1.uDone o))) ∧ ∀ va, r.2 = some va → exec (.upubPublish c .U w) s = .next (refused va))
           ∧ ((s.core c).genRefs e 0 ≠ 0 → (s.core c).genRefs e 1 ≠ 0 → (s.seq c .U).genStall = false →
             exec (.upubPublish c .U w) s = .next ((l.raiseRec .uGenStall false ⟨some x, some c, some .U⟩ 0 []).modSeq c .U (fun z => { z with genStall := true }))))
     ∧ ∀ k : Nat, w.xf = 0 → wbits d 0 63 62 = 2 → upubZero d true = true → wbits d 7 29 0 % 8 = 0 → l.access c .U none .write (wbits d 7 29 0) 8 = .ok k →
         let h := l.devRead (.core c) (l.ctx x).part (wbits d 6 56 0) 64
         ∀ bs : List Byte, h.2 = .ok bs → recBits bs 1 31 0 = uStep d →
           ∃ r : RelCmd, r.op = opVote ∧ r.ctx = x ∧ r.dims = uDims d ∧ r.value = some (0, if recBits bs 0 1 0 = 1 then 3 else 0)
             ∧ exec (.upubVerdict c .U w) s = .next (retired (h.1.relHand c r ⟨.verdict, d, 0, false, o, 0, 0, none, false⟩)))
  ∧ (∀ (c : CoreId) (s : State) (r : RelCmd) (u : UOp), s.relValid c r.ctx = true →
     (∀ v ∈ (s.core c).uops, v.checked = none → ∃ k ∈ (s.rel c).cmds, k.id = v.relay) → let t := s.relHand c r u
     (t.rel c).cmds = (s.rel c).cmds ++ [{ r with id := (s.rel c).next }] ∧ (t.core c).uops = (s.core c).uops ++ [{ u with relay := (s.rel c).next }])
  ∧ ((∀ (mode m e draw : Nat) (w : W32), ((w.setWidth 31).toNat < 0x7F800000 → applyCode mode m e 0 draw w = (w, false, false))
     ∧ ∀ code : Nat, 0x7F800000 ≤ (w.setWidth 31).toNat → applyCode mode m e code draw w = (w, false, true))
   ∧ (∀ (vs : List W32) (n i : Nat), i < 8 * n → ((signPlane vs n)[i / 8]?).map (fun b => b.getLsbD (i % 8))
       = some (match vs[i]? with | some v => decide (v.msb = true ∧ 0 < (v.setWidth 31).toNat ∧ (v.setWidth 31).toNat ≤ 0x7F800000) | none => false))
   ∧ ∀ (c : CoreId) (s : State) (u : UOp) (e : GenEntry) (v : Nat) (rs : List (List Byte)), (s.core c).uops.find? (fun u => u.checked.isSome) = some u →
       u.checked = some (v, rs) → (s.core c).gen u.org.ctx (uLayer u.desc) = some e → e.prov = false → (s.core c).genRefs e ((e.cur + 1).toNat % 2) = 0 →
       exec (.uapplyWrite c) s = .next (s.applyWrite u e v rs))
/-! ## The memory system -/

/-- A write of bytes of a line reads back through the buffer, whatever the mode and the hint, and leaves the line's other bytes
(R265, R266, R267); a blocked row takes none (R271). -/
def Obligations.LineWriteReadsBack : Prop :=
  ∀ (s : State) (pa : Nat) (cached : Bool) (hint unit : Nat) (bs : List (Nat × Byte)),
    (∀ e ∈ s.buf, (e.bytes.map (·.1)).Nodup ∧ ∀ b ∈ e.bytes, b.1 < 256) → (bs.map (·.1)).Nodup → (∀ b ∈ bs, b.1 < 256) → bs ≠ [] →
    ((s.row (s.cell pa).rowKey).st ≠ .retired → ∀ i : Nat, i < 256 →
      ((s.lineWrite pa cached hint bs unit).lineNow pa)[i]? = match bs.find? (fun b => b.1 = i) with | some b => some b.2 | none => (s.lineNow pa)[i]?)
    ∧ ((s.row (s.cell pa).rowKey).st = .retired → s.lineWrite pa cached hint bs unit = s.bump (Reg.MEM_BLOCKED (s.cell pa).stack) 1)

/-- Write-backs by idle time and by a flush change nothing that a read of a line gives (R266, R268). -/
def Obligations.WriteBackIsInvisible : Prop :=
  ∀ s : State, (∀ e ∈ s.buf, (e.bytes.map (·.1)).Nodup ∧ ∀ b ∈ e.bytes, b.1 < 256) → s.buf.Pairwise (fun a b => a.line ≠ b.line) →
    (∀ (line : Nat) (e : BufEntry), s.buf.find? (fun e => e.line = line) = some e → e.keep = false → e.dirty = true →
      (s.row (s.cell (line * 256)).rowKey).st ≠ .retired →
      ∃ t, exec (.wcbIdleWriteback line) s = .next t ∧ t.buf = s.buf.filter (fun e => e.line != line) ∧ ∀ pa : Nat, t.lineNow pa = s.lineNow pa)
    ∧ (s.flushing = true → ∃ t, exec .memFlushComplete s = .next t ∧ t.flushing = false ∧ (∀ e ∈ t.buf, e.dirty = false)
      ∧ ∀ pa : Nat, t.lineNow pa = s.lineNow pa)

/-- Scrub and repair (R269 to R271), invalidation (R262), flush (R268) and the pages of host memory (R275). -/
def Obligations.MemoryCommands : Prop :=
  ∀ s : State,
    (∀ (pa n : Nat), s.fld Reg.MEM_CFG 31 24 ≠ 0 → pa < memLimit s → 256 ≤ pa → s.isPoisoned pa = false → n ≠ 0 →
      (s.row (s.cell pa).rowKey).ce + n < max 1 (s.fld Reg.MEM_CFG 23 20) →
      ∃ t, exec (.scrub pa (.corrected n)) s = .next t ∧ (t.act (Reg.MEM_CE (s.cell pa).stack)).toNat = min ((s.act (Reg.MEM_CE (s.cell pa).stack)).toNat + n) 0xFFFFFFFF
        ∧ (t.row (s.cell pa).rowKey).ce = (s.row (s.cell pa).rowKey).ce + n ∧ (t.row (s.cell pa).rowKey).st = (s.row (s.cell pa).rowKey).st ∧ t.dram = s.dram)
    ∧ (∀ pa : Nat, (s.row (s.cell pa).rowKey).copying = true →
        ∃ t, exec (.softRepairComplete pa) s = .next t ∧ t.row (s.cell pa).rowKey = { s.row (s.cell pa).rowKey with copying := false })
    ∧ (∀ pa : Nat, (s.row (s.cell pa).rowKey).st = .good → let r := (s.failRow pa).row (s.cell pa).rowKey
        if smGet (fun _ => 0) s.spares (s.cell pa).bankKey < (Config.bankSpares (s.cell pa).bankKey).val then r.st = .soft ∧ r.copying = true else r.st = .retired)
    ∧ (∀ v : W32, s.inService = true → s.writeAhead Reg.MEM_INVAL_HI = false → exec (.memInvalWrite v) s = .next { s with inval := s.inval ++ [⟨Fin.ofNat 8 (fieldOf v 31 29),
          fieldOf v 24 0 * 2 ^ 32 + s.fld Reg.MEM_INVAL_LO 31 16 * 2 ^ 16, fieldOf v 28 27, none⟩] })
    ∧ (∀ (r : InvalReq) (k : List InvalReq), s.inval = r :: k → s.invalBusy r = false →
        ∃ t, exec .memInvalComplete s = .next t ∧ t.inval = k
          ∧ ∀ (ag : Agent), ∀ e ∈ t.tlb ag, e ∈ s.tlb ag ∧ (e.part ≠ r.part ∨ r.covers e.va (2 ^ e.bits) = false))
    ∧ (∀ v : W32, s.inService = true → s.writeAhead Reg.MEM_FLUSH = false → v.getLsbD 0 = true → exec (.memFlushWrite v) s = .next { s with flushing := true })
    ∧ ∀ (p : CoreId) (page : Nat) (b : Bool), ∃ t, exec (.atsInvalidation p page b) s = .next t ∧ ((p, page) ∈ t.hostAbsent ↔ b = false)
        ∧ (∀ e ∈ t.atc, e ∈ s.atc ∧ ¬(e.pasid = s.pasid p ∧ e.page = page))
        ∧ ∀ e : CoreId × Nat, e ≠ (p, page) → (e ∈ t.hostAbsent ↔ e ∈ s.hostAbsent)

/-! ## The links -/

/-- A good header without a NAK, as the flits of these statements carry. -/
def Sys2Proof.FlitHead.plain (h : FlitHead) : Bool := goodFlit h && !h.nak

/-- Flits that leave (R317, R322, R323, R326, R327): what is unsequenced goes first, a request of the time base with its timestamp; a port
with closed shutters sends nothing; a port in training sends its identity; a control message or command takes the slot after eight; and an
IDLE flit fills it. The 512 bytes of a flit give back its header. The time base over the links (R33, R335): the root is LOCKED, a package
without a candidate port is in HOLDOVER, another sends its request; a replica's reload shows the master copy. -/
def Obligations.FlitsSent : Prop :=
  (∀ (p : PortId) (s : State), let x := s.port p
     (∀ (k : TxKind) (u : List TxKind), x.unseq = k :: u → ∃ t h, exec (.flitSlot p) s = .next t ∧ (t.port p).unseq = u
         ∧ (t.port p).lastTx = some (h, (s.stamp k).1) ∧ h.ack = x.rx
         ∧ (∀ t1 : W64, k = .tsync (.request t1) → ∃ f : Fin 8, (s.stamp k).1 = .tsync (.request (s.ptb * 8 + BitVec.ofNat 64 f)))
         ∧ ((∀ b, k ≠ .tsync b) → (s.stamp k).1 = k))
     ∧ (x.unseq = [] → s.shutterOpen p = false → ∃ t, exec (.flitSlot p) s = .next t ∧ (t.port p).lastTx = none ∧ t.wire p = none)
     ∧ (x.unseq = [] → s.shutterOpen p = true → s.portState p = stTraining →
         ∃ t, exec (.flitSlot p) s = .next t ∧ ∃ h, (t.port p).lastTx = some (h, .ident (s.identOf p)))
     ∧ (x.unseq = [] → s.shutterOpen p = true → x.halted = false → s.linked p = true → (∀ f ∈ x.retry, f.sent = true) →
       (x.ctrl = [] → s.vcEligible p vcHctl = true → 8 ≤ x.hctlAgo → ∃ t, exec (.flitSlot p) s = .next t ∧ (t.port p).seq = x.seq + 1
         ∧ vget (t.port p).credit vcHctl = vget x.credit vcHctl - 1
         ∧ ∃ f, (t.port p).retry = x.retry ++ [f] ∧ f.seq = x.seq ∧ f.vc = vcHctl ∧ f.sent = true
           ∧ ∃ h, (t.port p).lastTx = some (h, .data vcHctl f.tseq f.msgs f.payload) ∧ h.seq = x.seq)
       ∧ (∀ (c : Ctrl) (k : List Ctrl), x.ctrl = c :: k → 0 < vget x.credit vcHctl → x.retry.length < 2048 → 8 ≤ x.hctlAgo →
         ∃ t h, exec (.flitSlot p) s = .next t ∧ (t.port p).ctrl = k ∧ (t.port p).lastTx = some (h, .ctrl c) ∧ h.seq = x.seq
           ∧ (c = .opened → (t.port p).openSent = true ∧ t.portState p = (if x.openRecv then stUp else s.portState p)))
       ∧ (x.ctrl = [] → (∀ v : Fin 4, s.vcEligible p v = false) → ∃ t, exec (.flitSlot p) s = .next t ∧ (t.port p).retry = x.retry
         ∧ ∃ h, (t.port p).lastTx = some (h, .idle false))))
  ∧ (∀ (h : FlitHead) (k : TxKind) (corrected lost : Nat), (flitBytes h k).length = 512
      ∧ headOf (flitBytes h k) corrected lost = { h with ok := true, corrected := corrected, lost := lost })
  ∧ (∀ (t : W64) (s : State),
     (s.isRoot = true → ∃ u, exec (.tsyncRequest t) s = .next u ∧ u.fld Reg.PTB_STATUS 1 0 = 2)
     ∧ (s.isRoot = false → s.syncPort = none → ∃ u, exec (.tsyncRequest t) s = .next u ∧ u.fld Reg.PTB_STATUS 1 0 = (if s.psc.resync then 1 else 3))
     ∧ (∀ p : PortId, s.isRoot = false → s.syncPort = some p → ∃ u, exec (.tsyncRequest t) s = .next u
         ∧ (u.port p).unseq = (s.port p).unseq ++ [.tsync (.request 0)] ∧ u.fld Reg.PTB_STATUS 15 12 = p.val)
     ∧ ∃ u, exec (.ptbReplicaReload t) s = .next u ∧ u = { s with ptb := u.ptb }
       ∧ u.ptb.toNat = (if s.psc.ahead then s.ptb.toNat else max s.ptb.toNat t.toNat))

/-- Flits that arrive (R320 to R327, R333, R336, R337): a sequenced flit in order is accepted with its messages, one out of order is
answered by a NAK; control flits and unsequenced flits have their effects. -/
def Obligations.FlitsReceived : Prop :=
  ∀ (p : PortId) (h : FlitHead) (s : State), h.plain = true → let x := s.port p
    (∀ down : Bool, s.timed p = true → ∃ t, exec (.idleFlit p h down) s = .next t ∧ (t.port p).down = (if down then min 256 (x.down + 1) else 0)
      ∧ ∀ v : Fin 4, vget (t.port p).credit v = vget x.credit v + (vget h.credit v).toNat)
    ∧ (∀ (vc : Fin 4) (q : BitVec 16) (ms : List Msg), s.portState p ≠ stUp → exec (.dataFlit p h vc q ms) s = .next s)
    ∧ (s.linked p = true → h.seq = x.rx + 1 →
      (∀ (vc : Fin 4) (d : PortId) (m : Msg), s.portState p = stUp → s.portDim p = some d → (s.dim d).hold = [] → m.dst = s.pkg → (∀ k n, m.body ≠ .reserved k n) →
        ∃ t, exec (.dataFlit p h vc (vget (s.dim d).rxT vc) [m]) s = .next t ∧ t.inbox = s.inbox ++ [⟨some p, vc, m⟩] ∧ (t.port p).rx = h.seq
          ∧ vget (t.dim d).rxT vc = vget (s.dim d).rxT vc + 1 ∧ vget (t.port p).owed vc = vget x.owed vc + 1)
      ∧ (∀ (f l : Fin 8) (tx : Bool), ∃ t, exec (.ctrlLaneSwap p h f l tx) s = .next t
          ∧ bit (t.act (Reg.LNK_STATUS p)).toNat (if tx then f.val else 8 + f.val) = true ∧ (t.port p).rx = h.seq)
      ∧ (∀ (w : Fin 9) (tx : Bool), ∃ t, exec (.ctrlWidthChange p h w tx) s = .next t
          ∧ (4 ≤ w.val → (if tx then t.fld (Reg.LNK_STATUS p) 23 20 else t.fld (Reg.LNK_STATUS p) 27 24) = w.val)
          ∧ (w.val < 4 → x.loss = none → (t.port p).loss = some 9))
      ∧ (s.portState p = stFenced → ∃ t, exec (.openRx p h) s = .next t ∧ (t.port p).openRecv = true
          ∧ t.portState p = (if x.openSent then stUp else stFenced)))
    ∧ (∀ (vc : Fin 4) (q : BitVec 16) (ms : List Msg), s.portState p = stUp → h.seq ≠ x.rx + 1 →
        ∃ t, exec (.dataFlit p h vc q ms) s = .next t ∧ (t.port p).nakDue = true ∧ (t.port p).rx = x.rx ∧ t.inbox = s.inbox)
    ∧ (s.timed p = true →
      (∀ t1 : W64, ∃ t, ∃ f : Fin 8, exec (.tsyncFlit p h (.request t1)) s = .next t ∧ t.ptb = s.ptb
          ∧ (t.port p).unseq = x.unseq ++ [.tsync (.answer t1 (s.ptb * 8 + BitVec.ofNat 64 f) 0 0 (BitVec.ofNat 2 (s.fld Reg.PTB_STATUS 1 0)))])
      ∧ (∀ (t1 t2 t3 t4 : W64) (st : BitVec 2), s.isRoot = false → s.syncPort = some p → s.released = false → s.psc.resync = false →
          ∃ t, exec (.tsyncFlit p h (.answer t1 t2 t3 t4 st)) s = .next t ∧ t.ptb = s.ptb + BitVec.ofInt 64 (tsyncOffset t1 t2 t3 t4 / 8)
            ∧ t.fld Reg.PTB_STATUS 31 16 = min ((tsyncOffset t1 t2 t3 t4).natAbs / 8) 0xFFFF)
      ∧ ∀ cause : Nat, s.linked p = true → x.loss = none → 1 ≤ cause → cause ≤ 4 → ∃ t, exec (.noticeFlit p h cause) s = .next t ∧ (t.port p).loss = some cause)
    ∧ ∀ (i : Ident) (d : PortId), s.portState p = stTraining → s.portDim p = some d →
        (i.pkg = s.pkg ^^^ BitVec.ofNat 16 (2 ^ d.val) → i.system = s.act Reg.LNK_SYSTEM →
          ∃ t, exec (.identFlit p h i) s = .next t ∧ (t.port p).identOk = true ∧ t.portState p = stTraining)
        ∧ (i.pkg ≠ s.pkg ^^^ BitVec.ofNat 16 (2 ^ d.val) ∨ i.system ≠ s.act Reg.LNK_SYSTEM → ∃ t, exec (.identFlit p h i) s = .next t ∧ t.portState p = stMismatch)

/-- Training, spare lanes, widths and loss of a port (R316, R320, R321, R333, R334, R337, R338), and the host's control of it. -/
def Obligations.PortLife : Prop :=
  ∀ (p : PortId) (s : State), let x := s.port p
    let st := s.portState p
    (s.linked p = true → x.loss = none → (∃ t, exec (.lossOfLight p) s = .next t ∧ (t.port p).loss = some 5)
      ∧ (∃ t, exec (.codewordLockLoss p) s = .next t ∧ (t.port p).loss = some 7)
      ∧ (x.down = 256 → ∃ t, exec (.peerDownCount p) s = .next t ∧ (t.port p).loss = some 6))
    ∧ (∀ cause : Nat, cause < 16 → x.loss = some cause → (s.companion p = none → ∃ t, exec (.portMarkLost p) s = .next t ∧ t.portState p = stLost
          ∧ t.fld (Reg.LNK_STATUS p) 19 16 = cause)
        ∧ ∀ q : PortId, s.companion p = some q → ∃ t, exec (.portMarkLost p) s = .next t ∧ t.portState p = stShed ∧ (t.port q).retry.length
            = (s.port q).retry.length + (x.retry.filter (fun f => f.ctrl.isNone)).length)
    ∧ (st = stShed → ∃ t, exec (.lightRegained p) s = .next t ∧ t.portState p = stTraining ∧ (t.port p).retry = [] ∧ (t.port p).rx = 0xFFF)
    ∧ (∀ (wt wr : Fin 9) (a b : BitVec 8), st = stTraining → x.identOk = true → 4 ≤ wt.val → wt.val ≤ 8 - (s.darkWaves p).length → 4 ≤ wr.val →
        ∃ t, exec (.portTrained p wt wr a b) s = .next t ∧ t.portState p = (if s.inStart && x.peerStarting then stUp else stFenced)
          ∧ t.fld (Reg.LNK_STATUS p) 27 24 = wt.val ∧ t.fld (Reg.LNK_STATUS p) 23 20 = wr.val 
          ∧ t.fld (Reg.LNK_STATUS p) 15 8 = (a.toNat ||| if s.inStart then s.fld (Reg.LNK_STATUS p) 15 8 else 0)
          ∧ t.fld (Reg.LNK_STATUS p) 7 0 = (b.toNat ||| if s.inStart then s.fld (Reg.LNK_STATUS p) 7 0 else 0))
    ∧ (∀ n : W64, st = stTraining →
        (x.trainFail = false → x.trainAt.toNat + s.fld Reg.LNK_CFG 31 20 * 1000000 ≤ n.toNat →
          ∃ t, exec (.trainTimeout p n) s = .next t ∧ (t.port p).trainFail = true ∧ t.portState p = stTraining)
        ∧ (x.trainFail = true → x.trainAt.toNat + 1000000000 ≤ n.toNat →
          ∃ t, exec (.trainRetry p n) s = .next t ∧ t.portState p = stTraining ∧ (t.port p).identOk = false ∧ (t.port p).trainAt = t.ptb))
    ∧ (∀ (tx : Bool) (f l : Fin 8), s.timed p = true → bit (s.act (Reg.LNK_STATUS p)).toNat (if tx then 8 + f.val else f.val) = false →
        ∃ t, exec (.laneSpare p tx f l) s = .next t ∧ bit (t.act (Reg.LNK_STATUS p)).toNat (if tx then 8 + f.val else f.val) = true
          ∧ (t.port p).ctrl = x.ctrl ++ [.laneSwap f l tx])
    ∧ (∀ (f l : Fin 8), s.timed p = true → bit (s.act (Reg.LNK_STATUS p)).toNat (8 + f.val) = true → x.txOut.getLsbD l = false →
        4 < s.fld (Reg.LNK_STATUS p) 27 24 → ∃ t, exec (.laneSpare p true f l) s = .next t ∧ (t.port p).txOut.getLsbD l = true
          ∧ t.fld (Reg.LNK_STATUS p) 27 24 = s.fld (Reg.LNK_STATUS p) 27 24 - 1)
    ∧ (s.timed p = true → (∀ w : Nat, w = s.fld (Reg.LNK_STATUS p) 27 24 → 4 < w →
          ∃ t, exec (.widthReduce p true) s = .next t ∧ t.fld (Reg.LNK_STATUS p) 27 24 = w - 1)
        ∧ (s.fld (Reg.LNK_STATUS p) 27 24 ≤ 4 → s.linked p = true → x.loss = none → ∃ t, exec (.widthReduce p true) s = .next t ∧ (t.port p).loss = some 9))
    ∧ (∀ (k : Fin 8) (v : BitVec 16), ∃ t, exec (.laserSample p k v) s = .next t ∧ t.act (Reg.LNK_LASER p k) = v.setWidth 32
          ∧ vget (t.port p).laserLow k = (if v.toInt < 1400 then min 100 (vget x.laserLow k + 1) else 0)
          ∧ (v ≠ 0x8000 → v.toInt < 1200 → s.timed p = true → x.txOut.getLsbD k = false → 4 < s.fld (Reg.LNK_STATUS p) 27 24 →
            t.fld (Reg.LNK_STATUS p) 27 24 = s.fld (Reg.LNK_STATUS p) 27 24 - 1))
    ∧ (s.inService = true → s.writeAhead (Reg.LNK_CTL p) = false →
        (st = stLost → s.fld Reg.GNT_STATUS 31 30 ≠ 2 → s.usableUnit (24 + p.val) = true → ∃ t, exec (.lnkRetrain p) s = .next t ∧ t.portState p = stTraining)
        ∧ (st = stFenced → x.openSent = false → Ctrl.opened ∉ x.ctrl → ∃ t, exec (.lnkOpen p) s = .next t ∧ (t.port p).openSent = false
            ∧ (t.port p).ctrl = x.ctrl ++ [.opened] ∧ t.portState p = stFenced)
        ∧ ∃ t, exec (.lnkDisable p true) s = .next t ∧ t.portState p = stDisabled
            ∧ (st ≠ stDisabled → t.shutterOpen p = false ∧ ∃ n, (t.port p).unseq = [.notice 4 n]))
    ∧ ∃ t, exec .refclkLinkLoss s = .next t ∧ (∀ q : PortId, t.portState q = stLost) ∧ t.pins.linkRef = false

/-- Messages of other packages (R150, R274, R325, R339): a line read or written here through an INBOUND window, a refusal, an arrival, and
the replies to this package's own requests. -/
def Obligations.LinkMessages : Prop :=
  ∀ (n : Nat) (s t : State) (m : InMsg), s.takeMsg n = some (m, t) →
    let pa := m.msg.addr.toNat / 256 * 256
    (∀ (hint : Fin 3) (i : Nat), m.msg.body = .rdReq hint → t.inbound m.msg.org pa false = some i → t.isPoisoned pa = false →
      exec (.rdReq n) s = .next ((t.lineRead pa (t.winCached i) hint).2.2.answer vcDisp m.msg (.rdRsp (t.lineNow pa))))
    ∧ (∀ hint : Fin 3, m.msg.body = .rdReq hint → t.inbound m.msg.org pa false = none →
        ∃ u, exec (.rdReq n) s = .next u ∧ (u.act Reg.MEM_INBOUND_CNT).toNat = min ((s.act Reg.MEM_INBOUND_CNT).toNat + 1) 0xFFFFFFFF ∧ u.dram = s.dram)
    ∧ (∀ (hint : Fin 3) (bs : List (Nat × Byte)) (i : Nat), m.msg.body = .wr hint bs → t.inbound m.msg.org pa true = some i →
        exec (.wr n) s = .next ((t.lineWrite pa (t.winCached i) hint bs unitOther).answer vcDisp m.msg .wrAck))
    ∧ (∀ (hid : Hid) (b : W64) (p : PortId), m.msg.body = .arrive hid b → m.port = some p →
        exec (.arriveMessage n) s = .next { t with arrivals := t.arrivals ++ [⟨hid, b, .port p⟩] })
    ∧ ∀ (r : OutReq) (c : CoreId) (gth : Bool) (j k : Nat), (t.outReq.find? (fun r => r.tag = m.msg.tag)) = some r → r.who = .line c gth j k →
        let u : State := { t with outReq := t.outReq.filter (fun r => r.tag != m.msg.tag) }
        (∀ l : List Byte, m.msg.body = .rdRsp l → l ≠ [] →
          exec (.rdRsp n) s = .next (u.modReq c gth j k (fun z => { z with data := (List.range 256).zip l, st := .served })))
        ∧ (m.msg.body = .wrAck → exec (.wrAck n) s = .next (u.modReq c gth j k (fun z => { z with st := .served })))
        ∧ (m.msg.body = .refuse → exec (.refuse n) s = .next (u.modReq c gth j k (fun z => { z with st := .failed .refused })))
        ∧ (m.msg.body = .peerLost → ∃ v, exec (.peerLost n) s = .next v ∧ (∀ z ∈ v.outReq, z.tag ≠ m.msg.tag)
          ∧ ∀ p : PortId, (t.dimPorts (Fin.ofNat 16 r.dim)).head? = some p → (v.act (Reg.LNK_PEER_LOST p)).toNat = min ((s.act (Reg.LNK_PEER_LOST p)).toNat + 1) 0xFFFFFFFF)

/-! ## Relay engines -/

/-- The shards of a vector (R295): each but the last starts at a multiple of 2,048 elements, and together they are the vector. -/
def Obligations.ShardsCover : Prop :=
  ∀ count d : Nat, 0 < d →
    shardSize count d % 2048 = 0 ∧ count ≤ d * shardSize count d ∧ ((List.range d).map (shardLen count d)).sum = count
    ∧ ∀ t : Nat, t < d → shardLen count d t ≤ shardSize count d ∧ (count < t * shardSize count d → shardLen count d t = 0)

/-- The steps of a group (R277, R354, R361, R362): the partner of a step differs in one dimension and is a partner in turn; the bit
reversal of R355 is its own inverse; a vote accepts only if both accept, and reports a disagreement of either. -/
def Obligations.RelaySteps : Prop :=
  (∀ (s : State) (c : RelCmd) (j : Nat) (p : PortId), (dimsOf c.dims)[c.stepOf j]? = some p →
    s.relPartner c j ^^^ s.pkg = BitVec.ofNat 16 (2 ^ p.val) ∧ c.dims.getLsbD p.val = true)
  ∧ (∀ n x : Nat, x < 2 ^ n → bitrev n x < 2 ^ n ∧ bitrev n (bitrev n x) = x)
  ∧ ∀ (c : RelCmd) (a b : W64 × BitVec 2),
      (c.op = opVote → (c.combine a b).2.getLsbD 0 = (a.2.getLsbD 0 && b.2.getLsbD 0) ∧ (c.combine a b).2.getLsbD 1 = (a.2.getLsbD 1 || b.2.getLsbD 1))
      ∧ (c.op = opNorm → c.combine a b = (fAdd64 a.1 b.1, a.2 ||| b.2))

/-- A kick of a relay queue and its polls (R346 to R348): a posted entry is accepted and REL_Q_HEAD advances; a ring without a new entry
is polled, and after 16 reads the poll ends. -/
def Obligations.RelayQueues : Prop :=
  ∀ (s : State) (d : CoreId) (x : CtxId) (q : Fin 3),
    let head := s.act (Reg.REL_Q_HEAD d x q)
    let slot (n : W32) : Nat := s.ringBase d x q + n.toNat % s.ringSize d x q * 64
    let w := Mem.words (s.core d).store (slot head) 8
    (∀ k : List (CoreId × CtxId × Fin 3), s.kicks = (d, x, q) :: k → s.ringOwned d x q = true →
      (wbits w 7 31 0 ≠ (head + 1).toNat → ∃ t, exec .relayQueueKick s = .next t ∧ t.kicks = k ∧ (x, q, 0) ∈ (t.rel d).polls
        ∧ t.act (Reg.REL_Q_HEAD d x q) = head ∧ (t.rel d).cmds = (s.rel d).cmds)
      ∧ (wbits w 7 31 0 = (head + 1).toNat → wbits (Mem.words (s.core d).store (slot (head + 1)) 8) 7 31 0 ≠ (head + 2).toNat →
          postedOk w = true → s.relValid d x = true →
          ∃ t r, exec .relayQueueKick s = .next t ∧ t.kicks = k ∧ t.act (Reg.REL_Q_HEAD d x q) = head + 1 ∧ (t.rel d).cmds = (s.rel d).cmds ++ [r]
            ∧ r.op = wbits w 0 63 56 ∧ r.ctx = x ∧ r.src = .posted q (slot head) ∧ r.len = wbits w 1 31 0 ∧ r.started = false))
    ∧ (∀ n : Nat, (s.rel d).polls.find? (fun p => p.1 = x && p.2.1 = q) = some (x, q, n) → wbits w 7 31 0 ≠ (head + 1).toNat →
        (15 ≤ n → ∃ t, exec (.relayQueuePoll d x q) s = .next t ∧ ∀ p ∈ (t.rel d).polls, ¬(p.1 = x ∧ p.2.1 = q))
        ∧ (n < 15 → s.ringOwned d x q = true → ∃ t, exec (.relayQueuePoll d x q) s = .next t ∧ (x, q, n + 1) ∈ (t.rel d).polls)
        ∧ (s.ringOwned d x q = false → ∃ t, exec (.relayQueuePoll d x q) s = .next t ∧ ∀ p ∈ (t.rel d).polls, ¬(p.1 = x ∧ p.2.1 = q)))

/-- A relay command starts (R349, R350), and each operation takes its next action in turn (R352 to R367); what the time brings to relay
commands (R351, R352, R365, R371): a READY sent again, a long wait reported once, an idle pack sent, and the end of a follow request. -/
def Obligations.RelayTurns : Prop :=
  (∀ (d : CoreId) (s : State), s.relHeld = false →
     (∀ c : RelCmd, ((s.rel d).cmds.filter (·.started)).length < 16 → nextInTurn (s.rel d).rot ((s.rel d).heads.filter (s.startable d)) = some c →
       (s.relValid d c.ctx = false → exec (.relayCommandStart d) s = .next ((s.relAbort d c relRefused 0 0).settleU d))
       ∧ (s.relValid d c.ctx = true → c.empty = true → exec (.relayCommandStart d) s = .next (((s.modRel d (fun r => { r with rot := c.queue })).relFinish d c).settleU d))
       ∧ (s.relValid d c.ctx = true → c.empty = false → s.fld (Reg.REL_WORK_SIZE d c.ctx) 15 0 < c.need → exec (.relayCommandStart d) s = .next ((s.relAbort d c relWork 0 0).settleU d))
       ∧ (s.relValid d c.ctx = true → c.empty = false → c.need ≤ s.fld (Reg.REL_WORK_SIZE d c.ctx) 15 0 → exec (.relayCommandStart d) s = .next ((s.relStart d c).settleU d)))
     ∧ ∀ (id : Nat) (c : RelCmd),
         (s.running? d id opScatter = some c → exec (.reduceScatter d id) s = .next ((s.relAdvance d c).settleU d))
         ∧ (s.running? d id opAllReduce = some c → exec (.allReduce d id) s = .next ((s.relAdvance d c).settleU d))
         ∧ (s.running? d id opGather = some c → exec (.allGather d id) s = .next ((s.relAdvance d c).settleU d))
         ∧ (s.running? d id opUgrad = some c → exec (.ugradReduce d id) s = .next ((s.relAdvance d c).settleU d))
         ∧ (s.running? d id opCodes = some c → exec (.codes d id) s = .next ((s.relAdvance d c).settleU d))
         ∧ (s.running? d id opNorm = some c → exec (.norm d id) s = .next ((s.voteAdvance d c).settleU d))
         ∧ (s.running? d id opVote = some c → exec (.vote d id) s = .next ((s.voteAdvance d c).settleU d))
         ∧ (s.running? d id opDispatch = some c → exec (.dispatch d id) s = .next ((s.dispatchTurn d c).settleU d))
         ∧ (s.running? d id opCombine = some c → exec (.combine d id) s = .next ((s.combineTurn d c).settleU d)))
  ∧ (∀ (d : CoreId) (s : State),
     (∀ (id j : Nat) (c : RelCmd), s.relCmd d id = some c → j ∈ c.again →
       exec (.readyResend d id j) s = .next ((((s.putRelCmd d { c with again := c.again.filter (· != j) }).bump (Reg.REL_READY_RETRY d) 1).sendReady d id [j]).settleU d))
     ∧ (∀ (id : Nat) (t : W64) (c : RelCmd), s.relCmd d id = some c → c.started = true → c.waitRaised = false →
         (∃ j, j < c.steps ∧ j ∉ c.ready) → c.since.toNat + s.fld (Reg.REL_CFG d) 31 22 * 1000000 ≤ t.toNat →
         ∃ u y, exec (.readyWaitExpire d id t) s = .next u ∧ u.relCmd d id = some y ∧ y = { c with waitRaised := true })
     ∧ (∀ (id : Nat) (dst : BitVec 16) (p : Pack) (t : W64), (s.rel d).packs.find? (fun p => p.cmd = id && p.dst = dst) = some p →
         p.joined.toNat + s.fld (Reg.REL_CFG d) 15 0 ≤ t.toNat → exec (.packIdle d id dst t) s = .next (((s.atTime t).sendPack d p).settleU d))
     ∧ ∀ (x : CtxId) (t : W64) (f : Nat), (s.ctx x).follow = some f → s.fld (Reg.REL_FOLLOW d x) 31 31 = 1 →
         (s.ctx x).followAt.toNat + max 1 (s.fld (Reg.REL_PACE_CFG d) 15 8) * 1000000 ≤ t.toNat →
         ∃ u, exec (.followProbe d x t) s = .next u ∧ (u.ctx x).follow = none ∧ ∀ e : CoreId, u.fld (Reg.REL_FOLLOW e x) 31 31 = 0)

/-- Relay messages (R344, R351, R352, R359, R361, R365, R366): what each leaves at the engine it is for; a job that is bound to no context
is refused and counted. -/
def Obligations.RelayMessages : Prop :=
  ∀ (n : Nat) (s t : State) (m : InMsg) (k : RelayKey) (j : BitVec 5) (dims : BitVec 16) (b : RelayBody), s.takeMsg n = some (m, t) →
    m.msg.body = .relay k j dims b →
    let d := k.core
    (∀ x : CtxId, t.relBind d k.job = some x →
      (∀ (v : W64), b = .ready v → (∀ c : RelCmd, t.relFind d x k = some c → c.started = true → exec (.ready n) s = .next ((t.gotReady d c.id ⟨m.msg.org, k, j.toNat, dims, v⟩).settleU d))
        ∧ (t.relFind d x k = none → (s.rel d).readies.length < 1024 →
          exec (.ready n) s = .next (t.modRel d (fun r => { r with readies := r.readies ++ [⟨m.msg.org, k, j.toNat, dims, v⟩] }))))
      ∧ (∀ (seg : W64) (bs : List Byte) (c : RelCmd), b = .data seg bs → t.relFind d x k = some c → c.started = true →
          (c.applies j.toNat seg.toNat = true → t.relHeld = false → exec (.relayData n) s = .next ((t.relApply d c j.toNat seg.toNat m.msg.tag bs).settleU d))
          ∧ (c.applies j.toNat seg.toNat = false ∨ t.relHeld = true → exec (.relayData n) s = .next (t.putRelCmd d { c with held := c.held ++ [(j.toNat, seg.toNat, m.msg.tag, bs)] })))
      ∧ (∀ c : RelCmd, b = .abort → t.relFind d x k = some c → exec (.relayAbort n) s = .next ((t.relAbort d c relPeerLost j.toNat 0).settleU d))
      ∧ (∀ (v : W64) (bits : BitVec 2), b = .value v bits →
          exec (.relayValue n) s = .next (t.modRel d (fun r => { r with values := r.values ++ [⟨k, j.toNat, v, bits⟩] })))
      ∧ (∀ (seg : W64) (r : RowItem) (u : State), b = .rows seg [r] → t.writeRow d x m.msg.org r = (u, none) →
          exec (.rows n) s = .next (u.sendMsg vcHctl ⟨m.msg.org, s.pkg, m.msg.tag, 0, .relay k j dims (.ack seg)⟩ none).1)
      ∧ (∀ c : RelCmd, b = .refuse true → (∀ q ∈ t.outReq, q.tag ≠ m.msg.tag) → t.relFind d x k = some c →
          exec (.relayRefuse n) s = .next (t.putRelCmd d { c with again := c.again ++ [j.toNat] })))
    ∧ (t.relBind d k.job = none → ∀ seg : W64, ∀ bs : List Byte, b = .data seg bs → exec (.relayData n) s = .next (t.bump (Reg.REL_REFUSED d) 1))
    ∧ ∀ (seg : W64) (q : OutReq) (e : CoreId) (id i : Nat) (g : W64) (c : RelCmd), b = .ack seg → t.outReq.find? (fun r => r.tag = m.msg.tag) = some q →
        q.who = .relay e id i g → (t.relBind d k.job).isSome = true → t.relCmd e id = some c → c.collects = true →
        exec (.relayAck n) s = .next ((({ t with outReq := t.outReq.filter (fun r => r.tag != m.msg.tag) } : State).beat 5 e).putRelCmd e
          { c with unacked := c.unacked.filter (fun u => u != (i, g.toNat)) })
/-! ## The host port -/

/-- The state in which the next entry of a queue has started (R381). -/
def Sys2Proof.Machine.State.started (s : State) (f : FnId) (q : Nat) (x : Queue) (w : List W64) : State :=
  s.setQueue f q (some { x with next := x.next + 1, running := x.running ++ [⟨x.next, w, s.ptb, 0, none⟩] })

/-- The next entry of a queue starts (R378, R379, R381 to R383): an entry with a bit set outside its named fields is BAD_FIELD; NOP and
TIMESTAMP complete; ARRIVE sends its arrivals; WAIT completes at once where its hurdle decides, and waits otherwise; INVAL joins the
invalidations; QCREATE makes a queue and QDELETE marks one. -/
def Obligations.HostCommands : Prop :=
  ∀ (f : FnId) (q : Fin 64) (s : State) (x : Queue) (w : List W64), s.nextEntry f q = some (x, w) →
    let u := s.started f q x w
    let ends (t : State) (st : BitVec 8) : State := t.cmdStatus f q x.next st
    let opc := wbits w 0 63 56
    (opc = 0 → exec (.queueNop f q) s = .next (ends u (if cmdFields w [] then stOk else stBadField)))
    ∧ (∀ hid : Hid, opc = 3 → cmdFields w [(4, 11, 0), (4, 31, 16), (5, 31, 0)] = true → hid.toNat = wbits w 4 11 0 →
        (wbits w 4 31 16 = 0 → exec (.arrive f q) s = .next (ends u stOk)) ∧ (wbits w 4 31 16 ≠ 0 →
        (s.mayName f hid = false → exec (.arrive f q) s = .next (ends u stDenied))
        ∧ (s.mayName f hid = true → (s.hurdle hid).state = .poisoned → exec (.arrive f q) s = .next (ends u stPoisoned))
        ∧ (s.mayName f hid = true → (s.hurdle hid).state ≠ .poisoned →
            let a : Arrival := ⟨hid, baton s.pkg.toNat 0 unitOther (wbits w 5 15 0) (wbits w 5 31 16) 0, .host f q x.next⟩
            exec (.arrive f q) s = .next { u with arrivals := s.arrivals ++ List.replicate (wbits w 4 31 16) a })))
    ∧ (∀ hid : Hid, opc = 4 → cmdFields w [(4, 11, 0), (5, 31, 0), (6, 31, 0)] = true → hid.toNat = wbits w 4 11 0 → s.mayName f hid = true →
        let sat := ((s.hurdle hid).releases - BitVec.ofNat 32 (wbits w 5 31 0)).toNat < 2 ^ 31
        (sat → exec (.wait f q) s = .next (ends u stOk))
        ∧ (¬sat → (s.hurdle hid).state = .poisoned → exec (.wait f q) s = .next (ends u stPoisoned))
        ∧ (¬sat → (s.hurdle hid).state ≠ .poisoned → exec (.wait f q) s = .next (if wbits w 6 31 0 = 0 then ends u stTimeout else u)))
    ∧ (opc = 5 → cmdFields w [(2, 63, 0)] = true → (word w 2).toNat % 8 = 0 →
        exec (.timestamp f q false) s = .next (ends { u with host := Mem.writeN s.host (word w 2).toNat s.ptb.toNat 8 } stOk))
    ∧ (∀ p : CoreId, opc = 6 → cmdFields w [(1, 63, 0), (4, 1, 0)] = true → partOfFn f = some p →
        exec (.inval f q) s = .next { u with inval := s.inval ++ [⟨p, (word w 1).toNat % 2 ^ 57, wbits w 4 1 0, some (f, q.val, x.next)⟩] })
    ∧ (opc = 8 → cmdFields w [(1, 63, 0), (2, 63, 0), (4, 5, 0), (4, 12, 8)] = true → q = 0 →
        let id := wbits w 4 5 0
        id ≠ 0 → id < s.fld (Reg.HIF_FN_QSTATE f) 6 0 → s.queue f id = none → 4 ≤ wbits w 4 12 8 → wbits w 4 12 8 ≤ 16 →
        (word w 1).toNat % 4096 = 0 → (word w 2).toNat % 8 = 0 →
        ∃ t, exec (.qcreate f q) s = .next t
          ∧ t.queue f id = some (newQueue (word w 1).toNat (wbits w 4 12 8) (word w 2).toNat)
          ∧ (t.fn f).strayRaised = false ∧ t.host = s.host ∧ t.regs = s.regs)
    ∧ (∀ y : Queue, opc = 9 → cmdFields w [(4, 5, 0)] = true → q = 0 → wbits w 4 5 0 ≠ 0 → s.queue f (wbits w 4 5 0) = some y →
        ∃ t, exec (.qdelete f q) s = .next t ∧ t.queue f (wbits w 4 5 0) = some { y with deleting := true } ∧ t.host = s.host)

/-- COPY and FILL between addresses of host memory (R379): the destination takes the source's bytes, or the repeated pattern, and every
other byte of host memory stays; a space code of 3, or a misaligned address or length of a transfer that is not empty, is BAD_FIELD and
moves nothing; an empty transfer completes OK whatever its addresses (R54). -/
def Obligations.HostTransfers : Prop :=
  ∀ (f : FnId) (q : Fin 64) (s : State) (x : Queue) (w : List W64), s.nextEntry f q = some (x, w) → (∀ r ∈ x.running, r.idx ≠ x.next) →
    let u := s.started f q x w
    let a := (word w 1).toNat
    let b := (word w 2).toNat
    let n := wbits w 3 39 0
    let named1 := cmdFields w [(1, 63, 0), (2, 63, 0), (3, 43, 0)]
    let named2 := cmdFields w [(2, 63, 0), (3, 39, 0), (3, 43, 42), (4, 63, 0)]
    (wbits w 0 63 56 = 1 → named1 = true → wbits w 3 41 40 = 0 → wbits w 3 43 42 = 0 → a % 4 = 0 → b % 4 = 0 → n % 4 = 0 →
      (a + n ≤ b ∨ b + n ≤ a) →
      ∃ m : Mem, exec (.copy f q false) s = .next (({ u with host := m } : State).cmdStatus f q x.next stOk)
        ∧ (∀ i : Nat, i < n → m.byte (b + i) = Mem.byte s.host (a + i))
        ∧ ∀ k : Nat, (k < b ∨ b + n ≤ k) → m.byte k = Mem.byte s.host k)
    ∧ (wbits w 0 63 56 = 1 → named1 = true → wbits w 3 41 40 = 3 ∨ wbits w 3 43 42 = 3 ∨ n ≠ 0 ∧ (a % 4 ≠ 0 ∨ b % 4 ≠ 0 ∨ n % 4 ≠ 0) →
      ∀ err : Bool, exec (.copy f q err) s = .next (u.cmdStatus f q x.next stBadField))
    ∧ (wbits w 0 63 56 = 1 → named1 = true → wbits w 3 41 40 ≠ 3 → wbits w 3 43 42 ≠ 3 → n = 0 →
      ∀ err : Bool, exec (.copy f q err) s = .next (u.cmdStatus f q x.next stOk))
    ∧ (wbits w 0 63 56 = 2 → named2 = true → wbits w 3 43 42 = 3 ∨ n ≠ 0 ∧ (b % 4 ≠ 0 ∨ n % 4 ≠ 0) →
      ∀ err : Bool, exec (.fill f q err) s = .next (u.cmdStatus f q x.next stBadField))
    ∧ (wbits w 0 63 56 = 2 → named2 = true → wbits w 3 43 42 ≠ 3 → n = 0 →
      ∀ err : Bool, exec (.fill f q err) s = .next (u.cmdStatus f q x.next stOk))
    ∧ (wbits w 0 63 56 = 2 → named2 = true → wbits w 3 43 42 = 0 → b % 4 = 0 → n % 4 = 0 →
      ∃ m : Mem, exec (.fill f q false) s = .next (({ u with host := m } : State).cmdStatus f q x.next stOk)
        ∧ (∀ i : Nat, i < n → m.byte (b + i) = ((word w 4) >>> (8 * (i % 8))).setWidth 8)
        ∧ ∀ k : Nat, (k < b ∨ b + n ≤ k) → m.byte k = Mem.byte s.host k)

/-- Doorbells, completions and the event queue (R376, R378, R380 to R382, R385, R386): a legal TAIL is taken and one that leaves the ring
stops the queue, and either is what the doorbell reads as; a completion writes word 7, moves the head and reports the 64-bit count of
entries completed, and sends the vector of an entry with IRQ set; a WAIT ends at its limit; a moderation interval ends once MOD_US has
passed; a record is written into the next free slot, or counted. -/
def Obligations.HostQueuesAndRecords : Prop :=
  ∀ (f : FnId) (s : State),
    (∀ (q : Fin 64) (v : W32) (x : Queue), s.fnExists f = true → s.awake = true → s.inWarmUp = false → s.queue f q = some x → x.deleting = false → x.error = false →
      let ok := (v - x.head).toNat ≤ 2 ^ x.log2 ∧ (v - x.tail).toNat < 2 ^ 31
      (ok → ∃ t, exec (.doorbellTailWrite f q v true) s = .next t ∧ t.queue f q = some { x with tail := v } ∧ t.bar4Word f (q.val * 0x1000) = v
          ∧ t.host = s.host ∧ t.regs = s.regs)
      ∧ (¬ok → ∃ t, exec (.doorbellTailWrite f q v true) s = .next t ∧ t.queue f q = some { x with error := true } ∧ t.bar4Word f (q.val * 0x1000) = v))
    ∧ (∀ v : W32, s.fnExists f = true → s.awake = true → s.inWarmUp = false → s.act (Reg.HIF_FN_EQ_DROP f) = 0 →
      ∃ t, exec (.eqHeadWrite f v true) s = .next t ∧ t.fn f = { s.fn f with eqHead := v } ∧ t.bar4Word f 8 = v ∧ t.host = s.host ∧ t.regs = s.regs)
    ∧ (∀ now : W64, (s.fn f).modBusy = true → (s.fn f).modAt.toNat + s.fld (Reg.HIF_FN_EQ_CFG f) 15 0 * 1000 ≤ now.toNat →
        ∃ t, exec (.eqModerationExpire f now) s = .next t ∧ (t.fn f).modHeld = false ∧ (t.fn f).modBusy = (s.fn f).modHeld
        ∧ ((s.fn f).modHeld = true → (smGet msixByte (s.fn f).msixTab 12).getLsbD 0 = false → t.msix = s.msix ++ [(f, 0)]))
    ∧ (∀ (q : Fin 64) (x : Queue) (r : RunCmd) (st : BitVec 8), s.queue f q = some x → x.running.find? (fun y => y.idx = r.idx) = some r →
        r.owed = 0 → r.status = some st → r.idx = x.head → x.done = [] → x.irqs = [] →
        let e := x.entryAt r.idx + 56
        (e + 8 ≤ x.headAddr ∨ x.headAddr + 8 ≤ e) →
        ∃ t y, exec (.commandComplete f q r.idx) s = .next t ∧ t.queue f q = some y ∧ y.head = x.head + 1 ∧ y.reported = x.reported + 1 ∧ (∀ z ∈ y.running, z.idx ≠ r.idx)
          ∧ Mem.readN t.host e 8 = 2 ^ 63 + st.toNat * 2 ^ 48 + s.ptb.toNat % 2 ^ 48 ∧ Mem.readN t.host x.headAddr 8 = (x.reported + 1).toNat
          ∧ (∀ a : Nat, (a < e ∨ e + 8 ≤ a) → (a < x.headAddr ∨ x.headAddr + 8 ≤ a) → Mem.byte t.host a = Mem.byte s.host a)
          ∧ (wbits r.words 0 55 55 = 0 → t.msix = s.msix)
          ∧ (wbits r.words 0 55 55 = 1 → (smGet msixByte (s.fn f).msixTab (16 * s.queueVector f q + 12)).getLsbD 0 = false →
              t.msix = s.msix ++ [(f, s.queueVector f q)]))
    ∧ (∀ (q : Fin 64) (x : Queue) (r : RunCmd) (t : W64), s.queue f q = some x →
        x.running.find? (fun y => y.idx = r.idx && y.status.isNone && wbits y.words 0 63 56 = 4) = some r →
        wbits r.words 6 31 0 ≠ 0xFFFFFFFF → r.since.toNat + wbits r.words 6 31 0 * 1000 ≤ t.toNat →
        exec (.waitLimitExpire f q r.idx t) s = .next ((s.atTime t).cmdStatus f q r.idx stTimeout))
    ∧ (∀ ws : List Nat, s.act (Reg.HIF_FN_EQ_DROP f) = 0 →
        (s.eqOn f = true → 2 ≤ s.eqFree f → (s.eqOffer f ws).2 = true ∧ ((s.eqOffer f ws).1.fn f).eqCount = (s.fn f).eqCount + 1)
        ∧ (s.eqOn f = false ∨ s.eqFree f < 2 → (s.eqOffer f ws).2 = false ∧ ((s.eqOffer f ws).1.act (Reg.HIF_FN_EQ_DROP f)).toNat = 1
            ∧ (s.eqOffer f ws).1.host = s.host))
    ∧ ∀ (e : EvName) (fault : Bool) (x : CtxId) (c : CoreId) (vf : Nat) (t : W64) (is : List Item),
        let w := (recordWords e fault ⟨some x, some c, none⟩ vf t is)[0]?.getD 0
        bitsOf w 62 62 = (if fault then 1 else 0) ∧ bitsOf w 61 61 = 1 ∧ bitsOf w 57 52 = x.val ∧ bitsOf w 51 51 = 1 ∧ bitsOf w 50 48 = c.val
        ∧ bitsOf w 47 46 = 3 ∧ bitsOf w 39 32 = e.index.toNat ∧ bitsOf w 31 24 = e.block.toNat ∧ bitsOf w 15 0 = vf % 2 ^ 16
        ∧ (recordWords e fault ⟨some x, some c, none⟩ vf t is)[1]? = some t.toNat

/-! ## Contexts -/

/-- The context commands of a function that may name the context (R400 to R402, R413): what each leaves, and its status. A context reset
leaves the context CREATED and bound to no core, and each hurdle it owns IDLE with COUNT 0 (R443). -/
def Obligations.ContextCommands : Prop :=
  (∀ (f : FnId) (q : Fin 64) (s : State) (x : Queue) (w : List W64), s.nextEntry f q = some (x, w) →
    let u := s.started f q x w
    let c : CtxId := Fin.ofNat 64 (wbits w 4 5 0)
    let k := s.ctx c
    let ends (t : State) (st : BitVec 8) : Host.Outcome State Fault Refusal := .next (t.cmdStatus f q x.next st)
    let opc := wbits w 0 63 56
    s.mayCtx f c = true →
    (∀ p : CoreId, opc = 0x10 → cmdFields w [(4, 5, 0), (1, 63, 0), (4, 10, 8)] = true → f = 0 → p.val = wbits w 4 10 8 →
      s.fld (Reg.SCH_PCFG p) 31 31 = 1 → s.inRange p c = true →
      exec (.ctxCreate f q) s = (if k.state = .free then
        ends (({ u with noRoutes := s.noRoutes.filter (fun n => n.2 != some c) } : State).modCtx c (fun k => { Ctx.reset with state := .created, part := p, seed := word w 1, splitNo := k.splitNo })) stOk else ends u stBadField))
    ∧ (opc = 0x11 → cmdFields w [(4, 5, 0), (1, 56, 0), (4, 8, 8)] = true →
        (s.oos = true ∨ s.staging = true → exec (.ctxStart f q) s = ends u stDenied)
        ∧ (s.oos = false → s.staging = false → k.state = .created ∨ k.state = .ended → wbits w 1 7 0 = 0 → k.restore = none →
          ∀ (b : State) (bs : List Byte) (n : Nat), n = (s.partCores k.part).length → u.descBytes k.part (wbits w 1 56 0) (64 + 16 * n) = (b, some bs) →
          let ws : List W64 := (List.range (8 + 2 * n)).map (fun i => BitVec.ofNat 64 (leNat ((bs.drop (8 * i)).take 8)))
          descOk ws n = true →
          let g (k : Ctx) : Ctx := { k with
            state := .ready, saveVa := (word ws 0).setWidth 57, stride := (word ws 1).setWidth 16, saveStore := wbits w 4 8 8 = 1
            entry := Vector.ofFn (fun (i : Fin 8) => entryOf ws i), fresh := true, frames := Vector.replicate 8 SavedCore.reset, holdRaised := false }
          exec (.ctxStart f q) s = ends ((b.modCtx c g).startTurn k.part) stOk))
    ∧ (opc = 0x12 → cmdFields w [(4, 5, 0)] = true →
        (k.state = .ready → k.replay = false → exec (.ctxSuspend f q) s = ends (u.modCtx c (fun k => { k with state := .suspended })) stOk)
        ∧ (k.state = .running → k.replay = false → exec (.ctxSuspend f q) s
            = .next ((u.modCtx c (fun k => { k with suspendCmds := k.suspendCmds ++ [(f, q.val, x.next)] })).requestStop c .suspend)))
    ∧ (opc = 0x13 → cmdFields w [(4, 5, 0)] = true → s.oos = false → s.staging = false →
        exec (.ctxResume f q) s = (if k.state = .suspended then
          ends ((u.modCtx c (fun k => { k with state := .ready, holdRaised := false, holdDue := none })).startTurn k.part) stOk else ends u stBadField))
    ∧ (opc = 0x14 → cmdFields w [(4, 5, 0)] = true → exec (.ctxReset f q) s = (if k.state = .free then ends u stBadField
          else ends ((u.ctxReset c .host).nextSuspect k.part 4) stOk))
    ∧ (opc = 0x15 → cmdFields w [(4, 5, 0)] = true → k.state = .created ∨ k.state = .ended ∨ k.state = .suspended → s.hangOf k.part = none → (s.part k.part).turn = false →
        ∃ t, exec (.ctxDestroy f q) s = .next t ∧ (t.ctx c).state = .free ∧ (t.ctx c).energy = k.energy ∧ (t.ctx c).run = k.run)
    ∧ (opc = 0x16 → cmdFields w [(4, 5, 0), (2, 63, 0)] = true → (word w 2).toNat % 16 = 0 →
        ∃ t, exec (.ctxEnergy f q false) s = ends t stOk ∧ Mem.readN t.host (word w 2).toNat 8 = k.energy.toNat
          ∧ Mem.readN t.host ((word w 2).toNat + 8) 8 = k.run.toNat ∧ t.ctxs = s.ctxs))
  ∧ ∀ (s : State) (x : CtxId) (z : ResetCause), let t := s.ctxReset x z
      (t.ctx x).state = .created ∧ t.boundCores x = []
      ∧ ∀ e ∈ s.hurdles, e.1 < 4096 → (s.hurdle (BitVec.ofNat 12 e.1)).owner = x → let h := t.hurdle (BitVec.ofNat 12 e.1)
          h.state = .idle ∧ h.count = 0 ∧ h.window = 0

/-- Turns and stops (R154, R155, R157, R403 to R409, R413): a heat ends with a stop for a READY context, or a new heat begins; a stop that
is late is reported; a save begins once the context is quiet and leaves its cores free; a restore brings back the live registers; and the
energy of a sample is charged. A HOLD that a lost read of the restore asks for takes effect at once (R340). END retires into ENDED (R180). -/
def Obligations.ContextTurns : Prop :=
  (∀ (p : CoreId) (t : W64) (s : State) (x : CtxId), (s.part p).running = some x → (s.ctx x).replay = false →
    ((s.part p).turn = true → (s.part p).heatEnd.toNat ≤ t.toNat → (s.ctx x).state = .running →
      (s.otherReady p x = true → exec (.heatEnd p t) s = .next ((s.atTime t).requestStop x .switch_))
      ∧ (s.otherReady p x = false → ∃ u, exec (.heatEnd p t) s = .next u ∧ (u.ctx x).state = .running ∧ (u.ctx x).switches = (s.ctx x).switches + 1
          ∧ (u.part p).turn = true ∧ (u.part p).turnStart = u.ptb ∧ u.cores = s.cores))
    ∧ (s.fld (Reg.SCH_HEAT p) 31 20 ≠ 0 → (s.ctx x).state = .running → s.otherReady p x = true →
        (∀ c ∈ s.boundCores x, ∀ q : SeqId, ((s.seq c q).state = .wait ∨ (s.seq c q).state = .ended)
          ∧ (s.seq c q).restAt.toNat + s.fld (Reg.SCH_HEAT p) 31 20 * 1000 ≤ t.toNat) →
        exec (.yieldWaitExpire p t) s = .next ((s.atTime t).requestStop x .switch_))
    ∧ ((s.part p).turn = true → (s.part p).stopLate = false → (s.ctx x).state = .stopping →
        (s.part p).heatEnd.toNat + s.fld (Reg.SCH_STOPLIM p) 19 0 * 1000 ≤ t.toNat →
        ∃ u, exec (.stopLimitExpire p t) s = .next u ∧ (u.part p).stopLate = true ∧ (u.ctx x).state = .stopping))
  ∧ (∀ (x : CtxId) (s : State), let k := s.ctx x
      (k.state = .stopping → k.stopFor ≠ .hold → k.saving = false → s.restoring x = false → (s.boundCores x).all s.coreHalted = true →
        s.ctxQuiet x = true → ∀ r : State,
        (s.modCtx x (fun k => { k with frames := k.frames.map (fun f => { f with valid := false }) })).takeFrames x (s.placedCores x) = (r, true) →
        exec (.quiesceComplete x) s = .next ((r.modCtx x (fun k => { k with saving := true })).modPart k.part (fun q => { q with switching := true })))
      ∧ (∀ t : W64, k.state = .stopping → k.saving = true → k.stopFor = .suspend → k.suspendCmds ≠ [] →
          ∃ u, exec (.saveComplete x t) s = .next u ∧ (u.ctx x).state = .suspended ∧ u.boundCores x = [])
      ∧ (s.restoring x = true → k.state = .running → (∀ h : Hid, (s.hurdle h).state ≠ .poisoned) → ∃ u, exec (.restoreComplete x) s = .next u ∧ (u.part k.part).switching = false
          ∧ ∀ ci ∈ s.placedCores x, ∀ q : SeqId, let f := vget k.frames (Fin.ofNat 8 ci.2)
              let z := vget f.seqs (seqIx q)
              z.wait = none → z.state ≠ .ended → ((u.seq ci.1 q).state = .run ∨ (u.ctx x).holdRaised = true ∧ (u.seq ci.1 q).state = .stopping)
                ∧ (u.seq ci.1 q).pc = z.pc
                ∧ ∀ r : BitVec 5, (vget f.sMask (seqIx q)).getLsbD r.toNat = true → (u.seq ci.1 q).rs r = z.rs r))
  ∧ (∀ (t : W64) (core stack : List Nat) (rest : Nat) (s : State), ∃ u, exec (.energySample t core stack rest) s = .next u ∧ u.lineReqs = []
      ∧ (s.psc.ahead = false → t.toNat ≤ u.ptb.toNat) ∧ ∀ c : CoreId, (u.core c).boundNs = [] ∧ (u.core c).boundAt = u.ptb)
  ∧ ∀ (c : CoreId) (q p : SeqId) (w : CT) (s : State) (x : CtxId), s.mayIssue c q x w.pn w.pr = true → w.zero = 0 →
      p ≠ q → (s.seq c p).state = .run → (s.ctx x).state = .running → (s.ctx x).stopFor = .none →
      ∃ t, exec (.endIssue c q w) s = .next t ∧ (t.seq c q).state = .ended ∧ (t.seq c q).pc = (s.seq c q).pc + 8 ∧ (t.seq c p).state = .run
        ∧ (t.ctx x).state = .running

/-- Functions that are reset, and out of service (R375, R447, R448): an FLR and a clear of VF Enable delete a VF's queues and its event
queue; OOS clears when every context is FREE, CREATED or SUSPENDED, and a write is a bad access otherwise. -/
def Obligations.FunctionResets : Prop :=
  ∀ s : State, s.psc.state ≠ .off →
    (∀ f : FnId, f ≠ 0 → s.fnExists f = true → ∃ u, exec (.flr f) s = .next u ∧ (u.fn f).eqEn = false ∧ ∀ q : Nat, u.queue f q = none)
    ∧ (∀ n : Fin 9, s.inWarmUp = false → ∃ u, exec (.vfEnableClear n) s = .next u ∧ u.fld Reg.HIF_STATUS 21 18 = n.val
        ∧ ∀ f : FnId, f ≠ 0 → s.fnExists f = true → ∀ q : Nat, u.queue f q = none)
    ∧ (s.inService = true → s.oos = true → s.writeAhead Reg.GLB_STATUS = false →
        ((∀ x : CtxId, (s.ctx x).state = .free ∨ (s.ctx x).state = .created ∨ (s.ctx x).state = .suspended) →
          exec .glbOosClear s = .next { s.setFld Reg.GLB_STATUS 27 27 0 with esc := [] })
        ∧ ((∃ x : CtxId, (s.ctx x).state = .running) → ∃ u, exec .glbOosClear s = .next u ∧ u.oos = true))

/-! ## Hangs, photos and resets -/

/-- Watchdogs, replays, photos and resets (R31, R435 to R442, R445, R446, R449 to R451), where no other crown must acknowledge them
(R486). A watchdog fires once its count has reached its limit, and not before; with REFCLK_SYS lost every RUNNING context stops, and
the photo is taken once none runs. -/
def Obligations.HangsAndResets : Prop :=
  ∀ s : State,
    (∀ (k : Fin 9) (n : Nat) (q : SeqId) (t : W64), s.psc.state ≠ .off → s.fld (Reg.HNG_WD k) 31 31 = 1 → s.holding k n q = true → (k.val ≤ 6 → n < 8) →
      (s.overdue k n q t = false → exec (.watchdogFire k n q t) s = .next s) ∧ (s.overdue k n q t = true →
      s.setPending 0 = false ∨ s.hangs ≠ [] →
      (∀ x : CtxId, k.val ≤ 4 → s.twoCrowns = false → (s.core (Fin.ofNat 8 n)).ctx = some x → s.hangOf (s.ctx x).part = none → (s.part (s.ctx x).part).switching = false →
          s.fld Reg.HNG_CFG 31 31 = 1 → s.photoRun = none →
          ∃ u h, exec (.watchdogFire k n q t) s = .next u ∧ u.photoRun.isSome = true ∧ u.hangs = s.hangs ++ [h] ∧ h.kind = k ∧ h.inst = n
            ∧ h.phase = .photo ∧ h.suspects = s.suspects k n ∧ u.cores = s.cores ∧ u.ctxs = s.ctxs)
      ∧ (∀ (r : RunCmd) (x : Queue), k = 7 → s.hungCmd n = some r → s.queue (hifQueue n).1 (hifQueue n).2 = some x →
          ∃ u y, exec (.watchdogFire k n q t) s = .next u ∧ u.queue (hifQueue n).1 (hifQueue n).2 = some y
            ∧ y.running = x.running.map (fun z => if z.idx = r.idx then { z with status := some stHostError, owed := 0 } else z))
      ∧ (k = 8 → s.twoCrowns = false → s.photoRun = none → ∃ u, exec (.watchdogFire k n q t) s = .next u ∧ u.resetDue = true)))
    ∧ (∀ (k : Fin 9) (n : Nat) (h : Hang), s.hangs.find? (fun h => h.kind = k && h.inst = n && h.phase = .reset) = some h →
        (h.part = none → exec (.engineResetComplete k n) s = .next { s with hangs := s.hangs.filter (· != h) })
        ∧ (∀ p : CoreId, h.part = some p → exec (.engineResetComplete k n) s
            = .next (((s.modCore (Fin.ofNat 8 n) (resetEngine k h.seq)).setHang p { h with phase := .replay }).nextSuspect p 4))
        ∧ (s.photoRun = none → s.twoCrowns = false → ∃ u, exec (.engineResetTimeout k n) s = .next u ∧ u.resetDue = true))
    ∧ (∀ (x : CtxId) (t : W64), s.fld Reg.HNG_CFG 7 0 ≠ 0 → (s.ctx x).state = .running → (s.ctx x).replay = false →
        (s.part (s.ctx x).part).switching = false → (s.ctx x).savedAt.toNat + s.fld Reg.HNG_CFG 7 0 * 1000000 ≤ t.toNat →
        exec (.replayCheckpoint x t) s = .next ((s.atTime t).requestStop x .checkpoint))
    ∧ (∀ (p : CoreId) (t : W64) (h : Hang) (x : CtxId), s.hangOf p = some h → h.phase = .replay → h.cur = some x →
        h.since.toNat + max 1 (s.fld Reg.HNG_CFG 25 16) * 1000000 ≤ t.toNat →
        ((s.ctx x).state = .running → exec (.replayTimeout p t) s = .next ((s.atTime t).requestStop x .cleared))
        ∧ ((s.ctx x).state = .held → exec (.replayTimeout p t) s = .next ((s.atTime t).cleared p x)))
    ∧ (∀ p : Photo, s.photoRun = some p →
        (∀ (n : Nat) (b : Bool) (t : W64), n < 130 → (∀ o ∈ p.outs, o.1 ≠ n) → p.last + max 1 (s.fld Reg.HNG_PHOTO_CFG 15 0) * 1000 ≤ t.toNat → ∃ u, exec (.photoUnitTimeout n b t) s = .next u
          ∧ u.photoRun = some { p with outs := p.outs ++ [(n, if b then 1 else 2, u.ptb)] })
        ∧ (∀ (recs : List (W64 × List Byte)) (t : W64), s.hangs = [] → s.resetDue = false → ∃ u, exec (.photoComplete recs t) s = .next u
          ∧ u.photoRun = none ∧ u.photo = u.photoSector ∧ u.fld Reg.HNG_PHOTO_STATUS 7 0 = 130 ∧ u.cores = s.cores))
    ∧ (s.inService = true → s.writeAhead Reg.HNG_RESET = false → s.twoCrowns = false →
        (s.hangs = [] → s.photoRun = none → ∃ u p, exec .hngPhotoTake s = .next u ∧ u.photoRun = some p ∧ p.cause = phHost ∧ p.unit = none ∧ p.ptb = s.ptb
          ∧ u.regs = s.regs)
        ∧ (s.photoRun.isSome = true → ∃ u, exec .hngPhotoTake s = .next u
            ∧ u.fld Reg.HNG_PHOTO_STATUS 31 24 = min (s.fld Reg.HNG_PHOTO_STATUS 31 24 + 1) 255 ∧ u.photoRun = s.photoRun)
        ∧ (∀ v : W32, fieldOf v 31 16 ≠ 0xA5C3 ∨ fieldOf v 0 0 = 0 → exec (.hngResetWarm v) s = .next s)
        ∧ ∀ v : W32, fieldOf v 31 16 = 0xA5C3 → fieldOf v 0 0 = 1 → s.resetDue = false →
            (s.photoRun = none → ∃ u p, exec (.hngResetWarm v) s = .next u ∧ u.resetDue = true ∧ u.photoRun = some p ∧ p.cause = phReset)
            ∧ (s.photoRun.isSome = true → ∃ u, exec (.hngResetWarm v) s = .next u ∧ u.fld Reg.GLB_STATUS 3 0 = 2 ∧ u.fuses = s.fuses ∧ u.ptb = s.ptb
                ∧ u.photoRun = none ∧ u.flash = s.flash ∧ ∀ x : CtxId, (u.ctx x).state = .free ∧ (u.ctx x).energy = (s.ctx x).energy))
    ∧ (s.psc.state ≠ .off → s.resetDue = false → s.refLost = false →
        ((∀ x : CtxId, (s.ctx x).state ≠ .running ∧ ((s.ctx x).state = .stopping → (s.ctx x).saving = true)) → s.photoRun = none → s.twoCrowns = false →
          ∃ u p, exec .refclkSysLoss s = .next u ∧ u.refLost = true ∧ u.resetDue = true ∧ u.photoRun = some p ∧ p.cause = phRefclk)
        ∧ ((∃ x : CtxId, (s.ctx x).state = .running ∧ (s.ctx x).saving = false) → ∃ u, exec .refclkSysLoss s = .next u ∧ u.refLost = true
          ∧ u.resetDue = false ∧ ∀ x : CtxId, (s.ctx x).state = .running → (u.ctx x).state = .stopping))
    ∧ (s.fld Reg.HNG_ESC 7 0 = 1 → s.oos = false → s.escalate.oos = true)

/-! ## Splits -/

/-- Captures and restores of a context (R422 to R426, R429 to R432): SPL_TAKE begins a capture; it stops the context at its gate; the copy begins once
the context is saved, with the extents, the other items, the position record and the header to send, or aborts where it cannot; and ends with the seal; a late one aborts; SPL_RESTORE asks for the slot's header, and each answer is checked and
followed by the next. -/
def Obligations.SplitCaptures : Prop :=
  (∀ (f : FnId) (q : Fin 64) (s : State) (y : Queue) (w : List W64), s.nextEntry f q = some (y, w) →
    let u := s.started f q y w
    let x : CtxId := Fin.ofNat 64 (wbits w 4 5 0)
    (wbits w 0 63 56 = 0x20 → cmdFields w [(1, 56, 0), (2, 56, 0), (3, 31, 0), (4, 19, 8), (4, 5, 0), (5, 31, 0)] = true → s.mayCtx f x = true →
      (s.oos = true → exec (.splTake f q) s = .next (u.cmdStatus f q y.next stDenied))
      ∧ (s.oos = false → wbits w 1 56 0 % 256 = 0 → wbits w 2 56 0 % 256 = 0 → (s.ctx x).state ≠ .free → (s.ctx x).take = none → (s.ctx x).restore = none →
        ∃ t k, exec (.splTake f q) s = .next t ∧ (t.ctx x).take = some k ∧ k.phase = .gate ∧ k.gate.toNat = wbits w 4 19 8
          ∧ k.target.toNat = wbits w 3 31 0 ∧ k.limit = wbits w 5 31 0 ∧ k.since = s.ptb ∧ k.seq = (s.ctx x).hist.seq + 1
          ∧ k.slot ≠ vget s.lastSlot (s.ctx x).part ∧ t.fld (Reg.SPL_CTX_STATE x) 31 29 = 1))
    ∧ (wbits w 0 63 56 = 0x22 → cmdFields w [(1, 63, 0), (4, 5, 0), (4, 9, 8), (6, 31, 0)] = true → s.mayCtx f x = true → s.oos = false →
        wbits w 4 9 8 < 2 → (word w 1).toNat = 0 → (s.ctx x).state = .created → (s.ctx x).take = none → (s.ctx x).restore = none →
        let k : Restore := ⟨(s.ctx x).splitNo, (f, q.val, y.next), wbits w 4 9 8, BitVec.ofNat 32 (wbits w 6 31 0), 0,
          if wbits w 4 9 8 = 0 then [0, 1] else [2, 3], .head, [], 0, [], [], crcStart⟩
        exec (.splRestore f q false) s = .next ((((u.rouse 6 (s.ctx x).part.val (allCtxs.any (u.splitHolds (s.ctx x).part.val))).modCtx x (fun c => { c with splitNo := c.splitNo + 1, restore := some k })).setFld
          (Reg.SPL_CTX_STATE x) 31 29 3).askBuddy x)))
  ∧ (∀ (x : CtxId) (s : State),
      (∀ a t : W64, (s.ctx x).hist.lastSeal = some a → s.fld (Reg.SPL_CTX_STATE x) 28 28 = 0 →
        a.toNat + (s.act (Reg.SPL_CTX_TAU x)).toNat * 1000000000 < t.toNat → ∃ u, exec (.splitDue x t) s = .next u ∧ u.fld (Reg.SPL_CTX_STATE x) 28 28 = 1)
      ∧ ∀ k : Take, (s.ctx x).take = some k →
        (k.phase = .gate → s.gatePassed k = true → s.provisional x = false → (s.ctx x).replay = false → (s.ctx x).state = .running →
          exec (.splitCaptureStop x) s
            = .next (((s.modTake x { k with phase := .stop, stopAt := s.ptb }).setFld (Reg.SPL_CTX_STATE x) 31 29 2).requestStop x .capture))
        ∧ (∀ t : W64, k.phase = .gate → k.limit ≠ 0xFFFFFFFF → k.since.toNat + k.limit * 1000000 ≤ t.toNat →
          exec (.splitTakeTimeout x t) s = .next (if s.gatePassed k = false then (s.atTime t).abortTake x scGate
            else if s.provisional x then (s.atTime t).abortTake x scProvisional else s))
        ∧ (k.phase = .saved → s.relayQuiet x = true →
          (∀ (c : CoreId) (e : StashKey), e ∈ (s.core c).stash → e.ctx = x → exec (.splitCopyStart x) s = .next (s.abortTake x scStash))
          ∧ ((∀ c : CoreId, ∀ e ∈ (s.core c).stash, e.ctx ≠ x) → ∀ (a b : State) (es : List (Nat × Nat)) (pos : List Byte) (v : State) (st : List (List Byte)),
            s.splitList x k.ops.list = (a, .ok es) → a.splitRead x k.ops.pos 256 = (b, .ok pos) → b.frameStores x = (v, .ok st) →
            (extsAligned es = false → exec (.splitCopyStart x) s = .next (v.abortTake x scFault))
            ∧ (extsAligned es = true →
              let items := padLine (splitBytes (v.gatherItems x k.ops.pos st))
              let used := itemsAt es.length + items.length + (es.map (·.2)).sum
              let exts := layExts (itemsAt es.length + items.length) es
              (v.slotSize (v.ctx x).part < used → exec (.splitCopyStart x) s = .next (v.abortTake x scTooLarge))
              ∧ (used ≤ v.slotSize (v.ctx x).part → exec (.splitCopyStart x) s = .next ((v.modTake x { k with
                  phase := .copy, exts := exts, crcs := List.replicate es.length crcStart, used := used
                  pos := (List.range 32).map (fun i => BitVec.ofNat 64 (leNat ((pos.drop (8 * i)).take 8)))
                  parts := (exts.zipIdx.map (fun e => SplitPart.ext e.2 e.1.1 e.1.2.2 e.1.2.1))
                    ++ [.bytes (itemsAt es.length) items, .bytes (posAt es.length) pos, .head] }).pumpTake x 64))))))
  ∧ ∀ (n : Nat) (s t u : State) (m : InMsg) (h : SplitHead) (q : OutReq) (x : CtxId) (id : Nat) (off : W64), s.takeMsg n = some (m, t) →
      t.takeReq m.msg.tag = (some q, u) → q.who = .split x id off →
      (∀ k : Take, (u.ctx x).take = some k → k.id = id →
        (m.msg.body = .split h .ack → exec (.splitAck n) s = .next (((u.beat 6 (u.ctx x).part).modTake x { k with unacked := k.unacked.erase off.toNat }).pumpTake x 64))
        ∧ (m.msg.body = .split h .sealAck → k.phase = .seal → ∃ v, exec (.sealAck n) s = .next v ∧ (v.ctx x).take = none
            ∧ (v.ctx x).hist.seq = k.seq ∧ (v.ctx x).hist.lastSeal = some u.ptb ∧ v.act (Reg.SPL_CTX_STEP x) = (word k.pos 0).setWidth 32
            ∧ vget v.lastSlot (u.ctx x).part = k.slot)
        ∧ (m.msg.body = .split h .refuse → exec (.splitRefuse n) s = .next (u.abortTake x scTooLarge)))
      ∧ ∀ (k : Restore) (bs : List Byte), (u.ctx x).restore = some k → k.id = id → m.msg.body = .split h (.readRsp bs) →
          exec (.readRsp n) s = .next (((u.beat 6 (u.ctx x).part).feed x k bs).askBuddy x)

/-- The slots that a package holds for its buddy (R416, R418, R421, R424, R427, R428, R430): a segment unseals its slot and is written, a
seal seals it, a read gives a sealed slot's bytes and zeros otherwise; drains to the SSD and their end; the SSD's loss; SPL_STORE. -/
def Obligations.SplitSlots : Prop :=
  (∀ (n : Nat) (s t : State) (m : InMsg) (h : SplitHead) (i : Fin 2), s.takeMsg n = some (m, t) → t.splitFits m.msg h = true → hbmSlot h = some i →
    (∀ bs : List Byte, m.msg.body = .split h (.data bs) → exec (.splitData n) s = .next
      (((t.overwriteSlot h.part i).physWrite (t.slotAddr h.part i + h.off.toNat) bs false 1 unitOther).splitReply m.msg h vcSplit .ack))
    ∧ (m.msg.body = .split h .seal → ∃ u, exec (.seal n) s = .next u ∧ u.slotSealed h.part i = true ∧ u.fld (Reg.SPL_AREA_FLAGS h.part) 4 4 = i.val)
    ∧ (m.msg.body = .split h .readReq →
      (t.slotSealed h.part i = false → exec (.readReq n) s
          = .next (t.splitReply m.msg h vcSplit (.readRsp (List.replicate h.len.toNat 0))))
      ∧ ∀ (r : State) (bs : List Byte), t.slotSealed h.part i = true →
          t.physRead (t.slotAddr h.part i + h.off.toNat) h.len.toNat false 1 = (r, bs, none) →
          exec (.readReq n) s = .next (r.splitReply m.msg h vcSplit (.readRsp bs))))
  ∧ (∀ (p : CoreId) (s : State) (d : Drain), (s.area p).drain = some d →
      (d.finished = true → ∃ u, exec (.flashDrainComplete p) s = .next u ∧ (u.area p).fnew = d.dst
        ∧ (vget (u.area p).fslots d.dst).sealed = true ∧ (vget (u.area p).fslots d.dst).seq = (vget (s.area p).slots d.src).seq)
      ∧ ∀ (n : Nat) (warn : BitVec 8), s.fld Reg.FLP_STATUS 31 31 = 1 →
        (∀ off len : Nat, s.nvme[n]? = some (.write p off len) → off = d.off → off + len ≤ d.used → d.finished = false →
          (∀ l ∈ lineParts (s.slotAddr p d.src + off) len, s.isPoisoned l.1 = false) →
          ∃ u, exec (.nvmeCompletion n false warn) s = .next u ∧ (u.area p).drain = some { d with off := off + len }
            ∧ u.fld Reg.FLP_STATUS 7 0 = warn.toNat ∧ u.nvme.length = s.nvme.length)
        ∧ (s.nvme[n]? = some (.flush p) → ∃ u, exec (.nvmeCompletion n true warn) s = .next u ∧ (u.area p).drain = none
            ∧ u.fld (Reg.SPL_AREA_FLAGS p) 5 5 = 0))
  ∧ (∀ s : State, s.fld Reg.FLP_STATUS 31 31 = 1 →
      (s.nvme ≠ [] → ∃ u, exec .flashCommandTimeout s = .next u ∧ u.fld Reg.FLP_STATUS 31 30 = 1 ∧ u.nvme = [])
      ∧ ∃ u, exec .flashLinkDown s = .next u ∧ u.fld Reg.FLP_STATUS 31 30 = 1 ∧ u.nvme = [] ∧ ∀ p : CoreId, (u.area p).drain = none)
  ∧ ∀ (q : Fin 64) (s : State) (y : Queue) (w : List W64), s.nextEntry 0 q = some (y, w) → wbits w 0 63 56 = 0x21 →
      cmdFields w [(1, 63, 0), (2, 63, 0), (3, 63, 0), (4, 2, 0), (4, 8, 8), (5, 31, 0)] = true →
      let u := s.started 0 q y w
      let p : CoreId := Fin.ofNat 8 (wbits w 4 2 0)
      let i : Fin 2 := Fin.ofNat 2 (wbits w 4 8 8)
      let len := (word w 3).toNat
      (word w 1).toNat % 256 = 0 → len % 256 = 0 → len ≤ 2 ^ 30 → (word w 2).toNat + len ≤ s.slotSize p → len ≠ 0 →
      (∀ (b : State) (bs : List Byte), s.slotSealed p i = true → (vget (s.area p).slots i).seq.toNat = wbits w 5 31 0 →
        u.physRead (s.slotAddr p i + (word w 2).toNat) len false 1 = (b, bs, none) →
        exec (.splStore 0 q false) s = .next (({ b with host := Mem.setBytes b.host (word w 1).toNat bs } : State).cmdStatus 0 q y.next stOk))
      ∧ (s.slotSealed p i = false → exec (.splStore 0 q false) s
          = .next ((u.setFld (Reg.SPL_CTX_STATE (vget (s.area p).slots i).ctx) 27 20 scStale).cmdStatus 0 q y.next (causeStatus scStale)))

/-! ## Power -/

/-- The control period, the input and the points of the cores (R454, R457, R460 to R462, R464 to R466, R468): the table of R468 row by row,
overtemperature, the measured input, steps of 25 MHz, droops, a re-plan from the canary readings and the thermal trip. While both
management dies claim the crown (R486), the table waits. -/
def Obligations.PowerControl : Prop :=
  ∀ s : State, s.psc.state ≠ .off →
    (∀ (temps : List (BitVec 16)) (mean : Nat) (amps : List Nat) (canaries rings : List (BitVec 16)) (t : W64), s.fld Reg.PSC_STATUS 24 24 = 0 →
      s.setPending 1 = false ∨ s.psc.boundary = false → s.twoCrowns = false → s.refLost = false →
      ∃ u, exec (.controlPeriod temps mean amps canaries rings t) s = .next u ∧ u.ptb = (s.atTime t).ptb ∧ u.psc.rings = rings ∧ u.dram = s.dram
        ∧ ((∃ i : Nat, i < 192 ∧ 420 ≤ reading temps i) → u.psc.capFreq = 600 ∧ u.duty = 48 ∧ u.fld Reg.PSC_STATUS 24 24 = 1)
        ∧ ((∀ i : Nat, i < 192 → reading temps i < 420) →
          (s.effCap < mean → 600 < s.psc.capFreq → u.psc.capFreq = max 600 (s.psc.capFreq - 100) ∧ u.duty = s.duty)
          ∧ (s.effCap < mean → s.psc.capFreq ≤ 600 → u.psc.capFreq = s.psc.capFreq ∧ u.duty = if s.duty < 48 then min 48 (s.duty + 4) else s.duty)
          ∧ (mean ≤ s.effCap → 100 * mean < 97 * s.effCap → 0 < s.duty → u.duty = s.duty - 4 ∧ u.psc.capFreq = s.psc.capFreq)
          ∧ (mean ≤ s.effCap → 100 * mean < 97 * s.effCap → s.duty = 0 → s.psc.capFreq < 1550 → u.psc.capFreq = min 1550 (s.psc.capFreq + 25) ∧ u.duty = 0)
          ∧ (mean ≤ s.effCap → 97 * s.effCap ≤ 100 * mean → u.psc.capFreq = s.psc.capFreq ∧ u.duty = s.duty)))
    ∧ (∀ vin : BitVec 16, ∃ u, exec (.inputSample vin) s = .next u ∧ u.fld Reg.PSC_INPUT 15 0 = vin.toNat ∧ u.psc.lowV = decide (vin.toNat < 4400)
        ∧ (4400 ≤ vin.toNat → s.fld Reg.PSC_INPUT 31 31 = 0 → u.fld Reg.PSC_STATUS 27 27 = 0))
    ∧ (s.psc.lowV = true → ∃ u, exec .inputDegradeTimeout s = .next u ∧ u.fld Reg.PSC_STATUS 27 27 = 1 ∧ u.effCap ≤ 5400000)
    ∧ (s.fld Reg.PSC_INPUT 15 0 < 3800 → ∃ u, exec .inputShutdown s = .next u ∧ u.psc.state = .off ∧ u.fuses = s.fuses ∧ u.flash = s.flash
        ∧ ∀ c : CoreId, u.core c = State.reset.core c)
    ∧ (∀ v : W32, s.inService = true → s.writeAhead Reg.PSC_INPUT = false → ∃ u, exec (.pscInputWrite v) s = .next u ∧ u.fld Reg.PSC_INPUT 31 31 = fieldOf v 31 31
        ∧ (fieldOf v 31 31 = 1 → u.fld Reg.PSC_STATUS 27 27 = 1))
    ∧ (∀ c : CoreId, s.refLost = true → exec (.frequencyStep c) s = .next s)
    ∧ (∀ c : CoreId, s.refLost = false → ∃ u, exec (.frequencyStep c) s = .next u ∧ (∀ d : CoreId, d ≠ c → u.core d = s.core d)
        ∧ (u.core c).aclk = (if (s.core c).aclk < vget s.psc.target c then (s.core c).aclk + 25
            else if vget s.psc.target c < (s.core c).aclk then (s.core c).aclk - 25 else (s.core c).aclk))
    ∧ (∀ c : CoreId, ∃ u, exec (.droopTrip c) s = .next u ∧ (u.act (Reg.PSC_DROOP c)).toNat = min ((s.act (Reg.PSC_DROOP c)).toNat + 1) 0xFFFFFFFF
        ∧ u.psc.stretched.getLsbD c.val = true ∧ vget u.psc.trips c = vget s.psc.trips c + 1 ∧ u.cores = s.cores)
    ∧ (∀ c : CoreId, ∃ u, exec (.droopRecover c) s = .next u ∧ u.psc.stretched.getLsbD c.val = false
        ∧ ∀ d : CoreId, d ≠ c → u.psc.stretched.getLsbD d.val = s.psc.stretched.getLsbD d.val)
    ∧ (∀ (c : CoreId) (k : Int) (t : W64), s.coreIdle c = true → 24 * hourNs ≤ ((s.atTime t).ptb - vget s.psc.planAt c).toNat →
        s.psc.short.getLsbD c.val = false → (s.atTime t).brimNeed c = 5 * k → -3 ≤ k → 5 * k ≤ (Config.ageMillivolt c).toNat →
        ∃ u, exec (.brimReplan c t) s = .next u ∧ vget u.psc.planTo c = 5 * k ∧ vget u.psc.planAt c = u.ptb ∧ u.fmax c = 1550)
    ∧ (∃ u, exec .thermalTrip s = .next u ∧ u.psc.state = .off ∧ u.pins.thermtrip = true ∧ u.fld Reg.PSC_STATUS 28 28 = 1 ∧ u.fuses = s.fuses)

/-- Idle, Sleep, Deep sleep and Off (R473 to R484): a core enters Idle when its array is quiet and leaves it for a command; an entry that
nothing refuses begins, and a refused one is counted; the latch, the wakes and the exit. -/
def Obligations.PowerStates : Prop :=
  ∀ s : State,
    (∀ c : CoreId, (∀ t : W64, s.psc.state = .run → s.coreIdle c = false → s.arrQuiet c = true → s.partOf c = none →
        (s.progressAt 1 c).toNat + s.fld Reg.PSC_POLICY 15 8 * 1000 ≤ t.toNat →
        ∃ u, exec (.coreIdleEntry c t) s = .next u ∧ u.coreIdle c = true ∧ ∀ d : CoreId, d ≠ c → u.coreIdle d = s.coreIdle d)
      ∧ (s.coreIdle c = true → (s.core c).arr.xing ≠ [] → ∃ u, exec (.idleExit c) s = .next u ∧ u.coreIdle c = false
        ∧ ∀ d : CoreId, d ≠ c → u.coreIdle d = s.coreIdle d))
    ∧ (∀ (t : PState) (now : W64), s.psc.state = .run → s.psc.entry = none → s.twoCrowns = false → s.pkgIdle = true → s.fld Reg.GLB_STATUS 25 25 = 1 →
        s.fld Reg.GLB_STATUS 26 26 = 0 → s.psc.dwellAt.toNat + max 1 (s.fld Reg.PSC_POLICY 7 0) * 1000000 ≤ now.toNat → s.powerTarget = some t →
        ((s.atTime now).refuser t = none → ∃ u, exec (.powerStateAttempt now) s = .next u ∧ u.psc.entry = some t
          ∧ (t = .deep → u.psc.sleepPtb = (s.atTime now).ptb))
        ∧ (∀ r i : Nat, (s.atTime now).refuser t = some (r, i) → ∃ u, exec (.powerStateAttempt now) s = .next u ∧ u.psc.entry = none ∧ u.psc.state = .run
          ∧ (u.act (Reg.PSC_REFUSE_CNT (r - 1))).toNat = min ((s.act (Reg.PSC_REFUSE_CNT (r - 1))).toNat + 1) 0xFFFFFFFF))
    ∧ ((∃ x : CtxId, (s.ctx x).state = .running) → s.refuser .sleep = some (rfContext, 0))
    ∧ (s.psc.entry = some .sleep → s.refuserAt .sleep 0 false = none → s.wakeHeld = false → ∃ u, exec .powerStateEntered s = .next u ∧ u.psc.state = .sleep ∧ u.psc.entry = none
        ∧ u.fld Reg.PSC_STATUS 31 29 = 2 ∧ u.cores = s.cores ∧ u.ports = s.ports)
    ∧ (s.psc.entry = some .deep → s.refuserAt .deep 0 false = none → ∃ u, exec .powerStateEntered s = .next u ∧ u.psc.state = .deep ∧ u.fld Reg.PSC_STATUS 31 29 = 3 ∧ u.psc.exiting = (s.psc.exiting || s.wakeHeld))
    ∧ (s.psc.entry = some .off → s.refuserAt .off 0 false = none → ∃ u, exec .powerStateEntered s = .next u ∧ u.psc.state = .off ∧ u.fuses = s.fuses)
    ∧ ((s.psc.entry = none → s.psc.state = .sleep ∨ s.psc.state = .deep → ∃ u, exec (.wakeNLow false true) s = .next u ∧ u.psc.exiting = true ∧ u.pins.wakeLow = true)
      ∧ (∀ t : PState, s.psc.entry = some t → s.psc.state = .run → ∃ u, exec (.wakeNLow false false) s = .next u ∧ u.psc.entry = none ∧ u.psc.state = .run)
      ∧ (s.psc.state = .off → s.pins.vaux = true → s.pins.pwrgd = true → s.pins.thermtrip = false →
        ∃ u, exec (.wakeNLow false true) s = .next u ∧ u.psc.state = .run ∧ u.fld Reg.GLB_STATUS 3 0 = 1))
    ∧ (s.psc.entry = none → s.asleep = true → s.pair Reg.PSC_WAKE_AT_LO ≠ 0 → s.psc.ahead = false → ∃ u, exec (.wakeTimer false) s = .next u ∧ u.psc.exiting = true
        ∧ s.pair Reg.PSC_WAKE_AT_LO ≤ u.ptb.toNat)
    ∧ (∀ ticks : Nat, s.psc.exiting = true → s.psc.heldWr = [] →
        (s.psc.state = .sleep → ∃ u, exec (.powerStateExitComplete ticks) s = .next u ∧ u.psc.state = .run ∧ u.psc.exiting = false ∧ u.ptb = s.ptb)
        ∧ (s.psc.state = .deep → ∃ u, exec (.powerStateExitComplete ticks) s = .next u ∧ u.psc.state = .run
            ∧ u.ptb = s.psc.sleepPtb + BitVec.ofNat 64 (ticks * 1000000000 / 32768) ∧ u.psc.resync = true))
    ∧ (∀ v : W32, s.inService = true → s.writeAhead Reg.PSC_CTL = false → (fieldOf v 31 16 = 0x3C96 → v.getLsbD 0 = true →
          (s.refuser .off = none → ∃ u, exec (.pscCtlOff v) s = .next u ∧ u.psc.entry = some .off))
        ∧ (fieldOf v 31 16 ≠ 0x3C96 → exec (.pscCtlOff v) s = .next s))

/-! ## Starts, the crown and updates -/

/-- A start record is published with a reason, and the stage completed last (R55, R497). -/
def Sys2Proof.Machine.State.failedWith (s : State) (reason done : Nat) : Prop :=
  s.fld Reg.GLB_STATUS 25 25 = 1 ∧ s.fld Reg.GLB_SR_HDR 15 8 = reason ∧ s.fld Reg.GLB_SR_HDR 3 0 = done
    ∧ (s.start.failed = true ∨ s.inWarmUp = true)

/-- Stages 1 and 3 to 8 of a start (R494, R495, R497, R505, R521): each ends with the next in progress, or with the false start of the
first check that fails; the record ends the start; a false start retries from a warm reset. -/
def Obligations.StartStages : Prop :=
  ∀ s : State,
    (s.atStage 0 = true ∨ s.atStage 1 = true → s.start.cold = true → s.start.done = 0 →
      (∀ vin : BitVec 16, ∃ u, exec (.powerGoodStage vin false) s = .next u ∧ u.failedWith 0x10 0)
      ∧ (∀ vin : BitVec 16, vin.toNat < 4000 → ∃ u, exec (.powerGoodStage vin true) s = .next u ∧ u.failedWith 0x11 0)
      ∧ ∀ vin : BitVec 16, 4000 ≤ vin.toNat → ∃ u, exec (.powerGoodStage vin true) s = .next u ∧ u.fld Reg.GLB_STATUS 3 0 = 2 ∧ u.start.done = 1
          ∧ u.start.failed = false)
    ∧ (∀ w : ImageWorld, s.atStage 3 = true →
      (w.answers = false → ∃ u, exec (.imageStage w) s = .next u ∧ u.failedWith 0x37 (s.start.done % 16))
      ∧ (w.answers = true → w.slow = false → s.start.copy = false →
        (∀ r : Nat, s.checkImage s.image w.sig w.own = some r → ∃ u, exec (.imageStage w) s = .next u ∧ u.failedWith r (s.start.done % 16))
        ∧ ∀ t : State, s.checkImage s.image w.sig w.own = none →
          (((s.setFld Reg.GLB_FW 31 24 s.image.sec).setFld Reg.GLB_FW 23 0 s.image.build).loadSets.commitSets (List.range 16)) = some t →
          ∃ u, exec (.imageStage w) s = .next u ∧ u.fld Reg.GLB_STATUS 3 0 = 4 ∧ u.start.done = 3 ∧ u.fld Reg.GNT_STATUS 31 30 = 1)
      ∧ (w.answers = true → s.start.copy = true → (s.checkImage ⟨s.stageBank, 2 ^ 23⟩ w.stageSig w.stageOwn).isSome = true →
        ∃ u, exec (.imageStage w) s = .next u ∧ u.failedWith 0x36 (s.start.done % 16) ∧ u.activeImage = s.activeImage))
    ∧ (s.atStage 4 = true → s.fld Reg.GNT_FORCE0 23 0 = 0 → s.fld Reg.GNT_FORCE1 15 0 = 0 → (∀ c : CoreId, (s.spare c).stat ≤ 8) →
      ∃ u, exec (.gauntletStage (List.replicate 60 ⟨none, [], [], 0, false, [], false, false⟩)) s = .next u ∧ u.fld Reg.GLB_STATUS 3 0 = 5
        ∧ u.start.done = 4 ∧ u.act Reg.GLB_SR_UNITS0 = 0x00FFFFFF ∧ u.fld Reg.GLB_SR_UNITS1 15 0 = 0xFFFF ∧ u.fld Reg.GNT_STATUS 31 30 = 0)
    ∧ (∀ w : HbmWorld, s.atStage 5 = true → let p := ((s.trainStacks w.slow).mapOut w.failed).place
      (p.dead.length = 1024 → ∃ u, exec (.hbmStage w) s = .next u ∧ u.failedWith 0x50 (s.start.done % 16))
      ∧ (p.dead.length ≠ 1024 → w.initOk = false → ∃ u, exec (.hbmStage w) s = .next u ∧ u.failedWith 0x51 (s.start.done % 16))
      ∧ (p.dead.length ≠ 1024 → w.initOk = true → ∃ u, exec (.hbmStage w) s = .next u ∧ u.fld Reg.GLB_STATUS 3 0 = 6 ∧ u.start.done = 5
        ∧ u.dram = [] ∧ u.buf = [] ∧ u.dead = p.dead))
    ∧ (∀ t : W64, s.atStage 6 = true →
      let settled (p : PortId) : Bool := s.portState p = stUp || s.portState p = stMismatch || (s.port p).trainFail || s.trainedFor p t
      (s.pins.linkRef = false ∨ (∀ p ∈ s.mappedPorts, settled p = true) → ∃ u, exec (.linkStage t) s = .next u ∧ u.fld Reg.GLB_STATUS 3 0 = 7 ∧ u.start.done = 6)
      ∧ (s.pins.linkRef = true → (∃ p ∈ s.mappedPorts, settled p = false) → exec (.linkStage t) s = .next s))
    ∧ (∀ idle : BitVec 8, s.atStage 7 = true →
      (s.fld Reg.GLB_SR_UNITS0 23 16 &&& idle.toNat = 0 → ∃ u, exec (.coreReleaseStage idle) s = .next u ∧ u.failedWith 0x70 (s.start.done % 16))
      ∧ (s.fld Reg.GLB_SR_UNITS0 23 16 &&& idle.toNat ≠ 0 → ∃ u, exec (.coreReleaseStage idle) s = .next u ∧ u.fld Reg.GLB_STATUS 3 0 = 8 ∧ u.start.done = 7))
    ∧ (s.atStage 8 = true → ∃ u, exec .recordStage s = .next u ∧ u.fld Reg.GLB_STATUS 25 25 = 1 ∧ u.fld Reg.GLB_SR_HDR 15 8 = 0
        ∧ u.fld Reg.GLB_SR_HDR 3 0 = 8 ∧ u.start.done = 8)
    ∧ (s.start.failed = true → s.psc.state = .run → s.photoRun = none → s.twoCrowns = false → ∃ u, exec .falseStartRetry s = .next u ∧ u.resetDue = true ∧ u.start.failed = false)

/-- The crown, the start counter, warm-up mode and the life cycle (R486 to R489, R495 to R498, R500, R501). While both management dies
claim the crown, a warm reset or a photo that is decided waits (R486). -/
def Obligations.CrownAndLife : Prop :=
  ∀ s : State,
    (∀ (mw me : Bool) (old : StartRec), s.psc.state ≠ .off → s.fld Reg.GLB_STATUS 3 0 = 2 → s.fld Reg.GLB_STATUS 25 25 = 0 → s.start.failed = false →
      s.crown.conflict = false → s.newest = some old → old.consec.toNat < 3 → s.fuses.life.val ≠ 0 →
      (mw = false ∨ (me = false ∧ s.crown.silentMe = false) → s.fuses.life.val ≠ 5 → ∃ u, exec (.crownStage mw me) s = .next u ∧ u.fld Reg.GLB_STATUS 3 0 = 3
          ∧ u.act Reg.CRN_START_NO = old.no + 1 ∧ u.start.done = 2 ∧ u.crown.mw = !mw ∧ u.start.copy = (old.actPending || old.copyIntent))
      ∧ (mw = true → me = true ∨ s.crown.silentMe = true → ∃ u, exec (.crownStage mw me) s = .next u ∧ u.inWarmUp = true ∧ u.fld Reg.GLB_SR_HDR 15 8 = 0x21)
      ∧ (mw = false → s.fuses.life.val = 5 → ∃ u, exec (.crownStage mw me) s = .next u ∧ u.inWarmUp = true ∧ u.fld Reg.GLB_SR_HDR 15 8 = 0x80))
    ∧ (∀ me : Bool, s.fld Reg.GLB_STATUS 3 0 = 2 → s.fld Reg.GLB_STATUS 25 25 = 0 → ∃ u, exec (.crownClaimTimeout me) s = .next u
        ∧ (if me then u.crown.silentMw else u.crown.silentMe) = true ∧ u.regs = s.regs)
    ∧ (∀ me : Bool, s.psc.state ≠ .off → s.crown.beats.length < 8 → exec (.crownHeartbeat me) s
        = .next { s with crown := { s.crown with beats := s.crown.beats ++ [(me, if me then s.crown.me else s.crown.mw)] } })
    ∧ (∀ (mw me by_ b : Bool) (rest : List (Bool × Bool)) (t : W64), s.crown.beats = (by_, b) :: rest →
        (b = false ∨ (if by_ then s.crown.mw else s.crown.me) = false → ∃ u, exec (.crownHeartbeatReceived mw me t) s = .next u
          ∧ u.crown = { s.crown with beats := rest } ∧ u.regs = s.regs)
        ∧ (b = true → (if by_ then s.crown.mw else s.crown.me) = true → s.crown.run ≤ 2 → ∃ d : State, exec (.crownHeartbeatReceived mw me t) s = .next d.crownRuns
          ∧ d.fld Reg.CRN_STATUS 15 8 = min (s.fld Reg.CRN_STATUS 15 8 + 1) 255 ∧ d.crown.beats = rest ∧ d.crown.waits = s.crown.waits
          ∧ d.crown.mw = !(mw && !(me || s.crown.silentMe)) ∧ d.crown.me = ((mw || s.crown.silentMw) && !me)))
    ∧ (∀ me : Bool, s.psc.state ≠ .off → (if me then s.crown.me else s.crown.mw) = false →
        (∃ d : State, exec (.crownTakeover me) s = .next d.crownRuns.beginWarm ∧ d.crown = { s.crown with me := me, mw := !me }
          ∧ d.fld Reg.CRN_STATUS 7 0 = min (s.fld Reg.CRN_STATUS 7 0 + 1) 255)
        ∧ (s.crown.waits = [] → s.posted = [] → s.heldReads = [] → s.photoRun = none →
          ∃ u, exec (.crownTakeover me) s = .next u ∧ u.crown.me = me ∧ u.crown.mw = !me ∧ u.resetDue = true))
    ∧ (s.twoCrowns = true → s.resetDue = false →
        s.beginWarm = { s with crown := { s.crown with waits := s.crown.waits ++ [.warm] } }
        ∧ ∀ (cause : Nat) (n : Option Nat), s.startPhoto cause n = { s with crown := { s.crown with waits := s.crown.waits ++ [.photo cause n] } })
    ∧ (∀ v : W32, s.inService = true → s.writeAhead Reg.CRN_CTL = false → s.twoCrowns = false →
        (fieldOf v 31 16 ≠ 0x5AC3 → exec (.crnWarmup v) s = .next (s.badAccess 0 Reg.CRN_CTL) ∧ exec (.crnLifeDeploy v) s = .next (s.badAccess 0 Reg.CRN_LIFE)
          ∧ exec (.crnLifeScrap v) s = .next (s.badAccess 0 Reg.CRN_LIFE))
        ∧ (fieldOf v 31 16 = 0x5AC3 → v.getLsbD 1 = true → s.photoRun = none → ∃ u, exec (.crnWarmup v) s = .next u ∧ u.resetDue = true)
        ∧ (fieldOf v 31 16 = 0x5AC3 → fieldOf v 2 0 = 3 → s.fuses.life.val = 2 → ∃ u, exec (.crnLifeDeploy v) s = .next u
          ∧ u.fuses = { s.fuses with life := 3, owner := if s.ownerKey = 0 then none else some s.ownerKey })
        ∧ (fieldOf v 31 16 = 0x5AC3 → fieldOf v 2 0 = 5 → s.fuses.life.val ≠ 0 → s.fuses.life.val ≠ 5 → ∃ u, exec (.crnLifeScrap v) s = .next u
          ∧ u.fuses = { s.fuses with life := 5 }))
    ∧ (∀ v : W32, s.awake = true → s.inWarmUp = true → fieldOf v 31 16 = 0x5AC3 → v.getLsbD 0 = true → v.getLsbD 1 = false → s.photoRun = none →
        s.writeAhead Reg.CRN_CTL = false → s.twoCrowns = false → ∃ u, exec (.crnRestart v) s = .next u ∧ u.resetDue = true)
    ∧ (s.psc.state ≠ .off → s.pins.pwrgd = true →
        (s.fuses.life.val = 0 → ∃ u, exec .jtagFusing s = .next u ∧ u.fuses = { s.fuses with life := 1 })
        ∧ (s.fuses.life.val = 1 → ∃ u, exec .jtagFusing s = .next u ∧ u.fuses = { s.fuses with life := 2, revoked := s.fuses.revoked ||| 1 }))

/-- Staged updates and gauntlet runs in service (R503, R504, R508, R522, R523): a session from BEGIN to its check, its refusals, an
activation from ARM to its reset, and the start and the end of a unit's test. -/
def Obligations.UpdatesAndTests : Prop :=
  ∀ s : State, s.inService = true → s.writeAhead Reg.CRN_CTL = false → s.writeAhead Reg.GNT_CTL = false → s.twoCrowns = false →
    (s.bankState ≠ 1 → s.bankState ≠ 2 →
      (s.stageRefusal = none → ∃ u, exec .crnStgBegin s = .next u ∧ u.bankState = 1 ∧ u.fld Reg.CRN_STG_STATUS 15 0 = 0x2000 ∧ u.stageBank = []
        ∧ u.stgBuf = [] ∧ u.activeImage = s.activeImage)
      ∧ ∀ c : Nat, s.stageRefusal = some c → ∃ u, exec .crnStgBegin s = .next u ∧ u.bankState = s.bankState ∧ u.fld Reg.CRN_STG_STATUS 23 16 = c
        ∧ u.stageBank = s.stageBank)
    ∧ (s.stageOpen = true →
      (∀ v : W32, (s.fld Reg.CRN_STG_STATUS 15 0 ≠ 0 → ∃ u, exec (.crnStgDataWrite v) s = .next u ∧ u.stgBuf = s.stgBuf ++ [v] ∧ u.stageBank = s.stageBank)
        ∧ (s.fld Reg.CRN_STG_STATUS 15 0 = 0 → ∃ u, exec (.crnStgDataWrite v) s = .next u ∧ u.stgBuf = s.stgBuf ∧ u.fld Reg.CRN_STG_STATUS 28 28 = 1)
        ∧ (v.getLsbD 0 = true → ∃ u, exec (.crnLockWrite v) s = .next u ∧ u.bankState = 4 ∧ u.fld Reg.CRN_STG_STATUS 23 16 = 3))
      ∧ (∀ n : Nat, ∃ u, exec (.stagingBufferProgrammed n) s = .next u ∧ u.stgBuf = s.stgBuf.drop n ∧ u.stgAt = s.stgAt + 4 * (s.stgBuf.take n).length)
      ∧ (∃ u, exec .crnStgEnd s = .next u ∧ u.bankState = 2 ∧ u.stgBuf = [])
      ∧ ∃ u, exec .crnStgAbort s = .next u ∧ u.bankState = 4 ∧ u.fld Reg.CRN_STG_STATUS 23 16 = 6)
    ∧ (∀ sig own : Bool, s.bankState = 2 → let m : Image := ⟨s.stageBank, (s.act Reg.CRN_STG_LEN).toNat⟩
      (∀ r : Nat, s.checkImage m sig own = some r → ∃ u, exec (.stageCheckComplete sig own) s = .next u ∧ u.bankState = 4 ∧ u.fld Reg.CRN_STG_STATUS 23 16 = r)
      ∧ (s.checkImage m sig own = none → s.fld Reg.CRN_STG_STATUS 28 28 = 0 → ∃ u, exec (.stageCheckComplete sig own) s = .next u ∧ u.bankState = 3
        ∧ (u.act Reg.CRN_STG_VER).toNat = (m.sec * 2 ^ 24 + m.build) % 2 ^ 32))
    ∧ (∀ v : W32, fieldOf v 31 16 = 0x5AC3 → v.getLsbD 3 = false →
      (v.getLsbD 0 = true → v.getLsbD 1 = false → s.activation.armed = false →
        (s.armRefusal (s.pair Reg.CRN_ACT_TIME_LO) = none → ∃ u, exec (.crnActArm v) s = .next u ∧ u.fld Reg.CRN_STATUS 23 20 = 1
          ∧ u.activation = ⟨true, BitVec.ofNat 64 (s.pair Reg.CRN_ACT_TIME_LO), v.getLsbD 2, none⟩)
        ∧ ∀ c : Nat, s.armRefusal (s.pair Reg.CRN_ACT_TIME_LO) = some c → ∃ u, exec (.crnActArm v) s = .next u ∧ u.fld Reg.CRN_STATUS 23 20 = c
          ∧ u.activation = s.activation)
      ∧ (v.getLsbD 1 = true → s.activation.armed = true → s.activation.begun = none → ∃ u, exec (.crnActDisarm v) s = .next u
        ∧ u.activation.armed = false ∧ u.fld Reg.CRN_STATUS 23 20 = 0))
    ∧ (∀ v : W32, fieldOf v 31 16 = 0x5AC3 → v.getLsbD 3 = true → exec (.crnActCopyNow v) s = .next (s.badAccess 0 Reg.CRN_ACT_CTL))
    ∧ (∀ (t : State) (v : W32), t.awake = true → t.inWarmUp = true → t.writeAhead Reg.CRN_CTL = false → t.twoCrowns = false → t.bankState = 3 → fieldOf v 31 16 = 0x5AC3 → v.getLsbD 3 = true →
        exec (.crnActCopyNow v) t = .next (t.addRec kdRetry (fun r => { r with actPending := true })))
    ∧ (∀ t : W64, (s.activation.armed = true → s.activation.begun = none → s.activation.split = false → s.activation.time.toNat ≤ t.toNat →
          ∃ u, exec (.activationTime t) s = .next u ∧ u.activation = { s.activation with begun := some u.ptb } ∧ (s.psc.ahead = false → t.toNat ≤ u.ptb.toNat))
        ∧ (∀ b : W64, s.activation.begun = some b → s.actDone = true → s.photoRun = none → ∃ u, exec (.activationReset t) s = .next u ∧ u.resetDue = true))
    ∧ (∀ v : W32, v.getLsbD 31 = true → s.setPending 0 = false → let n := fieldOf v 5 0
      (s.fld Reg.GNT_STATUS 31 30 = 0 → s.mayTest n (fieldOf v 30 30 = 1) = true → ∃ u, exec (.gntStart v) s = .next u
        ∧ u.fld Reg.GNT_STATUS 31 30 = 2 ∧ u.fld Reg.GNT_STATUS 27 22 = n ∧ u.cores = s.cores)
      ∧ (s.fld Reg.GNT_STATUS 31 30 = 0 → s.mayTest n (fieldOf v 30 30 = 1) = false → n < 60 → ∃ u, exec (.gntStart v) s = .next u
        ∧ u.result n = rsAborted ∧ u.fld (Reg.GNT_RESULT n) 27 24 = 9 ∧ u.fld Reg.GNT_STATUS 31 30 = 0)
      ∧ (s.fld Reg.GNT_STATUS 31 30 ≠ 0 → exec (.gntStart v) s = .next (s.badAccess 0 Reg.GNT_CTL)))
    ∧ (∀ (g : GntUnit) (c : CoreId), s.fld Reg.GNT_STATUS 31 30 = 2 → s.fld Reg.GNT_STATUS 27 22 = c.val → s.retrainDue = false →
      ∃ u, exec (.gauntletRunComplete g) s = .next u ∧ u.fld Reg.GNT_STATUS 31 30 = 0 ∧ u.core c = Core.reset ∧ ∀ d : CoreId, d ≠ c → u.core d = s.core d)

/-! ## Registers, sidebands, reset and the life cycle -/

/-- The bits of a register that a read clears (RC in R10). -/
def Sys2Proof.Machine.rcBits (off : Nat) : W32 := match regAt off with | some r => accMask r.2.1 [.rc] | none => 0

/-- The commands that read a register whose fields clear on read, with its offset. -/
inductive Sys2Proof.Machine.ClearRead : (FnId → Instr) → Nat → Prop where
  | memInboundCntRead : ClearRead (fun f => .memInboundCntRead f) Reg.MEM_INBOUND_CNT
  | hngPhotoStatusRead : ClearRead (fun f => .hngPhotoStatusRead f) Reg.HNG_PHOTO_STATUS
  | smbAlertDropRead : ClearRead (fun f => .smbAlertDropRead f) Reg.SMB_ALERT_DROP
  | arrBankStallRead (c : CoreId) : ClearRead (fun f => .arrBankStallRead f c) (Reg.ARR_BANK_STALL c)
  | arrBankStallCycRead (c : CoreId) : ClearRead (fun f => .arrBankStallCycRead f c) (Reg.ARR_BANK_STALL_CYC c)
  | arrWindowTruncRead (c : CoreId) : ClearRead (fun f => .arrWindowTruncRead f c) (Reg.ARR_WINDOW_TRUNC c)
  | hrdStrayRead (c : CoreId) : ClearRead (fun f => .hrdStrayRead f c) (Reg.HRD_STRAY c)
  | strQuotaWaitRead (c : CoreId) : ClearRead (fun f => .strQuotaWaitRead f c) (Reg.STR_QUOTA_WAIT c)
  | gthQuotaWaitRead (c : CoreId) : ClearRead (fun f => .gthQuotaWaitRead f c) (Reg.GTH_QUOTA_WAIT c)
  | strStaleRead (c : CoreId) : ClearRead (fun f => .strStaleRead f c) (Reg.STR_STALE c)
  | strWatchEvictRead (c : CoreId) : ClearRead (fun f => .strWatchEvictRead f c) (Reg.STR_WATCH_EVICT c)
  | storeStashSpillsRead (c : CoreId) : ClearRead (fun f => .storeStashSpillsRead f c) (Reg.STORE_STASH_SPILLS c)
  | storeStashDropsRead (c : CoreId) : ClearRead (fun f => .storeStashDropsRead f c) (Reg.STORE_STASH_DROPS c)
  | storeStashWaitRead (c : CoreId) : ClearRead (fun f => .storeStashWaitRead f c) (Reg.STORE_STASH_WAIT c)
  | genStallRead (c : CoreId) : ClearRead (fun f => .genStallRead f c) (Reg.GEN_STALL c)
  | relCapDropRead (c : CoreId) : ClearRead (fun f => .relCapDropRead f c) (Reg.REL_CAP_DROP c)
  | relReadyRetryRead (c : CoreId) : ClearRead (fun f => .relReadyRetryRead f c) (Reg.REL_READY_RETRY c)
  | relRefusedRead (c : CoreId) : ClearRead (fun f => .relRefusedRead f c) (Reg.REL_REFUSED c)
  | pscDroopRead (c : CoreId) : ClearRead (fun f => .pscDroopRead f c) (Reg.PSC_DROOP c)
  | arrSatRead (c : CoreId) (k : Fin 5) : ClearRead (fun f => .arrSatRead f c k) (Reg.ARR_SAT c k)
  | arrNonfinRead (c : CoreId) (k : Fin 5) : ClearRead (fun f => .arrNonfinRead f c k) (Reg.ARR_NONFIN c k)
  | arrUnderRead (c : CoreId) (k : Fin 5) : ClearRead (fun f => .arrUnderRead f c k) (Reg.ARR_UNDER c k)
  | seqIssuedRead (c : CoreId) (q : SeqId) : ClearRead (fun f => .seqIssuedRead f c q) (Reg.SEQ_ISSUED c q)
  | seqGrantWaitRead (c : CoreId) (q : SeqId) : ClearRead (fun f => .seqGrantWaitRead f c q) (Reg.SEQ_GRANT_WAIT c q)
  | memCeRead (p : PortId) : ClearRead (fun f => .memCeRead f p) (Reg.MEM_CE p)
  | memUeRead (p : PortId) : ClearRead (fun f => .memUeRead f p) (Reg.MEM_UE p)
  | memBlockedRead (p : PortId) : ClearRead (fun f => .memBlockedRead f p) (Reg.MEM_BLOCKED p)
  | lnkFecCorrRead (p : PortId) : ClearRead (fun f => .lnkFecCorrRead f p) (Reg.LNK_FEC_CORR p)
  | lnkFecUncorrRead (p : PortId) : ClearRead (fun f => .lnkFecUncorrRead f p) (Reg.LNK_FEC_UNCORR p)
  | lnkReplaysRead (p : PortId) : ClearRead (fun f => .lnkReplaysRead f p) (Reg.LNK_REPLAYS p)
  | lnkPeerLostRead (p : PortId) : ClearRead (fun f => .lnkPeerLostRead f p) (Reg.LNK_PEER_LOST p)
  | lnkBadMsgRead (p : PortId) : ClearRead (fun f => .lnkBadMsgRead f p) (Reg.LNK_BAD_MSG p)
  | eqDropRead (g : FnId) : ClearRead (fun f => .eqDropRead f g) (Reg.HIF_FN_EQ_DROP g)
  | pscRefuseCntRead (k : Fin 13) : ClearRead (fun f => .pscRefuseCntRead f k) (Reg.PSC_REFUSE_CNT k)

/-- The count that a LO word of the SCH block begins (R414, R415). -/
def Sys2Proof.Machine.State.schCount (s : State) : SchLo → Nat
  | .run x => (s.ctx x).run.toNat
  | .energy x => (s.ctx x).energy.toNat
  | .overhead => s.pair Reg.SCH_ENERGY_OVH_LO
  | .all => s.pair Reg.SCH_ENERGY_ALL_LO

/-- Reads of registers (R37, R40, R44 to R48, R397, R414, R451): what a read answers, what it clears, latches or advances, and that
nothing else changes. A read behind an earlier write of its function to its block waits; one that has had no answer in time answers all
ones. A mirror read has no side effect, a reserved offset reads zero, and a VF's read outside its view is refused. -/
def Obligations.RegisterReads : Prop :=
  ∀ (s : State) (f : FnId), s.inService = true → s.fnExists f = true →
    (∀ (off : Nat) (wide : Bool), s.gate f off false = .allowed → s.readWaits f off = true →
      exec (.registerRead f off wide) s = .next { s with heldReads := s.heldReads ++ [(f, off, wide)] })
    ∧ (∀ off : Nat, ∃ t, exec (.registerReadTimeout f off) s = .next t ∧ t.cores = s.cores ∧ t.shadow = s.shadow
        ∧ vget t.reply f = (if s.heldReads.any (fun r => r = (f, off, true)) then 0xFFFFFFFFFFFFFFFF else 0xFFFFFFFF))
    ∧ (∀ off : Nat, regAt (homeOff off) = none → s.regWord off = 0)
    ∧ ((∀ off : Nat, s.readWaits f off = false) →
    (∀ (g : FnId → Instr) (off : Nat), ClearRead g off → s.gate f off false = .allowed → rcBits off ≠ 0 ∧ exec (g f) s
      = .next { s.setAct off (s.act off &&& ~~~(rcBits off)) with reply := vset s.reply f ((s.regWord off).setWidth 64) })
    ∧ (∃ t, exec (.ptbNowLoRead f) s = .next t ∧ vget t.reply f = (lowWord s.ptb.toNat).setWidth 64
        ∧ t.regWord Reg.PTB_NOW_HI = highWord s.ptb.toNat ∧ t.cores = s.cores)
    ∧ (∃ t, exec (.registerRead f Reg.PTB_NOW_LO true) s = .next t ∧ vget t.reply f = s.ptb)
    ∧ (∀ c : CoreId, s.gate f (Reg.ARR_PRODUCTS_LO c) false = .allowed → ∃ t, exec (.arrProductsLoRead f c) s = .next t
        ∧ vget t.reply f = (lowWord (s.core c).arr.products.toNat).setWidth 64
        ∧ t.act (latchOf (Reg.ARR_PRODUCTS_HI c)) = highWord (s.core c).arr.products.toNat ∧ t.cores = s.cores)
    ∧ (∀ w : SchLo, s.gate f (schLoOff w) false = .allowed → ∃ t, exec (.schLoRead f w) s = .next t
        ∧ vget t.reply f = (lowWord (s.schCount w)).setWidth 64 ∧ t.regWord (schLoOff w + 4) = highWord (s.schCount w) ∧ t.ctxs = s.ctxs)
    ∧ (f = 0 → (∃ t, exec (.hngPhotoDataRead f) s = .next t ∧ vget t.reply f = s.photoWord.setWidth 64
          ∧ t.fld Reg.HNG_PHOTO_INDEX 18 0 = (s.fld Reg.HNG_PHOTO_INDEX 18 0 + 1) % 2 ^ 19 ∧ t.photo = s.photo)
        ∧ ∃ t, exec (.smbAlertRead f) s = .next t ∧ vget t.reply f = s.alertWord.setWidth 64 ∧ t.alerts = s.alerts.tail ∧ t.cores = s.cores)
    ∧ (∀ off : Nat, s.gate f off false = .allowed → inMsix off = false → exec (.registerRead f off false) s
        = (let t := if inMirror off then s else s.readEffect (homeOff off)
           .next { t with reply := vset t.reply f ((s.regWord off).setWidth 64) }))
    ∧ (∀ off : Nat, s.gate f off false = .allowed → inMsix off = true → exec (.registerRead f off false) s
        = .next { s with reply := vset s.reply f ((s.msixWord f off).setWidth 64) })
    ∧ (∀ off : Nat, s.gate f off false = .deny → exec (.registerRead f off false) s
        = (let t := s.badAccess f off
           .next { t with reply := vset t.reply f 0 })))

/-- Writes of registers and commit sets (R44 to R46, R50 to R52) and BAR2 (R38, R39): an RWS register takes a write in its shadow, which is
DIRTY; the mirror and reserved offsets discard it; a write behind one that is held is held too (R47); and a commit is complete, refused or
pending, applies as a whole when every block is at its apply point and no earlier commit of one is still to apply, and times out
otherwise. An access beyond the size of BAR2 reaches nothing. -/
def Obligations.RegisterWritesAndCommits : Prop :=
  ∀ s : State, s.inService = true →
    (∀ (off : Nat) (v : W64) (r : PageKind × RegRow × List Nat) (n : Nat), regAt off = some r → r.2.1.fields ≠ [] → (∀ x ∈ r.2.1.fields, x.acc = .rws) →
      setAt off = some n → s.setPending n = false → s.writeAhead off = false →
      ∃ t, exec (.registerWrite 0 off v false true) s = .next t ∧ t.act off = s.act off
        ∧ t.shad off = (s.shad off &&& ~~~(rwsMask off)) ||| (v.setWidth 32 &&& rwsMask off) ∧ bit (t.fld Reg.CSET_DIRTY 15 0) n = true
        ∧ ∀ k : Nat, k ≠ off → t.shad k = s.shad k ∧ (k ≠ Reg.CSET_DIRTY → t.act k = s.act k))
    ∧ (∀ (off : Nat) (v : W64) (n : Nat), homeOff off = off → hasRws off = true → setAt off = some n → n < 16 → s.setPending n = true → inMsix off = false →
      inMirror off = false → exec (.registerWrite 0 off v false true) s = .next { s with posted := s.posted ++ [(0, off, v.setWidth 32)] })
    ∧ (∀ (off : Nat) (v : W64), off % 4 = 0 → s.writeAhead off = true →
      exec (.registerWrite 0 off v false true) s = .next { s with posted := s.posted ++ [(0, homeOff off, v.setWidth 32)] })
    ∧ (∀ (off : Nat) (v : W64), off % 4 = 0 → s.writeAhead off = false → inMirror off = true ∨ (inMsix off = false ∧ regAt (homeOff off) = none) →
      exec (.registerWrite 0 off v false true) s = .next s)
    ∧ (∀ (off : Nat) (v : W64) (wide full : Bool), full = false ∨ off % 4 ≠ 0 ∨ (wide = true ∧ off % 8 ≠ 0) →
      exec (.registerWrite 0 off v wide full) s = .next (s.badAccess 0 off))
    ∧ (∀ (off : Nat) (v : W64), off % 8 = 0 → ∃ t, exec (.registerWrite 0 off v false true) s = .next t
      ∧ exec (.registerWrite 0 off v true true) s = .next (t.writeWord 0 (off + 4) ((v >>> 32).setWidth 32)))
    ∧ (∀ (f : FnId) (off : Nat) (v : W64), s.fnExists f = true → off % 4 = 0 → s.gate f off true = .deny →
      exec (.registerWrite f off v false true) s = .next (s.badAccess f off))
    ∧ (∀ v : W32, let n := fieldOf v 4 0
      s.writeAhead Reg.CSET_COMMIT = false →
      (16 ≤ n → exec (.csetCommit v) s = .next (s.badAccess 0 Reg.CSET_COMMIT) ∧ exec (.csetDiscard v) s = .next (s.badAccess 0 Reg.CSET_DISCARD))
      ∧ (n < 16 → s.setPending n = true → exec (.csetCommit v) s = .next { s with posted := s.posted ++ [(0, Reg.CSET_COMMIT, v)] }
        ∧ exec (.csetDiscard v) s = .next { s with posted := s.posted ++ [(0, Reg.CSET_DISCARD, v)] })
      ∧ (n < 16 → s.setPending n = false →
        (s.setEqual n = true → ∃ t, exec (.csetCommit v) s = .next t ∧ t.setPending n = false ∧ bit (t.fld Reg.CSET_DIRTY 15 0) n = false
          ∧ bit (t.fld Reg.CSET_ERR 15 0) n = false ∧ t.fld Reg.CSET_COUNT 15 0 = (s.fld Reg.CSET_COUNT 15 0 + 1) % 2 ^ 16 ∧ t.shadow = s.shadow)
        ∧ (s.setEqual n = false → s.checkSet n false = none → exec (.csetCommit v) s
            = .next { s.setBit Reg.CSET_PENDING n true with csetOrder := s.csetOrder ++ [n] })
        ∧ (∀ off : Nat, s.setEqual n = false → s.checkSet n false = some off → ∃ t, exec (.csetCommit v) s = .next t ∧ t.setPending n = false
          ∧ bit (t.fld Reg.CSET_ERR 15 0) n = true ∧ t.shadow = s.shadow ∧ t.cores = s.cores)
        ∧ ∃ t, exec (.csetDiscard v) s = .next t ∧ bit (t.fld Reg.CSET_DIRTY 15 0) n = false ∧ t.cores = s.cores
          ∧ ∀ k : Nat, setAt k = some n → t.shad k &&& rwsMask k = s.act k &&& rwsMask k))
    ∧ (∀ n : Fin 16, s.setPending n = true → s.posted = [] → s.heldReads = [] →
      (s.atApply n = true → s.firstOf n = true → s.twoCrowns = false → ∃ t, exec (.commitApply n) s = .next t ∧ t.setPending n = false ∧ bit (t.fld Reg.CSET_DIRTY 15 0) n = false
        ∧ bit (t.fld Reg.CSET_ERR 15 0) n = false ∧ t.fld Reg.CSET_COUNT 15 0 = (s.fld Reg.CSET_COUNT 15 0 + 1) % 2 ^ 16
        ∧ ∀ k : Nat, setAt k = some n.val → t.act k &&& rwsMask k = s.shad k &&& rwsMask k)
      ∧ (s.atApply n = false ∨ s.firstOf n = false ∨ s.twoCrowns = true → exec (.commitApply n) s = .next s)
      ∧ ∀ off : Nat, (s.atApply n = true → s.firstOf n = true → exec (.commitTimeout n off) s = .next s)
        ∧ (s.atApply n = false ∨ s.firstOf n = false → ∃ t, exec (.commitTimeout n off) s = .next t ∧ t.setPending n = false
          ∧ bit (t.fld Reg.CSET_ERR 15 0) n = true ∧ ∀ k : Nat, setAt k = some n.val →
            t.act k &&& rwsMask k = s.act k &&& rwsMask k ∧ t.shad k &&& rwsMask k = s.shad k &&& rwsMask k))
    ∧ (∀ (f : FnId) (off : Nat), s.fnExists f = true → let a := s.aperture f off
      (s.barSize f ≤ off → (∀ n : Fin 9, exec (.bar2Read f off n) s = .next s) ∧ ∀ bytes : List Byte, exec (.bar2Write f off bytes) s = .next s)
      ∧ (off < s.barSize f →
      (∀ (n : Fin 9) (bs : List Byte), (s.hostRead f (barSpace f) a (inLine a n)).2 = .ok bs →
        ∃ t, exec (.bar2Read f off n) s = .next t ∧ vget t.reply f = BitVec.ofNat 64 (leNat bs) ∧ t.cores = s.cores)
      ∧ (∀ n : Fin 9, f = 0 → memLimit s ≤ a → exec (.bar2Read f off n) s = .next ((s.outOfRange f off).setReply f 0))
      ∧ (∀ bytes : List Byte, f = 0 → memLimit s ≤ a → exec (.bar2Write f off bytes) s = .next (s.outOfRange f off))
      ∧ ∀ bytes : List Byte, f = 0 → a < memLimit s → exec (.bar2Write f off bytes) s
          = .next (s.hostWrite f (barSpace f) a (bytes.take (256 - a % 256))).1))

/-- The SMBus target, the supplies and the sideband pins (R395 to R397, R481, R482, R529, R530, R534 to R537, R540). -/
def Obligations.SideBand : Prop :=
  ∀ s : State,
    (∀ (v : W32) (l : Bool), exec (.smbSetPointer v false) s = .next s ∧ exec (.smbReadWord false) s = .next s ∧ exec (.smbWriteWord v false) s = .next s
      ∧ exec (.smbWake l false) s = .next s ∧ exec (.smbStatus false) s = .next s)
    ∧ (∀ v : W32, s.psc.state = .run ∨ s.psc.state = .sleep → exec (.smbSetPointer v true) s = .next { s with smbRefused := false, smbPtr := v })
    ∧ (s.inService = true → s.readWaits 0 s.smbPtr.toNat = false → ∃ t, exec (.smbReadWord true) s = .next t ∧ vget t.reply 0 = (s.readWord 0 s.smbPtr.toNat).1.setWidth 64
        ∧ t.smbPtr = s.smbPtr + 4 ∧ t.smbRefused = false)
    ∧ (s.psc.state = .deep → exec (.smbReadWord true) s = .next (if pageOf s.smbPtr.toNat = some .glb then { s with
        smbRefused := false, smbPtr := s.smbPtr + 4, reply := vset s.reply 0 ((smGet (fun _ => 0) s.glbCopy (homeOff s.smbPtr.toNat)).setWidth 64) } else s))
    ∧ (∀ v : W32, s.psc.state = .run ∨ s.psc.state = .sleep → let p := s.smbPtr.toNat / 4 * 4
      (smbWritable p = true → ∃ t, exec (.smbWriteWord v true) s = .next t ∧ t.smbPtr = s.smbPtr + 4
        ∧ t = { ({ s with smbRefused := false } : State).writeWord 0 p v with smbPtr := s.smbPtr + 4 })
      ∧ (smbWritable p = false → exec (.smbWriteWord v true) s = .next { s with smbRefused := true }))
    ∧ (∀ l : Bool, s.psc.entry = none → s.asleep = true → exec (.smbWake l true) s
        = .next { s with smbRefused := false, psc := { s.psc with exiting := true } })
    ∧ (s.psc.entry.isSome = true → s.psc.state = .run → exec (.smbWake true true) s = .next { s with smbRefused := false }
        ∧ ∃ t, exec (.smbWake false true) s = .next t ∧ t.psc.entry = none ∧ t.psc.state = .run)
    ∧ (s.psc.state ≠ .off → exec (.smbStatus true) s = .next { s with reply := vset s.reply 0 (BitVec.ofNat 64 (boolNat (s.psc.state = .run)
        + 2 * boolNat (!s.psc.heldWr.isEmpty) + 4 * boolNat s.smbRefused + 8 * boolNat s.inWarmUp)) })
    ∧ exec .smbAlertResponse s = .next (if s.alertPin then { s with reply := vset s.reply 0 (BitVec.ofNat 64 (0x58 + s.pins.straps)) } else s)
    ∧ (s.psc.entry = none → s.psc.state = .deep → exec .smbAddressMatch s = .next { s with psc := { s.psc with wakeMatch := true, exiting := true } })
    ∧ (s.psc.entry ≠ some .deep → s.psc.state ≠ .deep → exec .smbAddressMatch s = .next s)
    ∧ exec .smbBusTimeout s = .next s
    ∧ (∀ st : Fin 4, s.pins.vaux = false → exec (.vaux33Apply st) s = .next { s with pins := { s.pins with vaux := true, straps := st } })
    ∧ (s.pins.vaux = true → ∃ t, exec .vaux33Remove s = .next t ∧ t.pins.vaux = false ∧ t.psc.state = .off ∧ t.fuses = s.fuses ∧ t.dram = []
        ∧ t.fld Reg.PSC_STATUS 28 28 = 0)
    ∧ (s.pins.pwrgd = false → s.psc.state = .off → s.pins.vaux = true → s.pins.thermtrip = false →
        ∃ t, exec .pwrgdRise s = .next t ∧ t.pins.pwrgd = true ∧ t.psc.state = .run ∧ t.fld Reg.GLB_STATUS 3 0 = 1 ∧ t.start.cold = true)
    ∧ (s.pins.pwrgd = true → (s.psc.state = .off → exec .pwrgdFall s = .next { s with pins := { s.pins with pwrgd := false, thermtrip := false } })
      ∧ (s.psc.state ≠ .off → ∃ t, exec .pwrgdFall s = .next t ∧ t.psc.state = .off ∧ t.pins.pwrgd = false ∧ t.fuses = s.fuses ∧ t.dram = []
        ∧ ∀ p : PortId, s.timed p = true → (vget t.ports p).unseq = List.replicate 16 (.notice 1 s.ptb)))
    ∧ (s.pins.perst = false → s.psc.state = .run → s.psc.entry = none → ∃ t, exec .perstNAssert s = .next t ∧ t.pins.perst = true ∧ t.act Reg.HIF_STATUS = 0
        ∧ t.psc.state = .run)
    ∧ (∀ (speed : BitVec 4) (width : BitVec 5) (flit : Bool), s.pins.perst = true → s.psc.state ≠ .off →
        ∃ t, exec (.perstNDeassert speed width flit) s = .next t ∧ t.pins.perst = false ∧ t.fld Reg.HIF_STATUS 31 28 = speed.toNat
          ∧ t.fld Reg.HIF_STATUS 27 23 = width.toNat ∧ t.fld Reg.HIF_STATUS 22 22 = boolNat flit ∧ t.fld Reg.HIF_STATUS 21 18 = s.fld Reg.HIF_STATUS 21 18)
    ∧ (s.psc.entry = none → s.asleep = true → exec .pcieL1Exit s = .next { s with psc := { s.psc with exiting := true } })

/-- The part at reset (R11, R495; the first state is power-good with every unit idle, and log 25 names the fused life-cycle state): every
register reads its reset value, nothing runs, and no memory lists a byte. -/
def Obligations.ResetState : Prop :=
  let s := State.reset
  (∀ off : Nat, off ≠ Reg.GLB_STATUS → s.act off = regReset off) ∧ (∀ off : Nat, s.shad off = regReset off) ∧ s.pending = []
  ∧ s.ptb = 0 ∧ s.fld Reg.GLB_STATUS 28 0 = 0
  ∧ (∀ c : CoreId, (s.core c).ctx = none ∧ (∀ q : SeqId, (s.seq c q).state = .idle) ∧ (s.core c).store = [])
  ∧ (∀ x : CtxId, (s.ctx x).state = .free) ∧ (∀ i : Hid, (s.hurdle i).state = .idle) ∧ s.dram = [] ∧ s.host = []
  ∧ s.psc.state = .run ∧ s.psc.entry = none ∧ s.atStage 0 = true

/-- The life cycle (R501): whatever the command, the state stays or moves along an arrow of the table; fuses are never unblown; and from
final test on, with vendor key slot 0 revoked, it stays revoked. -/
def Obligations.LifeCycleSteps : Prop :=
  ∀ s t : State, step s = .next t →
    (t.fuses.life = s.fuses.life ∨ (s.fuses.life.val, t.fuses.life.val) ∈ [(0, 1), (1, 2), (2, 3), (2, 4), (3, 4), (1, 5), (2, 5), (3, 5), (4, 5)])
    ∧ s.fuses.blown ≤ t.fuses.blown
    ∧ (∀ i : Fin 4, s.fuses.revoked.getLsbD i = true → t.fuses.revoked.getLsbD i = true)
    ∧ (s.fuses.ownerRevoked = true → t.fuses.ownerRevoked = true)
    ∧ ((2 ≤ s.fuses.life.val ∧ s.fuses.life.val ≤ 4 → s.fuses.revoked.getLsbD 0 = true) →
        (2 ≤ t.fuses.life.val ∧ t.fuses.life.val ≤ 4 → t.fuses.revoked.getLsbD 0 = true))
end

