-- ==== Sys2Proof/Laws/State.lean ====
section
/-! SUPPORT. What each update of State leaves in each of its fields, by rfl: no later proof unfolds a record update. -/

section
set_option Elab.async false

namespace Sys2Proof.Machine
open Sys2Proof

/-! ### State.setCore: changes `cores` -/

section
variable (s : State) (c : CoreId) (k : Core)
@[simp] theorem State.setCore_pending : (s.setCore c k).pending = s.pending := (rfl)
@[simp] theorem State.setCore_regs : (s.setCore c k).regs = s.regs := (rfl)
@[simp] theorem State.setCore_shadow : (s.setCore c k).shadow = s.shadow := (rfl)
@[simp] theorem State.setCore_ptb : (s.setCore c k).ptb = s.ptb := (rfl)
@[simp] theorem State.setCore_free : (s.setCore c k).free = s.free := (rfl)
@[simp] theorem State.setCore_cores : (s.setCore c k).cores = vset s.cores c k := (rfl)
@[simp] theorem State.setCore_hurdles : (s.setCore c k).hurdles = s.hurdles := (rfl)
@[simp] theorem State.setCore_arrivals : (s.setCore c k).arrivals = s.arrivals := (rfl)
@[simp] theorem State.setCore_host : (s.setCore c k).host = s.host := (rfl)
@[simp] theorem State.setCore_fns : (s.setCore c k).fns = s.fns := (rfl)
@[simp] theorem State.setCore_msix : (s.setCore c k).msix = s.msix := (rfl)
@[simp] theorem State.setCore_alerts : (s.setCore c k).alerts = s.alerts := (rfl)
@[simp] theorem State.setCore_ctxs : (s.setCore c k).ctxs = s.ctxs := (rfl)
@[simp] theorem State.setCore_parts : (s.setCore c k).parts = s.parts := (rfl)
@[simp] theorem State.setCore_dram : (s.setCore c k).dram = s.dram := (rfl)
@[simp] theorem State.setCore_buf : (s.setCore c k).buf = s.buf := (rfl)
@[simp] theorem State.setCore_poisoned : (s.setCore c k).poisoned = s.poisoned := (rfl)
@[simp] theorem State.setCore_rows : (s.setCore c k).rows = s.rows := (rfl)
@[simp] theorem State.setCore_spares : (s.setCore c k).spares = s.spares := (rfl)
@[simp] theorem State.setCore_repairLog : (s.setCore c k).repairLog = s.repairLog := (rfl)
@[simp] theorem State.setCore_retired : (s.setCore c k).retired = s.retired := (rfl)
@[simp] theorem State.setCore_chanOut : (s.setCore c k).chanOut = s.chanOut := (rfl)
@[simp] theorem State.setCore_dead : (s.setCore c k).dead = s.dead := (rfl)
@[simp] theorem State.setCore_tlbCore : (s.setCore c k).tlbCore = s.tlbCore := (rfl)
@[simp] theorem State.setCore_tlbDie : (s.setCore c k).tlbDie = s.tlbDie := (rfl)
@[simp] theorem State.setCore_tlbHost : (s.setCore c k).tlbHost = s.tlbHost := (rfl)
@[simp] theorem State.setCore_inval : (s.setCore c k).inval = s.inval := (rfl)
@[simp] theorem State.setCore_flushing : (s.setCore c k).flushing = s.flushing := (rfl)
@[simp] theorem State.setCore_hostAbsent : (s.setCore c k).hostAbsent = s.hostAbsent := (rfl)
@[simp] theorem State.setCore_atc : (s.setCore c k).atc = s.atc := (rfl)
@[simp] theorem State.setCore_atsChanged : (s.setCore c k).atsChanged = s.atsChanged := (rfl)
@[simp] theorem State.setCore_pageReqs : (s.setCore c k).pageReqs = s.pageReqs := (rfl)
@[simp] theorem State.setCore_watch : (s.setCore c k).watch = s.watch := (rfl)
@[simp] theorem State.setCore_spec : (s.setCore c k).spec = s.spec := (rfl)
@[simp] theorem State.setCore_ports : (s.setCore c k).ports = s.ports := (rfl)
@[simp] theorem State.setCore_dims : (s.setCore c k).dims = s.dims := (rfl)
@[simp] theorem State.setCore_outReq : (s.setCore c k).outReq = s.outReq := (rfl)
@[simp] theorem State.setCore_transit : (s.setCore c k).transit = s.transit := (rfl)
@[simp] theorem State.setCore_inbox : (s.setCore c k).inbox = s.inbox := (rfl)
@[simp] theorem State.setCore_noRoutes : (s.setCore c k).noRoutes = s.noRoutes := (rfl)
@[simp] theorem State.setCore_kicks : (s.setCore c k).kicks = s.kicks := (rfl)
@[simp] theorem State.setCore_lineReqs : (s.setCore c k).lineReqs = s.lineReqs := (rfl)
@[simp] theorem State.setCore_ovhRem : (s.setCore c k).ovhRem = s.ovhRem := (rfl)
@[simp] theorem State.setCore_reply : (s.setCore c k).reply = s.reply := (rfl)
@[simp] theorem State.setCore_syncGood : (s.setCore c k).syncGood = s.syncGood := (rfl)
@[simp] theorem State.setCore_rels : (s.setCore c k).rels = s.rels := (rfl)
@[simp] theorem State.setCore_areas : (s.setCore c k).areas = s.areas := (rfl)
@[simp] theorem State.setCore_lastSlot : (s.setCore c k).lastSlot = s.lastSlot := (rfl)
@[simp] theorem State.setCore_flash : (s.setCore c k).flash = s.flash := (rfl)
@[simp] theorem State.setCore_nvme : (s.setCore c k).nvme = s.nvme := (rfl)
@[simp] theorem State.setCore_posted : (s.setCore c k).posted = s.posted := (rfl)
@[simp] theorem State.setCore_heldReads : (s.setCore c k).heldReads = s.heldReads := (rfl)
@[simp] theorem State.setCore_csetOrder : (s.setCore c k).csetOrder = s.csetOrder := (rfl)
@[simp] theorem State.setCore_pcie : (s.setCore c k).pcie = s.pcie := (rfl)
@[simp] theorem State.setCore_refLost : (s.setCore c k).refLost = s.refLost := (rfl)
@[simp] theorem State.setCore_hangs : (s.setCore c k).hangs = s.hangs := (rfl)
@[simp] theorem State.setCore_progress : (s.setCore c k).progress = s.progress := (rfl)
@[simp] theorem State.setCore_esc : (s.setCore c k).esc = s.esc := (rfl)
@[simp] theorem State.setCore_photoRun : (s.setCore c k).photoRun = s.photoRun := (rfl)
@[simp] theorem State.setCore_resetDue : (s.setCore c k).resetDue = s.resetDue := (rfl)
@[simp] theorem State.setCore_photo : (s.setCore c k).photo = s.photo := (rfl)
@[simp] theorem State.setCore_photoSector : (s.setCore c k).photoSector = s.photoSector := (rfl)
@[simp] theorem State.setCore_psc : (s.setCore c k).psc = s.psc := (rfl)
@[simp] theorem State.setCore_recA : (s.setCore c k).recA = s.recA := (rfl)
@[simp] theorem State.setCore_recB : (s.setCore c k).recB = s.recB := (rfl)
@[simp] theorem State.setCore_curB : (s.setCore c k).curB = s.curB := (rfl)
@[simp] theorem State.setCore_start : (s.setCore c k).start = s.start := (rfl)
@[simp] theorem State.setCore_fuses : (s.setCore c k).fuses = s.fuses := (rfl)
@[simp] theorem State.setCore_activation : (s.setCore c k).activation = s.activation := (rfl)
@[simp] theorem State.setCore_crown : (s.setCore c k).crown = s.crown := (rfl)
@[simp] theorem State.setCore_activeImage : (s.setCore c k).activeImage = s.activeImage := (rfl)
@[simp] theorem State.setCore_stageBank : (s.setCore c k).stageBank = s.stageBank := (rfl)
@[simp] theorem State.setCore_stgBuf : (s.setCore c k).stgBuf = s.stgBuf := (rfl)
@[simp] theorem State.setCore_stgAt : (s.setCore c k).stgAt = s.stgAt := (rfl)
@[simp] theorem State.setCore_gnt : (s.setCore c k).gnt = s.gnt := (rfl)
@[simp] theorem State.setCore_retrainDue : (s.setCore c k).retrainDue = s.retrainDue := (rfl)
@[simp] theorem State.setCore_pins : (s.setCore c k).pins = s.pins := (rfl)
@[simp] theorem State.setCore_smbPtr : (s.setCore c k).smbPtr = s.smbPtr := (rfl)
@[simp] theorem State.setCore_smbRefused : (s.setCore c k).smbRefused = s.smbRefused := (rfl)
@[simp] theorem State.setCore_glbCopy : (s.setCore c k).glbCopy = s.glbCopy := (rfl)
end

/-! ### State.modCore: changes `cores` -/

section
variable (s : State) (c : CoreId) (f : Core → Core)
@[simp] theorem State.modCore_pending : (s.modCore c f).pending = s.pending := (rfl)
@[simp] theorem State.modCore_regs : (s.modCore c f).regs = s.regs := (rfl)
@[simp] theorem State.modCore_shadow : (s.modCore c f).shadow = s.shadow := (rfl)
@[simp] theorem State.modCore_ptb : (s.modCore c f).ptb = s.ptb := (rfl)
@[simp] theorem State.modCore_free : (s.modCore c f).free = s.free := (rfl)
@[simp] theorem State.modCore_cores : (s.modCore c f).cores = vset s.cores c (f (s.core c)) := (rfl)
@[simp] theorem State.modCore_hurdles : (s.modCore c f).hurdles = s.hurdles := (rfl)
@[simp] theorem State.modCore_arrivals : (s.modCore c f).arrivals = s.arrivals := (rfl)
@[simp] theorem State.modCore_host : (s.modCore c f).host = s.host := (rfl)
@[simp] theorem State.modCore_fns : (s.modCore c f).fns = s.fns := (rfl)
@[simp] theorem State.modCore_msix : (s.modCore c f).msix = s.msix := (rfl)
@[simp] theorem State.modCore_alerts : (s.modCore c f).alerts = s.alerts := (rfl)
@[simp] theorem State.modCore_ctxs : (s.modCore c f).ctxs = s.ctxs := (rfl)
@[simp] theorem State.modCore_parts : (s.modCore c f).parts = s.parts := (rfl)
@[simp] theorem State.modCore_dram : (s.modCore c f).dram = s.dram := (rfl)
@[simp] theorem State.modCore_buf : (s.modCore c f).buf = s.buf := (rfl)
@[simp] theorem State.modCore_poisoned : (s.modCore c f).poisoned = s.poisoned := (rfl)
@[simp] theorem State.modCore_rows : (s.modCore c f).rows = s.rows := (rfl)
@[simp] theorem State.modCore_spares : (s.modCore c f).spares = s.spares := (rfl)
@[simp] theorem State.modCore_repairLog : (s.modCore c f).repairLog = s.repairLog := (rfl)
@[simp] theorem State.modCore_retired : (s.modCore c f).retired = s.retired := (rfl)
@[simp] theorem State.modCore_chanOut : (s.modCore c f).chanOut = s.chanOut := (rfl)
@[simp] theorem State.modCore_dead : (s.modCore c f).dead = s.dead := (rfl)
@[simp] theorem State.modCore_tlbCore : (s.modCore c f).tlbCore = s.tlbCore := (rfl)
@[simp] theorem State.modCore_tlbDie : (s.modCore c f).tlbDie = s.tlbDie := (rfl)
@[simp] theorem State.modCore_tlbHost : (s.modCore c f).tlbHost = s.tlbHost := (rfl)
@[simp] theorem State.modCore_inval : (s.modCore c f).inval = s.inval := (rfl)
@[simp] theorem State.modCore_flushing : (s.modCore c f).flushing = s.flushing := (rfl)
@[simp] theorem State.modCore_hostAbsent : (s.modCore c f).hostAbsent = s.hostAbsent := (rfl)
@[simp] theorem State.modCore_atc : (s.modCore c f).atc = s.atc := (rfl)
@[simp] theorem State.modCore_atsChanged : (s.modCore c f).atsChanged = s.atsChanged := (rfl)
@[simp] theorem State.modCore_pageReqs : (s.modCore c f).pageReqs = s.pageReqs := (rfl)
@[simp] theorem State.modCore_watch : (s.modCore c f).watch = s.watch := (rfl)
@[simp] theorem State.modCore_spec : (s.modCore c f).spec = s.spec := (rfl)
@[simp] theorem State.modCore_ports : (s.modCore c f).ports = s.ports := (rfl)
@[simp] theorem State.modCore_dims : (s.modCore c f).dims = s.dims := (rfl)
@[simp] theorem State.modCore_outReq : (s.modCore c f).outReq = s.outReq := (rfl)
@[simp] theorem State.modCore_transit : (s.modCore c f).transit = s.transit := (rfl)
@[simp] theorem State.modCore_inbox : (s.modCore c f).inbox = s.inbox := (rfl)
@[simp] theorem State.modCore_noRoutes : (s.modCore c f).noRoutes = s.noRoutes := (rfl)
@[simp] theorem State.modCore_kicks : (s.modCore c f).kicks = s.kicks := (rfl)
@[simp] theorem State.modCore_lineReqs : (s.modCore c f).lineReqs = s.lineReqs := (rfl)
@[simp] theorem State.modCore_ovhRem : (s.modCore c f).ovhRem = s.ovhRem := (rfl)
@[simp] theorem State.modCore_reply : (s.modCore c f).reply = s.reply := (rfl)
@[simp] theorem State.modCore_syncGood : (s.modCore c f).syncGood = s.syncGood := (rfl)
@[simp] theorem State.modCore_rels : (s.modCore c f).rels = s.rels := (rfl)
@[simp] theorem State.modCore_areas : (s.modCore c f).areas = s.areas := (rfl)
@[simp] theorem State.modCore_lastSlot : (s.modCore c f).lastSlot = s.lastSlot := (rfl)
@[simp] theorem State.modCore_flash : (s.modCore c f).flash = s.flash := (rfl)
@[simp] theorem State.modCore_nvme : (s.modCore c f).nvme = s.nvme := (rfl)
@[simp] theorem State.modCore_posted : (s.modCore c f).posted = s.posted := (rfl)
@[simp] theorem State.modCore_heldReads : (s.modCore c f).heldReads = s.heldReads := (rfl)
@[simp] theorem State.modCore_csetOrder : (s.modCore c f).csetOrder = s.csetOrder := (rfl)
@[simp] theorem State.modCore_pcie : (s.modCore c f).pcie = s.pcie := (rfl)
@[simp] theorem State.modCore_refLost : (s.modCore c f).refLost = s.refLost := (rfl)
@[simp] theorem State.modCore_hangs : (s.modCore c f).hangs = s.hangs := (rfl)
@[simp] theorem State.modCore_progress : (s.modCore c f).progress = s.progress := (rfl)
@[simp] theorem State.modCore_esc : (s.modCore c f).esc = s.esc := (rfl)
@[simp] theorem State.modCore_photoRun : (s.modCore c f).photoRun = s.photoRun := (rfl)
@[simp] theorem State.modCore_resetDue : (s.modCore c f).resetDue = s.resetDue := (rfl)
@[simp] theorem State.modCore_photo : (s.modCore c f).photo = s.photo := (rfl)
@[simp] theorem State.modCore_photoSector : (s.modCore c f).photoSector = s.photoSector := (rfl)
@[simp] theorem State.modCore_psc : (s.modCore c f).psc = s.psc := (rfl)
@[simp] theorem State.modCore_recA : (s.modCore c f).recA = s.recA := (rfl)
@[simp] theorem State.modCore_recB : (s.modCore c f).recB = s.recB := (rfl)
@[simp] theorem State.modCore_curB : (s.modCore c f).curB = s.curB := (rfl)
@[simp] theorem State.modCore_start : (s.modCore c f).start = s.start := (rfl)
@[simp] theorem State.modCore_fuses : (s.modCore c f).fuses = s.fuses := (rfl)
@[simp] theorem State.modCore_activation : (s.modCore c f).activation = s.activation := (rfl)
@[simp] theorem State.modCore_crown : (s.modCore c f).crown = s.crown := (rfl)
@[simp] theorem State.modCore_activeImage : (s.modCore c f).activeImage = s.activeImage := (rfl)
@[simp] theorem State.modCore_stageBank : (s.modCore c f).stageBank = s.stageBank := (rfl)
@[simp] theorem State.modCore_stgBuf : (s.modCore c f).stgBuf = s.stgBuf := (rfl)
@[simp] theorem State.modCore_stgAt : (s.modCore c f).stgAt = s.stgAt := (rfl)
@[simp] theorem State.modCore_gnt : (s.modCore c f).gnt = s.gnt := (rfl)
@[simp] theorem State.modCore_retrainDue : (s.modCore c f).retrainDue = s.retrainDue := (rfl)
@[simp] theorem State.modCore_pins : (s.modCore c f).pins = s.pins := (rfl)
@[simp] theorem State.modCore_smbPtr : (s.modCore c f).smbPtr = s.smbPtr := (rfl)
@[simp] theorem State.modCore_smbRefused : (s.modCore c f).smbRefused = s.smbRefused := (rfl)
@[simp] theorem State.modCore_glbCopy : (s.modCore c f).glbCopy = s.glbCopy := (rfl)
end

/-! ### State.setSeq: changes `cores` -/

section
variable (s : State) (c : CoreId) (q : SeqId) (z : Seq)
@[simp] theorem State.setSeq_pending : (s.setSeq c q z).pending = s.pending := (rfl)
@[simp] theorem State.setSeq_regs : (s.setSeq c q z).regs = s.regs := (rfl)
@[simp] theorem State.setSeq_shadow : (s.setSeq c q z).shadow = s.shadow := (rfl)
@[simp] theorem State.setSeq_ptb : (s.setSeq c q z).ptb = s.ptb := (rfl)
@[simp] theorem State.setSeq_free : (s.setSeq c q z).free = s.free := (rfl)
@[simp] theorem State.setSeq_cores : (s.setSeq c q z).cores = vset s.cores c ((s.core c).setSeq q z) := (rfl)
@[simp] theorem State.setSeq_hurdles : (s.setSeq c q z).hurdles = s.hurdles := (rfl)
@[simp] theorem State.setSeq_arrivals : (s.setSeq c q z).arrivals = s.arrivals := (rfl)
@[simp] theorem State.setSeq_host : (s.setSeq c q z).host = s.host := (rfl)
@[simp] theorem State.setSeq_fns : (s.setSeq c q z).fns = s.fns := (rfl)
@[simp] theorem State.setSeq_msix : (s.setSeq c q z).msix = s.msix := (rfl)
@[simp] theorem State.setSeq_alerts : (s.setSeq c q z).alerts = s.alerts := (rfl)
@[simp] theorem State.setSeq_ctxs : (s.setSeq c q z).ctxs = s.ctxs := (rfl)
@[simp] theorem State.setSeq_parts : (s.setSeq c q z).parts = s.parts := (rfl)
@[simp] theorem State.setSeq_dram : (s.setSeq c q z).dram = s.dram := (rfl)
@[simp] theorem State.setSeq_buf : (s.setSeq c q z).buf = s.buf := (rfl)
@[simp] theorem State.setSeq_poisoned : (s.setSeq c q z).poisoned = s.poisoned := (rfl)
@[simp] theorem State.setSeq_rows : (s.setSeq c q z).rows = s.rows := (rfl)
@[simp] theorem State.setSeq_spares : (s.setSeq c q z).spares = s.spares := (rfl)
@[simp] theorem State.setSeq_repairLog : (s.setSeq c q z).repairLog = s.repairLog := (rfl)
@[simp] theorem State.setSeq_retired : (s.setSeq c q z).retired = s.retired := (rfl)
@[simp] theorem State.setSeq_chanOut : (s.setSeq c q z).chanOut = s.chanOut := (rfl)
@[simp] theorem State.setSeq_dead : (s.setSeq c q z).dead = s.dead := (rfl)
@[simp] theorem State.setSeq_tlbCore : (s.setSeq c q z).tlbCore = s.tlbCore := (rfl)
@[simp] theorem State.setSeq_tlbDie : (s.setSeq c q z).tlbDie = s.tlbDie := (rfl)
@[simp] theorem State.setSeq_tlbHost : (s.setSeq c q z).tlbHost = s.tlbHost := (rfl)
@[simp] theorem State.setSeq_inval : (s.setSeq c q z).inval = s.inval := (rfl)
@[simp] theorem State.setSeq_flushing : (s.setSeq c q z).flushing = s.flushing := (rfl)
@[simp] theorem State.setSeq_hostAbsent : (s.setSeq c q z).hostAbsent = s.hostAbsent := (rfl)
@[simp] theorem State.setSeq_atc : (s.setSeq c q z).atc = s.atc := (rfl)
@[simp] theorem State.setSeq_atsChanged : (s.setSeq c q z).atsChanged = s.atsChanged := (rfl)
@[simp] theorem State.setSeq_pageReqs : (s.setSeq c q z).pageReqs = s.pageReqs := (rfl)
@[simp] theorem State.setSeq_watch : (s.setSeq c q z).watch = s.watch := (rfl)
@[simp] theorem State.setSeq_spec : (s.setSeq c q z).spec = s.spec := (rfl)
@[simp] theorem State.setSeq_ports : (s.setSeq c q z).ports = s.ports := (rfl)
@[simp] theorem State.setSeq_dims : (s.setSeq c q z).dims = s.dims := (rfl)
@[simp] theorem State.setSeq_outReq : (s.setSeq c q z).outReq = s.outReq := (rfl)
@[simp] theorem State.setSeq_transit : (s.setSeq c q z).transit = s.transit := (rfl)
@[simp] theorem State.setSeq_inbox : (s.setSeq c q z).inbox = s.inbox := (rfl)
@[simp] theorem State.setSeq_noRoutes : (s.setSeq c q z).noRoutes = s.noRoutes := (rfl)
@[simp] theorem State.setSeq_kicks : (s.setSeq c q z).kicks = s.kicks := (rfl)
@[simp] theorem State.setSeq_lineReqs : (s.setSeq c q z).lineReqs = s.lineReqs := (rfl)
@[simp] theorem State.setSeq_ovhRem : (s.setSeq c q z).ovhRem = s.ovhRem := (rfl)
@[simp] theorem State.setSeq_reply : (s.setSeq c q z).reply = s.reply := (rfl)
@[simp] theorem State.setSeq_syncGood : (s.setSeq c q z).syncGood = s.syncGood := (rfl)
@[simp] theorem State.setSeq_rels : (s.setSeq c q z).rels = s.rels := (rfl)
@[simp] theorem State.setSeq_areas : (s.setSeq c q z).areas = s.areas := (rfl)
@[simp] theorem State.setSeq_lastSlot : (s.setSeq c q z).lastSlot = s.lastSlot := (rfl)
@[simp] theorem State.setSeq_flash : (s.setSeq c q z).flash = s.flash := (rfl)
@[simp] theorem State.setSeq_nvme : (s.setSeq c q z).nvme = s.nvme := (rfl)
@[simp] theorem State.setSeq_posted : (s.setSeq c q z).posted = s.posted := (rfl)
@[simp] theorem State.setSeq_heldReads : (s.setSeq c q z).heldReads = s.heldReads := (rfl)
@[simp] theorem State.setSeq_csetOrder : (s.setSeq c q z).csetOrder = s.csetOrder := (rfl)
@[simp] theorem State.setSeq_pcie : (s.setSeq c q z).pcie = s.pcie := (rfl)
@[simp] theorem State.setSeq_refLost : (s.setSeq c q z).refLost = s.refLost := (rfl)
@[simp] theorem State.setSeq_hangs : (s.setSeq c q z).hangs = s.hangs := (rfl)
@[simp] theorem State.setSeq_progress : (s.setSeq c q z).progress = s.progress := (rfl)
@[simp] theorem State.setSeq_esc : (s.setSeq c q z).esc = s.esc := (rfl)
@[simp] theorem State.setSeq_photoRun : (s.setSeq c q z).photoRun = s.photoRun := (rfl)
@[simp] theorem State.setSeq_resetDue : (s.setSeq c q z).resetDue = s.resetDue := (rfl)
@[simp] theorem State.setSeq_photo : (s.setSeq c q z).photo = s.photo := (rfl)
@[simp] theorem State.setSeq_photoSector : (s.setSeq c q z).photoSector = s.photoSector := (rfl)
@[simp] theorem State.setSeq_psc : (s.setSeq c q z).psc = s.psc := (rfl)
@[simp] theorem State.setSeq_recA : (s.setSeq c q z).recA = s.recA := (rfl)
@[simp] theorem State.setSeq_recB : (s.setSeq c q z).recB = s.recB := (rfl)
@[simp] theorem State.setSeq_curB : (s.setSeq c q z).curB = s.curB := (rfl)
@[simp] theorem State.setSeq_start : (s.setSeq c q z).start = s.start := (rfl)
@[simp] theorem State.setSeq_fuses : (s.setSeq c q z).fuses = s.fuses := (rfl)
@[simp] theorem State.setSeq_activation : (s.setSeq c q z).activation = s.activation := (rfl)
@[simp] theorem State.setSeq_crown : (s.setSeq c q z).crown = s.crown := (rfl)
@[simp] theorem State.setSeq_activeImage : (s.setSeq c q z).activeImage = s.activeImage := (rfl)
@[simp] theorem State.setSeq_stageBank : (s.setSeq c q z).stageBank = s.stageBank := (rfl)
@[simp] theorem State.setSeq_stgBuf : (s.setSeq c q z).stgBuf = s.stgBuf := (rfl)
@[simp] theorem State.setSeq_stgAt : (s.setSeq c q z).stgAt = s.stgAt := (rfl)
@[simp] theorem State.setSeq_gnt : (s.setSeq c q z).gnt = s.gnt := (rfl)
@[simp] theorem State.setSeq_retrainDue : (s.setSeq c q z).retrainDue = s.retrainDue := (rfl)
@[simp] theorem State.setSeq_pins : (s.setSeq c q z).pins = s.pins := (rfl)
@[simp] theorem State.setSeq_smbPtr : (s.setSeq c q z).smbPtr = s.smbPtr := (rfl)
@[simp] theorem State.setSeq_smbRefused : (s.setSeq c q z).smbRefused = s.smbRefused := (rfl)
@[simp] theorem State.setSeq_glbCopy : (s.setSeq c q z).glbCopy = s.glbCopy := (rfl)
end

/-! ### State.modSeq: changes `cores` -/

section
variable (s : State) (c : CoreId) (q : SeqId) (f : Seq → Seq)
@[simp] theorem State.modSeq_pending : (s.modSeq c q f).pending = s.pending := (rfl)
@[simp] theorem State.modSeq_regs : (s.modSeq c q f).regs = s.regs := (rfl)
@[simp] theorem State.modSeq_shadow : (s.modSeq c q f).shadow = s.shadow := (rfl)
@[simp] theorem State.modSeq_ptb : (s.modSeq c q f).ptb = s.ptb := (rfl)
@[simp] theorem State.modSeq_free : (s.modSeq c q f).free = s.free := (rfl)
@[simp] theorem State.modSeq_cores : (s.modSeq c q f).cores = vset s.cores c ((s.core c).setSeq q (f (s.seq c q))) := (rfl)
@[simp] theorem State.modSeq_hurdles : (s.modSeq c q f).hurdles = s.hurdles := (rfl)
@[simp] theorem State.modSeq_arrivals : (s.modSeq c q f).arrivals = s.arrivals := (rfl)
@[simp] theorem State.modSeq_host : (s.modSeq c q f).host = s.host := (rfl)
@[simp] theorem State.modSeq_fns : (s.modSeq c q f).fns = s.fns := (rfl)
@[simp] theorem State.modSeq_msix : (s.modSeq c q f).msix = s.msix := (rfl)
@[simp] theorem State.modSeq_alerts : (s.modSeq c q f).alerts = s.alerts := (rfl)
@[simp] theorem State.modSeq_ctxs : (s.modSeq c q f).ctxs = s.ctxs := (rfl)
@[simp] theorem State.modSeq_parts : (s.modSeq c q f).parts = s.parts := (rfl)
@[simp] theorem State.modSeq_dram : (s.modSeq c q f).dram = s.dram := (rfl)
@[simp] theorem State.modSeq_buf : (s.modSeq c q f).buf = s.buf := (rfl)
@[simp] theorem State.modSeq_poisoned : (s.modSeq c q f).poisoned = s.poisoned := (rfl)
@[simp] theorem State.modSeq_rows : (s.modSeq c q f).rows = s.rows := (rfl)
@[simp] theorem State.modSeq_spares : (s.modSeq c q f).spares = s.spares := (rfl)
@[simp] theorem State.modSeq_repairLog : (s.modSeq c q f).repairLog = s.repairLog := (rfl)
@[simp] theorem State.modSeq_retired : (s.modSeq c q f).retired = s.retired := (rfl)
@[simp] theorem State.modSeq_chanOut : (s.modSeq c q f).chanOut = s.chanOut := (rfl)
@[simp] theorem State.modSeq_dead : (s.modSeq c q f).dead = s.dead := (rfl)
@[simp] theorem State.modSeq_tlbCore : (s.modSeq c q f).tlbCore = s.tlbCore := (rfl)
@[simp] theorem State.modSeq_tlbDie : (s.modSeq c q f).tlbDie = s.tlbDie := (rfl)
@[simp] theorem State.modSeq_tlbHost : (s.modSeq c q f).tlbHost = s.tlbHost := (rfl)
@[simp] theorem State.modSeq_inval : (s.modSeq c q f).inval = s.inval := (rfl)
@[simp] theorem State.modSeq_flushing : (s.modSeq c q f).flushing = s.flushing := (rfl)
@[simp] theorem State.modSeq_hostAbsent : (s.modSeq c q f).hostAbsent = s.hostAbsent := (rfl)
@[simp] theorem State.modSeq_atc : (s.modSeq c q f).atc = s.atc := (rfl)
@[simp] theorem State.modSeq_atsChanged : (s.modSeq c q f).atsChanged = s.atsChanged := (rfl)
@[simp] theorem State.modSeq_pageReqs : (s.modSeq c q f).pageReqs = s.pageReqs := (rfl)
@[simp] theorem State.modSeq_watch : (s.modSeq c q f).watch = s.watch := (rfl)
@[simp] theorem State.modSeq_spec : (s.modSeq c q f).spec = s.spec := (rfl)
@[simp] theorem State.modSeq_ports : (s.modSeq c q f).ports = s.ports := (rfl)
@[simp] theorem State.modSeq_dims : (s.modSeq c q f).dims = s.dims := (rfl)
@[simp] theorem State.modSeq_outReq : (s.modSeq c q f).outReq = s.outReq := (rfl)
@[simp] theorem State.modSeq_transit : (s.modSeq c q f).transit = s.transit := (rfl)
@[simp] theorem State.modSeq_inbox : (s.modSeq c q f).inbox = s.inbox := (rfl)
@[simp] theorem State.modSeq_noRoutes : (s.modSeq c q f).noRoutes = s.noRoutes := (rfl)
@[simp] theorem State.modSeq_kicks : (s.modSeq c q f).kicks = s.kicks := (rfl)
@[simp] theorem State.modSeq_lineReqs : (s.modSeq c q f).lineReqs = s.lineReqs := (rfl)
@[simp] theorem State.modSeq_ovhRem : (s.modSeq c q f).ovhRem = s.ovhRem := (rfl)
@[simp] theorem State.modSeq_reply : (s.modSeq c q f).reply = s.reply := (rfl)
@[simp] theorem State.modSeq_syncGood : (s.modSeq c q f).syncGood = s.syncGood := (rfl)
@[simp] theorem State.modSeq_rels : (s.modSeq c q f).rels = s.rels := (rfl)
@[simp] theorem State.modSeq_areas : (s.modSeq c q f).areas = s.areas := (rfl)
@[simp] theorem State.modSeq_lastSlot : (s.modSeq c q f).lastSlot = s.lastSlot := (rfl)
@[simp] theorem State.modSeq_flash : (s.modSeq c q f).flash = s.flash := (rfl)
@[simp] theorem State.modSeq_nvme : (s.modSeq c q f).nvme = s.nvme := (rfl)
@[simp] theorem State.modSeq_posted : (s.modSeq c q f).posted = s.posted := (rfl)
@[simp] theorem State.modSeq_heldReads : (s.modSeq c q f).heldReads = s.heldReads := (rfl)
@[simp] theorem State.modSeq_csetOrder : (s.modSeq c q f).csetOrder = s.csetOrder := (rfl)
@[simp] theorem State.modSeq_pcie : (s.modSeq c q f).pcie = s.pcie := (rfl)
@[simp] theorem State.modSeq_refLost : (s.modSeq c q f).refLost = s.refLost := (rfl)
@[simp] theorem State.modSeq_hangs : (s.modSeq c q f).hangs = s.hangs := (rfl)
@[simp] theorem State.modSeq_progress : (s.modSeq c q f).progress = s.progress := (rfl)
@[simp] theorem State.modSeq_esc : (s.modSeq c q f).esc = s.esc := (rfl)
@[simp] theorem State.modSeq_photoRun : (s.modSeq c q f).photoRun = s.photoRun := (rfl)
@[simp] theorem State.modSeq_resetDue : (s.modSeq c q f).resetDue = s.resetDue := (rfl)
@[simp] theorem State.modSeq_photo : (s.modSeq c q f).photo = s.photo := (rfl)
@[simp] theorem State.modSeq_photoSector : (s.modSeq c q f).photoSector = s.photoSector := (rfl)
@[simp] theorem State.modSeq_psc : (s.modSeq c q f).psc = s.psc := (rfl)
@[simp] theorem State.modSeq_recA : (s.modSeq c q f).recA = s.recA := (rfl)
@[simp] theorem State.modSeq_recB : (s.modSeq c q f).recB = s.recB := (rfl)
@[simp] theorem State.modSeq_curB : (s.modSeq c q f).curB = s.curB := (rfl)
@[simp] theorem State.modSeq_start : (s.modSeq c q f).start = s.start := (rfl)
@[simp] theorem State.modSeq_fuses : (s.modSeq c q f).fuses = s.fuses := (rfl)
@[simp] theorem State.modSeq_activation : (s.modSeq c q f).activation = s.activation := (rfl)
@[simp] theorem State.modSeq_crown : (s.modSeq c q f).crown = s.crown := (rfl)
@[simp] theorem State.modSeq_activeImage : (s.modSeq c q f).activeImage = s.activeImage := (rfl)
@[simp] theorem State.modSeq_stageBank : (s.modSeq c q f).stageBank = s.stageBank := (rfl)
@[simp] theorem State.modSeq_stgBuf : (s.modSeq c q f).stgBuf = s.stgBuf := (rfl)
@[simp] theorem State.modSeq_stgAt : (s.modSeq c q f).stgAt = s.stgAt := (rfl)
@[simp] theorem State.modSeq_gnt : (s.modSeq c q f).gnt = s.gnt := (rfl)
@[simp] theorem State.modSeq_retrainDue : (s.modSeq c q f).retrainDue = s.retrainDue := (rfl)
@[simp] theorem State.modSeq_pins : (s.modSeq c q f).pins = s.pins := (rfl)
@[simp] theorem State.modSeq_smbPtr : (s.modSeq c q f).smbPtr = s.smbPtr := (rfl)
@[simp] theorem State.modSeq_smbRefused : (s.modSeq c q f).smbRefused = s.smbRefused := (rfl)
@[simp] theorem State.modSeq_glbCopy : (s.modSeq c q f).glbCopy = s.glbCopy := (rfl)
end

/-! ### State.modWin: changes `cores` -/

section
variable (s : State) (c : CoreId) (w : Fin 2) (f : Win → Win)
@[simp] theorem State.modWin_pending : (s.modWin c w f).pending = s.pending := (rfl)
@[simp] theorem State.modWin_regs : (s.modWin c w f).regs = s.regs := (rfl)
@[simp] theorem State.modWin_shadow : (s.modWin c w f).shadow = s.shadow := (rfl)
@[simp] theorem State.modWin_ptb : (s.modWin c w f).ptb = s.ptb := (rfl)
@[simp] theorem State.modWin_free : (s.modWin c w f).free = s.free := (rfl)
@[simp] theorem State.modWin_cores : (s.modWin c w f).cores = vset s.cores c { s.core c with wins := vmod (s.core c).wins w f } := (rfl)
@[simp] theorem State.modWin_hurdles : (s.modWin c w f).hurdles = s.hurdles := (rfl)
@[simp] theorem State.modWin_arrivals : (s.modWin c w f).arrivals = s.arrivals := (rfl)
@[simp] theorem State.modWin_host : (s.modWin c w f).host = s.host := (rfl)
@[simp] theorem State.modWin_fns : (s.modWin c w f).fns = s.fns := (rfl)
@[simp] theorem State.modWin_msix : (s.modWin c w f).msix = s.msix := (rfl)
@[simp] theorem State.modWin_alerts : (s.modWin c w f).alerts = s.alerts := (rfl)
@[simp] theorem State.modWin_ctxs : (s.modWin c w f).ctxs = s.ctxs := (rfl)
@[simp] theorem State.modWin_parts : (s.modWin c w f).parts = s.parts := (rfl)
@[simp] theorem State.modWin_dram : (s.modWin c w f).dram = s.dram := (rfl)
@[simp] theorem State.modWin_buf : (s.modWin c w f).buf = s.buf := (rfl)
@[simp] theorem State.modWin_poisoned : (s.modWin c w f).poisoned = s.poisoned := (rfl)
@[simp] theorem State.modWin_rows : (s.modWin c w f).rows = s.rows := (rfl)
@[simp] theorem State.modWin_spares : (s.modWin c w f).spares = s.spares := (rfl)
@[simp] theorem State.modWin_repairLog : (s.modWin c w f).repairLog = s.repairLog := (rfl)
@[simp] theorem State.modWin_retired : (s.modWin c w f).retired = s.retired := (rfl)
@[simp] theorem State.modWin_chanOut : (s.modWin c w f).chanOut = s.chanOut := (rfl)
@[simp] theorem State.modWin_dead : (s.modWin c w f).dead = s.dead := (rfl)
@[simp] theorem State.modWin_tlbCore : (s.modWin c w f).tlbCore = s.tlbCore := (rfl)
@[simp] theorem State.modWin_tlbDie : (s.modWin c w f).tlbDie = s.tlbDie := (rfl)
@[simp] theorem State.modWin_tlbHost : (s.modWin c w f).tlbHost = s.tlbHost := (rfl)
@[simp] theorem State.modWin_inval : (s.modWin c w f).inval = s.inval := (rfl)
@[simp] theorem State.modWin_flushing : (s.modWin c w f).flushing = s.flushing := (rfl)
@[simp] theorem State.modWin_hostAbsent : (s.modWin c w f).hostAbsent = s.hostAbsent := (rfl)
@[simp] theorem State.modWin_atc : (s.modWin c w f).atc = s.atc := (rfl)
@[simp] theorem State.modWin_atsChanged : (s.modWin c w f).atsChanged = s.atsChanged := (rfl)
@[simp] theorem State.modWin_pageReqs : (s.modWin c w f).pageReqs = s.pageReqs := (rfl)
@[simp] theorem State.modWin_watch : (s.modWin c w f).watch = s.watch := (rfl)
@[simp] theorem State.modWin_spec : (s.modWin c w f).spec = s.spec := (rfl)
@[simp] theorem State.modWin_ports : (s.modWin c w f).ports = s.ports := (rfl)
@[simp] theorem State.modWin_dims : (s.modWin c w f).dims = s.dims := (rfl)
@[simp] theorem State.modWin_outReq : (s.modWin c w f).outReq = s.outReq := (rfl)
@[simp] theorem State.modWin_transit : (s.modWin c w f).transit = s.transit := (rfl)
@[simp] theorem State.modWin_inbox : (s.modWin c w f).inbox = s.inbox := (rfl)
@[simp] theorem State.modWin_noRoutes : (s.modWin c w f).noRoutes = s.noRoutes := (rfl)
@[simp] theorem State.modWin_kicks : (s.modWin c w f).kicks = s.kicks := (rfl)
@[simp] theorem State.modWin_lineReqs : (s.modWin c w f).lineReqs = s.lineReqs := (rfl)
@[simp] theorem State.modWin_ovhRem : (s.modWin c w f).ovhRem = s.ovhRem := (rfl)
@[simp] theorem State.modWin_reply : (s.modWin c w f).reply = s.reply := (rfl)
@[simp] theorem State.modWin_syncGood : (s.modWin c w f).syncGood = s.syncGood := (rfl)
@[simp] theorem State.modWin_rels : (s.modWin c w f).rels = s.rels := (rfl)
@[simp] theorem State.modWin_areas : (s.modWin c w f).areas = s.areas := (rfl)
@[simp] theorem State.modWin_lastSlot : (s.modWin c w f).lastSlot = s.lastSlot := (rfl)
@[simp] theorem State.modWin_flash : (s.modWin c w f).flash = s.flash := (rfl)
@[simp] theorem State.modWin_nvme : (s.modWin c w f).nvme = s.nvme := (rfl)
@[simp] theorem State.modWin_posted : (s.modWin c w f).posted = s.posted := (rfl)
@[simp] theorem State.modWin_heldReads : (s.modWin c w f).heldReads = s.heldReads := (rfl)
@[simp] theorem State.modWin_csetOrder : (s.modWin c w f).csetOrder = s.csetOrder := (rfl)
@[simp] theorem State.modWin_pcie : (s.modWin c w f).pcie = s.pcie := (rfl)
@[simp] theorem State.modWin_refLost : (s.modWin c w f).refLost = s.refLost := (rfl)
@[simp] theorem State.modWin_hangs : (s.modWin c w f).hangs = s.hangs := (rfl)
@[simp] theorem State.modWin_progress : (s.modWin c w f).progress = s.progress := (rfl)
@[simp] theorem State.modWin_esc : (s.modWin c w f).esc = s.esc := (rfl)
@[simp] theorem State.modWin_photoRun : (s.modWin c w f).photoRun = s.photoRun := (rfl)
@[simp] theorem State.modWin_resetDue : (s.modWin c w f).resetDue = s.resetDue := (rfl)
@[simp] theorem State.modWin_photo : (s.modWin c w f).photo = s.photo := (rfl)
@[simp] theorem State.modWin_photoSector : (s.modWin c w f).photoSector = s.photoSector := (rfl)
@[simp] theorem State.modWin_psc : (s.modWin c w f).psc = s.psc := (rfl)
@[simp] theorem State.modWin_recA : (s.modWin c w f).recA = s.recA := (rfl)
@[simp] theorem State.modWin_recB : (s.modWin c w f).recB = s.recB := (rfl)
@[simp] theorem State.modWin_curB : (s.modWin c w f).curB = s.curB := (rfl)
@[simp] theorem State.modWin_start : (s.modWin c w f).start = s.start := (rfl)
@[simp] theorem State.modWin_fuses : (s.modWin c w f).fuses = s.fuses := (rfl)
@[simp] theorem State.modWin_activation : (s.modWin c w f).activation = s.activation := (rfl)
@[simp] theorem State.modWin_crown : (s.modWin c w f).crown = s.crown := (rfl)
@[simp] theorem State.modWin_activeImage : (s.modWin c w f).activeImage = s.activeImage := (rfl)
@[simp] theorem State.modWin_stageBank : (s.modWin c w f).stageBank = s.stageBank := (rfl)
@[simp] theorem State.modWin_stgBuf : (s.modWin c w f).stgBuf = s.stgBuf := (rfl)
@[simp] theorem State.modWin_stgAt : (s.modWin c w f).stgAt = s.stgAt := (rfl)
@[simp] theorem State.modWin_gnt : (s.modWin c w f).gnt = s.gnt := (rfl)
@[simp] theorem State.modWin_retrainDue : (s.modWin c w f).retrainDue = s.retrainDue := (rfl)
@[simp] theorem State.modWin_pins : (s.modWin c w f).pins = s.pins := (rfl)
@[simp] theorem State.modWin_smbPtr : (s.modWin c w f).smbPtr = s.smbPtr := (rfl)
@[simp] theorem State.modWin_smbRefused : (s.modWin c w f).smbRefused = s.smbRefused := (rfl)
@[simp] theorem State.modWin_glbCopy : (s.modWin c w f).glbCopy = s.glbCopy := (rfl)
end

/-! ### State.modArr: changes `cores` -/

section
variable (s : State) (c : CoreId) (f : Arr → Arr)
@[simp] theorem State.modArr_pending : (s.modArr c f).pending = s.pending := (rfl)
@[simp] theorem State.modArr_regs : (s.modArr c f).regs = s.regs := (rfl)
@[simp] theorem State.modArr_shadow : (s.modArr c f).shadow = s.shadow := (rfl)
@[simp] theorem State.modArr_ptb : (s.modArr c f).ptb = s.ptb := (rfl)
@[simp] theorem State.modArr_free : (s.modArr c f).free = s.free := (rfl)
@[simp] theorem State.modArr_cores : (s.modArr c f).cores = vset s.cores c { s.core c with arr := f (s.core c).arr } := (rfl)
@[simp] theorem State.modArr_hurdles : (s.modArr c f).hurdles = s.hurdles := (rfl)
@[simp] theorem State.modArr_arrivals : (s.modArr c f).arrivals = s.arrivals := (rfl)
@[simp] theorem State.modArr_host : (s.modArr c f).host = s.host := (rfl)
@[simp] theorem State.modArr_fns : (s.modArr c f).fns = s.fns := (rfl)
@[simp] theorem State.modArr_msix : (s.modArr c f).msix = s.msix := (rfl)
@[simp] theorem State.modArr_alerts : (s.modArr c f).alerts = s.alerts := (rfl)
@[simp] theorem State.modArr_ctxs : (s.modArr c f).ctxs = s.ctxs := (rfl)
@[simp] theorem State.modArr_parts : (s.modArr c f).parts = s.parts := (rfl)
@[simp] theorem State.modArr_dram : (s.modArr c f).dram = s.dram := (rfl)
@[simp] theorem State.modArr_buf : (s.modArr c f).buf = s.buf := (rfl)
@[simp] theorem State.modArr_poisoned : (s.modArr c f).poisoned = s.poisoned := (rfl)
@[simp] theorem State.modArr_rows : (s.modArr c f).rows = s.rows := (rfl)
@[simp] theorem State.modArr_spares : (s.modArr c f).spares = s.spares := (rfl)
@[simp] theorem State.modArr_repairLog : (s.modArr c f).repairLog = s.repairLog := (rfl)
@[simp] theorem State.modArr_retired : (s.modArr c f).retired = s.retired := (rfl)
@[simp] theorem State.modArr_chanOut : (s.modArr c f).chanOut = s.chanOut := (rfl)
@[simp] theorem State.modArr_dead : (s.modArr c f).dead = s.dead := (rfl)
@[simp] theorem State.modArr_tlbCore : (s.modArr c f).tlbCore = s.tlbCore := (rfl)
@[simp] theorem State.modArr_tlbDie : (s.modArr c f).tlbDie = s.tlbDie := (rfl)
@[simp] theorem State.modArr_tlbHost : (s.modArr c f).tlbHost = s.tlbHost := (rfl)
@[simp] theorem State.modArr_inval : (s.modArr c f).inval = s.inval := (rfl)
@[simp] theorem State.modArr_flushing : (s.modArr c f).flushing = s.flushing := (rfl)
@[simp] theorem State.modArr_hostAbsent : (s.modArr c f).hostAbsent = s.hostAbsent := (rfl)
@[simp] theorem State.modArr_atc : (s.modArr c f).atc = s.atc := (rfl)
@[simp] theorem State.modArr_atsChanged : (s.modArr c f).atsChanged = s.atsChanged := (rfl)
@[simp] theorem State.modArr_pageReqs : (s.modArr c f).pageReqs = s.pageReqs := (rfl)
@[simp] theorem State.modArr_watch : (s.modArr c f).watch = s.watch := (rfl)
@[simp] theorem State.modArr_spec : (s.modArr c f).spec = s.spec := (rfl)
@[simp] theorem State.modArr_ports : (s.modArr c f).ports = s.ports := (rfl)
@[simp] theorem State.modArr_dims : (s.modArr c f).dims = s.dims := (rfl)
@[simp] theorem State.modArr_outReq : (s.modArr c f).outReq = s.outReq := (rfl)
@[simp] theorem State.modArr_transit : (s.modArr c f).transit = s.transit := (rfl)
@[simp] theorem State.modArr_inbox : (s.modArr c f).inbox = s.inbox := (rfl)
@[simp] theorem State.modArr_noRoutes : (s.modArr c f).noRoutes = s.noRoutes := (rfl)
@[simp] theorem State.modArr_kicks : (s.modArr c f).kicks = s.kicks := (rfl)
@[simp] theorem State.modArr_lineReqs : (s.modArr c f).lineReqs = s.lineReqs := (rfl)
@[simp] theorem State.modArr_ovhRem : (s.modArr c f).ovhRem = s.ovhRem := (rfl)
@[simp] theorem State.modArr_reply : (s.modArr c f).reply = s.reply := (rfl)
@[simp] theorem State.modArr_syncGood : (s.modArr c f).syncGood = s.syncGood := (rfl)
@[simp] theorem State.modArr_rels : (s.modArr c f).rels = s.rels := (rfl)
@[simp] theorem State.modArr_areas : (s.modArr c f).areas = s.areas := (rfl)
@[simp] theorem State.modArr_lastSlot : (s.modArr c f).lastSlot = s.lastSlot := (rfl)
@[simp] theorem State.modArr_flash : (s.modArr c f).flash = s.flash := (rfl)
@[simp] theorem State.modArr_nvme : (s.modArr c f).nvme = s.nvme := (rfl)
@[simp] theorem State.modArr_posted : (s.modArr c f).posted = s.posted := (rfl)
@[simp] theorem State.modArr_heldReads : (s.modArr c f).heldReads = s.heldReads := (rfl)
@[simp] theorem State.modArr_csetOrder : (s.modArr c f).csetOrder = s.csetOrder := (rfl)
@[simp] theorem State.modArr_pcie : (s.modArr c f).pcie = s.pcie := (rfl)
@[simp] theorem State.modArr_refLost : (s.modArr c f).refLost = s.refLost := (rfl)
@[simp] theorem State.modArr_hangs : (s.modArr c f).hangs = s.hangs := (rfl)
@[simp] theorem State.modArr_progress : (s.modArr c f).progress = s.progress := (rfl)
@[simp] theorem State.modArr_esc : (s.modArr c f).esc = s.esc := (rfl)
@[simp] theorem State.modArr_photoRun : (s.modArr c f).photoRun = s.photoRun := (rfl)
@[simp] theorem State.modArr_resetDue : (s.modArr c f).resetDue = s.resetDue := (rfl)
@[simp] theorem State.modArr_photo : (s.modArr c f).photo = s.photo := (rfl)
@[simp] theorem State.modArr_photoSector : (s.modArr c f).photoSector = s.photoSector := (rfl)
@[simp] theorem State.modArr_psc : (s.modArr c f).psc = s.psc := (rfl)
@[simp] theorem State.modArr_recA : (s.modArr c f).recA = s.recA := (rfl)
@[simp] theorem State.modArr_recB : (s.modArr c f).recB = s.recB := (rfl)
@[simp] theorem State.modArr_curB : (s.modArr c f).curB = s.curB := (rfl)
@[simp] theorem State.modArr_start : (s.modArr c f).start = s.start := (rfl)
@[simp] theorem State.modArr_fuses : (s.modArr c f).fuses = s.fuses := (rfl)
@[simp] theorem State.modArr_activation : (s.modArr c f).activation = s.activation := (rfl)
@[simp] theorem State.modArr_crown : (s.modArr c f).crown = s.crown := (rfl)
@[simp] theorem State.modArr_activeImage : (s.modArr c f).activeImage = s.activeImage := (rfl)
@[simp] theorem State.modArr_stageBank : (s.modArr c f).stageBank = s.stageBank := (rfl)
@[simp] theorem State.modArr_stgBuf : (s.modArr c f).stgBuf = s.stgBuf := (rfl)
@[simp] theorem State.modArr_stgAt : (s.modArr c f).stgAt = s.stgAt := (rfl)
@[simp] theorem State.modArr_gnt : (s.modArr c f).gnt = s.gnt := (rfl)
@[simp] theorem State.modArr_retrainDue : (s.modArr c f).retrainDue = s.retrainDue := (rfl)
@[simp] theorem State.modArr_pins : (s.modArr c f).pins = s.pins := (rfl)
@[simp] theorem State.modArr_smbPtr : (s.modArr c f).smbPtr = s.smbPtr := (rfl)
@[simp] theorem State.modArr_smbRefused : (s.modArr c f).smbRefused = s.smbRefused := (rfl)
@[simp] theorem State.modArr_glbCopy : (s.modArr c f).glbCopy = s.glbCopy := (rfl)
end

/-! ### State.modStore: changes `cores` -/

section
variable (s : State) (c : CoreId) (f : Mem → Mem)
@[simp] theorem State.modStore_pending : (s.modStore c f).pending = s.pending := (rfl)
@[simp] theorem State.modStore_regs : (s.modStore c f).regs = s.regs := (rfl)
@[simp] theorem State.modStore_shadow : (s.modStore c f).shadow = s.shadow := (rfl)
@[simp] theorem State.modStore_ptb : (s.modStore c f).ptb = s.ptb := (rfl)
@[simp] theorem State.modStore_free : (s.modStore c f).free = s.free := (rfl)
@[simp] theorem State.modStore_cores : (s.modStore c f).cores = vset s.cores c { s.core c with store := f (s.core c).store } := (rfl)
@[simp] theorem State.modStore_hurdles : (s.modStore c f).hurdles = s.hurdles := (rfl)
@[simp] theorem State.modStore_arrivals : (s.modStore c f).arrivals = s.arrivals := (rfl)
@[simp] theorem State.modStore_host : (s.modStore c f).host = s.host := (rfl)
@[simp] theorem State.modStore_fns : (s.modStore c f).fns = s.fns := (rfl)
@[simp] theorem State.modStore_msix : (s.modStore c f).msix = s.msix := (rfl)
@[simp] theorem State.modStore_alerts : (s.modStore c f).alerts = s.alerts := (rfl)
@[simp] theorem State.modStore_ctxs : (s.modStore c f).ctxs = s.ctxs := (rfl)
@[simp] theorem State.modStore_parts : (s.modStore c f).parts = s.parts := (rfl)
@[simp] theorem State.modStore_dram : (s.modStore c f).dram = s.dram := (rfl)
@[simp] theorem State.modStore_buf : (s.modStore c f).buf = s.buf := (rfl)
@[simp] theorem State.modStore_poisoned : (s.modStore c f).poisoned = s.poisoned := (rfl)
@[simp] theorem State.modStore_rows : (s.modStore c f).rows = s.rows := (rfl)
@[simp] theorem State.modStore_spares : (s.modStore c f).spares = s.spares := (rfl)
@[simp] theorem State.modStore_repairLog : (s.modStore c f).repairLog = s.repairLog := (rfl)
@[simp] theorem State.modStore_retired : (s.modStore c f).retired = s.retired := (rfl)
@[simp] theorem State.modStore_chanOut : (s.modStore c f).chanOut = s.chanOut := (rfl)
@[simp] theorem State.modStore_dead : (s.modStore c f).dead = s.dead := (rfl)
@[simp] theorem State.modStore_tlbCore : (s.modStore c f).tlbCore = s.tlbCore := (rfl)
@[simp] theorem State.modStore_tlbDie : (s.modStore c f).tlbDie = s.tlbDie := (rfl)
@[simp] theorem State.modStore_tlbHost : (s.modStore c f).tlbHost = s.tlbHost := (rfl)
@[simp] theorem State.modStore_inval : (s.modStore c f).inval = s.inval := (rfl)
@[simp] theorem State.modStore_flushing : (s.modStore c f).flushing = s.flushing := (rfl)
@[simp] theorem State.modStore_hostAbsent : (s.modStore c f).hostAbsent = s.hostAbsent := (rfl)
@[simp] theorem State.modStore_atc : (s.modStore c f).atc = s.atc := (rfl)
@[simp] theorem State.modStore_atsChanged : (s.modStore c f).atsChanged = s.atsChanged := (rfl)
@[simp] theorem State.modStore_pageReqs : (s.modStore c f).pageReqs = s.pageReqs := (rfl)
@[simp] theorem State.modStore_watch : (s.modStore c f).watch = s.watch := (rfl)
@[simp] theorem State.modStore_spec : (s.modStore c f).spec = s.spec := (rfl)
@[simp] theorem State.modStore_ports : (s.modStore c f).ports = s.ports := (rfl)
@[simp] theorem State.modStore_dims : (s.modStore c f).dims = s.dims := (rfl)
@[simp] theorem State.modStore_outReq : (s.modStore c f).outReq = s.outReq := (rfl)
@[simp] theorem State.modStore_transit : (s.modStore c f).transit = s.transit := (rfl)
@[simp] theorem State.modStore_inbox : (s.modStore c f).inbox = s.inbox := (rfl)
@[simp] theorem State.modStore_noRoutes : (s.modStore c f).noRoutes = s.noRoutes := (rfl)
@[simp] theorem State.modStore_kicks : (s.modStore c f).kicks = s.kicks := (rfl)
@[simp] theorem State.modStore_lineReqs : (s.modStore c f).lineReqs = s.lineReqs := (rfl)
@[simp] theorem State.modStore_ovhRem : (s.modStore c f).ovhRem = s.ovhRem := (rfl)
@[simp] theorem State.modStore_reply : (s.modStore c f).reply = s.reply := (rfl)
@[simp] theorem State.modStore_syncGood : (s.modStore c f).syncGood = s.syncGood := (rfl)
@[simp] theorem State.modStore_rels : (s.modStore c f).rels = s.rels := (rfl)
@[simp] theorem State.modStore_areas : (s.modStore c f).areas = s.areas := (rfl)
@[simp] theorem State.modStore_lastSlot : (s.modStore c f).lastSlot = s.lastSlot := (rfl)
@[simp] theorem State.modStore_flash : (s.modStore c f).flash = s.flash := (rfl)
@[simp] theorem State.modStore_nvme : (s.modStore c f).nvme = s.nvme := (rfl)
@[simp] theorem State.modStore_posted : (s.modStore c f).posted = s.posted := (rfl)
@[simp] theorem State.modStore_heldReads : (s.modStore c f).heldReads = s.heldReads := (rfl)
@[simp] theorem State.modStore_csetOrder : (s.modStore c f).csetOrder = s.csetOrder := (rfl)
@[simp] theorem State.modStore_pcie : (s.modStore c f).pcie = s.pcie := (rfl)
@[simp] theorem State.modStore_refLost : (s.modStore c f).refLost = s.refLost := (rfl)
@[simp] theorem State.modStore_hangs : (s.modStore c f).hangs = s.hangs := (rfl)
@[simp] theorem State.modStore_progress : (s.modStore c f).progress = s.progress := (rfl)
@[simp] theorem State.modStore_esc : (s.modStore c f).esc = s.esc := (rfl)
@[simp] theorem State.modStore_photoRun : (s.modStore c f).photoRun = s.photoRun := (rfl)
@[simp] theorem State.modStore_resetDue : (s.modStore c f).resetDue = s.resetDue := (rfl)
@[simp] theorem State.modStore_photo : (s.modStore c f).photo = s.photo := (rfl)
@[simp] theorem State.modStore_photoSector : (s.modStore c f).photoSector = s.photoSector := (rfl)
@[simp] theorem State.modStore_psc : (s.modStore c f).psc = s.psc := (rfl)
@[simp] theorem State.modStore_recA : (s.modStore c f).recA = s.recA := (rfl)
@[simp] theorem State.modStore_recB : (s.modStore c f).recB = s.recB := (rfl)
@[simp] theorem State.modStore_curB : (s.modStore c f).curB = s.curB := (rfl)
@[simp] theorem State.modStore_start : (s.modStore c f).start = s.start := (rfl)
@[simp] theorem State.modStore_fuses : (s.modStore c f).fuses = s.fuses := (rfl)
@[simp] theorem State.modStore_activation : (s.modStore c f).activation = s.activation := (rfl)
@[simp] theorem State.modStore_crown : (s.modStore c f).crown = s.crown := (rfl)
@[simp] theorem State.modStore_activeImage : (s.modStore c f).activeImage = s.activeImage := (rfl)
@[simp] theorem State.modStore_stageBank : (s.modStore c f).stageBank = s.stageBank := (rfl)
@[simp] theorem State.modStore_stgBuf : (s.modStore c f).stgBuf = s.stgBuf := (rfl)
@[simp] theorem State.modStore_stgAt : (s.modStore c f).stgAt = s.stgAt := (rfl)
@[simp] theorem State.modStore_gnt : (s.modStore c f).gnt = s.gnt := (rfl)
@[simp] theorem State.modStore_retrainDue : (s.modStore c f).retrainDue = s.retrainDue := (rfl)
@[simp] theorem State.modStore_pins : (s.modStore c f).pins = s.pins := (rfl)
@[simp] theorem State.modStore_smbPtr : (s.modStore c f).smbPtr = s.smbPtr := (rfl)
@[simp] theorem State.modStore_smbRefused : (s.modStore c f).smbRefused = s.smbRefused := (rfl)
@[simp] theorem State.modStore_glbCopy : (s.modStore c f).glbCopy = s.glbCopy := (rfl)
end

/-! ### State.setHurdle: changes `hurdles` -/

section
variable (s : State) (h : Hid) (x : Hurdle)
@[simp] theorem State.setHurdle_pending : (s.setHurdle h x).pending = s.pending := (rfl)
@[simp] theorem State.setHurdle_regs : (s.setHurdle h x).regs = s.regs := (rfl)
@[simp] theorem State.setHurdle_shadow : (s.setHurdle h x).shadow = s.shadow := (rfl)
@[simp] theorem State.setHurdle_ptb : (s.setHurdle h x).ptb = s.ptb := (rfl)
@[simp] theorem State.setHurdle_free : (s.setHurdle h x).free = s.free := (rfl)
@[simp] theorem State.setHurdle_cores : (s.setHurdle h x).cores = s.cores := (rfl)
@[simp] theorem State.setHurdle_hurdles : (s.setHurdle h x).hurdles = smSet hurdleAt s.hurdles h.toNat x := (rfl)
@[simp] theorem State.setHurdle_arrivals : (s.setHurdle h x).arrivals = s.arrivals := (rfl)
@[simp] theorem State.setHurdle_host : (s.setHurdle h x).host = s.host := (rfl)
@[simp] theorem State.setHurdle_fns : (s.setHurdle h x).fns = s.fns := (rfl)
@[simp] theorem State.setHurdle_msix : (s.setHurdle h x).msix = s.msix := (rfl)
@[simp] theorem State.setHurdle_alerts : (s.setHurdle h x).alerts = s.alerts := (rfl)
@[simp] theorem State.setHurdle_ctxs : (s.setHurdle h x).ctxs = s.ctxs := (rfl)
@[simp] theorem State.setHurdle_parts : (s.setHurdle h x).parts = s.parts := (rfl)
@[simp] theorem State.setHurdle_dram : (s.setHurdle h x).dram = s.dram := (rfl)
@[simp] theorem State.setHurdle_buf : (s.setHurdle h x).buf = s.buf := (rfl)
@[simp] theorem State.setHurdle_poisoned : (s.setHurdle h x).poisoned = s.poisoned := (rfl)
@[simp] theorem State.setHurdle_rows : (s.setHurdle h x).rows = s.rows := (rfl)
@[simp] theorem State.setHurdle_spares : (s.setHurdle h x).spares = s.spares := (rfl)
@[simp] theorem State.setHurdle_repairLog : (s.setHurdle h x).repairLog = s.repairLog := (rfl)
@[simp] theorem State.setHurdle_retired : (s.setHurdle h x).retired = s.retired := (rfl)
@[simp] theorem State.setHurdle_chanOut : (s.setHurdle h x).chanOut = s.chanOut := (rfl)
@[simp] theorem State.setHurdle_dead : (s.setHurdle h x).dead = s.dead := (rfl)
@[simp] theorem State.setHurdle_tlbCore : (s.setHurdle h x).tlbCore = s.tlbCore := (rfl)
@[simp] theorem State.setHurdle_tlbDie : (s.setHurdle h x).tlbDie = s.tlbDie := (rfl)
@[simp] theorem State.setHurdle_tlbHost : (s.setHurdle h x).tlbHost = s.tlbHost := (rfl)
@[simp] theorem State.setHurdle_inval : (s.setHurdle h x).inval = s.inval := (rfl)
@[simp] theorem State.setHurdle_flushing : (s.setHurdle h x).flushing = s.flushing := (rfl)
@[simp] theorem State.setHurdle_hostAbsent : (s.setHurdle h x).hostAbsent = s.hostAbsent := (rfl)
@[simp] theorem State.setHurdle_atc : (s.setHurdle h x).atc = s.atc := (rfl)
@[simp] theorem State.setHurdle_atsChanged : (s.setHurdle h x).atsChanged = s.atsChanged := (rfl)
@[simp] theorem State.setHurdle_pageReqs : (s.setHurdle h x).pageReqs = s.pageReqs := (rfl)
@[simp] theorem State.setHurdle_watch : (s.setHurdle h x).watch = s.watch := (rfl)
@[simp] theorem State.setHurdle_spec : (s.setHurdle h x).spec = s.spec := (rfl)
@[simp] theorem State.setHurdle_ports : (s.setHurdle h x).ports = s.ports := (rfl)
@[simp] theorem State.setHurdle_dims : (s.setHurdle h x).dims = s.dims := (rfl)
@[simp] theorem State.setHurdle_outReq : (s.setHurdle h x).outReq = s.outReq := (rfl)
@[simp] theorem State.setHurdle_transit : (s.setHurdle h x).transit = s.transit := (rfl)
@[simp] theorem State.setHurdle_inbox : (s.setHurdle h x).inbox = s.inbox := (rfl)
@[simp] theorem State.setHurdle_noRoutes : (s.setHurdle h x).noRoutes = s.noRoutes := (rfl)
@[simp] theorem State.setHurdle_kicks : (s.setHurdle h x).kicks = s.kicks := (rfl)
@[simp] theorem State.setHurdle_lineReqs : (s.setHurdle h x).lineReqs = s.lineReqs := (rfl)
@[simp] theorem State.setHurdle_ovhRem : (s.setHurdle h x).ovhRem = s.ovhRem := (rfl)
@[simp] theorem State.setHurdle_reply : (s.setHurdle h x).reply = s.reply := (rfl)
@[simp] theorem State.setHurdle_syncGood : (s.setHurdle h x).syncGood = s.syncGood := (rfl)
@[simp] theorem State.setHurdle_rels : (s.setHurdle h x).rels = s.rels := (rfl)
@[simp] theorem State.setHurdle_areas : (s.setHurdle h x).areas = s.areas := (rfl)
@[simp] theorem State.setHurdle_lastSlot : (s.setHurdle h x).lastSlot = s.lastSlot := (rfl)
@[simp] theorem State.setHurdle_flash : (s.setHurdle h x).flash = s.flash := (rfl)
@[simp] theorem State.setHurdle_nvme : (s.setHurdle h x).nvme = s.nvme := (rfl)
@[simp] theorem State.setHurdle_posted : (s.setHurdle h x).posted = s.posted := (rfl)
@[simp] theorem State.setHurdle_heldReads : (s.setHurdle h x).heldReads = s.heldReads := (rfl)
@[simp] theorem State.setHurdle_csetOrder : (s.setHurdle h x).csetOrder = s.csetOrder := (rfl)
@[simp] theorem State.setHurdle_pcie : (s.setHurdle h x).pcie = s.pcie := (rfl)
@[simp] theorem State.setHurdle_refLost : (s.setHurdle h x).refLost = s.refLost := (rfl)
@[simp] theorem State.setHurdle_hangs : (s.setHurdle h x).hangs = s.hangs := (rfl)
@[simp] theorem State.setHurdle_progress : (s.setHurdle h x).progress = s.progress := (rfl)
@[simp] theorem State.setHurdle_esc : (s.setHurdle h x).esc = s.esc := (rfl)
@[simp] theorem State.setHurdle_photoRun : (s.setHurdle h x).photoRun = s.photoRun := (rfl)
@[simp] theorem State.setHurdle_resetDue : (s.setHurdle h x).resetDue = s.resetDue := (rfl)
@[simp] theorem State.setHurdle_photo : (s.setHurdle h x).photo = s.photo := (rfl)
@[simp] theorem State.setHurdle_photoSector : (s.setHurdle h x).photoSector = s.photoSector := (rfl)
@[simp] theorem State.setHurdle_psc : (s.setHurdle h x).psc = s.psc := (rfl)
@[simp] theorem State.setHurdle_recA : (s.setHurdle h x).recA = s.recA := (rfl)
@[simp] theorem State.setHurdle_recB : (s.setHurdle h x).recB = s.recB := (rfl)
@[simp] theorem State.setHurdle_curB : (s.setHurdle h x).curB = s.curB := (rfl)
@[simp] theorem State.setHurdle_start : (s.setHurdle h x).start = s.start := (rfl)
@[simp] theorem State.setHurdle_fuses : (s.setHurdle h x).fuses = s.fuses := (rfl)
@[simp] theorem State.setHurdle_activation : (s.setHurdle h x).activation = s.activation := (rfl)
@[simp] theorem State.setHurdle_crown : (s.setHurdle h x).crown = s.crown := (rfl)
@[simp] theorem State.setHurdle_activeImage : (s.setHurdle h x).activeImage = s.activeImage := (rfl)
@[simp] theorem State.setHurdle_stageBank : (s.setHurdle h x).stageBank = s.stageBank := (rfl)
@[simp] theorem State.setHurdle_stgBuf : (s.setHurdle h x).stgBuf = s.stgBuf := (rfl)
@[simp] theorem State.setHurdle_stgAt : (s.setHurdle h x).stgAt = s.stgAt := (rfl)
@[simp] theorem State.setHurdle_gnt : (s.setHurdle h x).gnt = s.gnt := (rfl)
@[simp] theorem State.setHurdle_retrainDue : (s.setHurdle h x).retrainDue = s.retrainDue := (rfl)
@[simp] theorem State.setHurdle_pins : (s.setHurdle h x).pins = s.pins := (rfl)
@[simp] theorem State.setHurdle_smbPtr : (s.setHurdle h x).smbPtr = s.smbPtr := (rfl)
@[simp] theorem State.setHurdle_smbRefused : (s.setHurdle h x).smbRefused = s.smbRefused := (rfl)
@[simp] theorem State.setHurdle_glbCopy : (s.setHurdle h x).glbCopy = s.glbCopy := (rfl)
end

/-! ### State.setAct: changes `regs` -/

section
variable (s : State) (off : Nat) (v : W32)
@[simp] theorem State.setAct_pending : (s.setAct off v).pending = s.pending := (rfl)
@[simp] theorem State.setAct_regs : (s.setAct off v).regs = smSet regReset s.regs off v := (rfl)
@[simp] theorem State.setAct_shadow : (s.setAct off v).shadow = s.shadow := (rfl)
@[simp] theorem State.setAct_ptb : (s.setAct off v).ptb = s.ptb := (rfl)
@[simp] theorem State.setAct_free : (s.setAct off v).free = s.free := (rfl)
@[simp] theorem State.setAct_cores : (s.setAct off v).cores = s.cores := (rfl)
@[simp] theorem State.setAct_hurdles : (s.setAct off v).hurdles = s.hurdles := (rfl)
@[simp] theorem State.setAct_arrivals : (s.setAct off v).arrivals = s.arrivals := (rfl)
@[simp] theorem State.setAct_host : (s.setAct off v).host = s.host := (rfl)
@[simp] theorem State.setAct_fns : (s.setAct off v).fns = s.fns := (rfl)
@[simp] theorem State.setAct_msix : (s.setAct off v).msix = s.msix := (rfl)
@[simp] theorem State.setAct_alerts : (s.setAct off v).alerts = s.alerts := (rfl)
@[simp] theorem State.setAct_ctxs : (s.setAct off v).ctxs = s.ctxs := (rfl)
@[simp] theorem State.setAct_parts : (s.setAct off v).parts = s.parts := (rfl)
@[simp] theorem State.setAct_dram : (s.setAct off v).dram = s.dram := (rfl)
@[simp] theorem State.setAct_buf : (s.setAct off v).buf = s.buf := (rfl)
@[simp] theorem State.setAct_poisoned : (s.setAct off v).poisoned = s.poisoned := (rfl)
@[simp] theorem State.setAct_rows : (s.setAct off v).rows = s.rows := (rfl)
@[simp] theorem State.setAct_spares : (s.setAct off v).spares = s.spares := (rfl)
@[simp] theorem State.setAct_repairLog : (s.setAct off v).repairLog = s.repairLog := (rfl)
@[simp] theorem State.setAct_retired : (s.setAct off v).retired = s.retired := (rfl)
@[simp] theorem State.setAct_chanOut : (s.setAct off v).chanOut = s.chanOut := (rfl)
@[simp] theorem State.setAct_dead : (s.setAct off v).dead = s.dead := (rfl)
@[simp] theorem State.setAct_tlbCore : (s.setAct off v).tlbCore = s.tlbCore := (rfl)
@[simp] theorem State.setAct_tlbDie : (s.setAct off v).tlbDie = s.tlbDie := (rfl)
@[simp] theorem State.setAct_tlbHost : (s.setAct off v).tlbHost = s.tlbHost := (rfl)
@[simp] theorem State.setAct_inval : (s.setAct off v).inval = s.inval := (rfl)
@[simp] theorem State.setAct_flushing : (s.setAct off v).flushing = s.flushing := (rfl)
@[simp] theorem State.setAct_hostAbsent : (s.setAct off v).hostAbsent = s.hostAbsent := (rfl)
@[simp] theorem State.setAct_atc : (s.setAct off v).atc = s.atc := (rfl)
@[simp] theorem State.setAct_atsChanged : (s.setAct off v).atsChanged = s.atsChanged := (rfl)
@[simp] theorem State.setAct_pageReqs : (s.setAct off v).pageReqs = s.pageReqs := (rfl)
@[simp] theorem State.setAct_watch : (s.setAct off v).watch = s.watch := (rfl)
@[simp] theorem State.setAct_spec : (s.setAct off v).spec = s.spec := (rfl)
@[simp] theorem State.setAct_ports : (s.setAct off v).ports = s.ports := (rfl)
@[simp] theorem State.setAct_dims : (s.setAct off v).dims = s.dims := (rfl)
@[simp] theorem State.setAct_outReq : (s.setAct off v).outReq = s.outReq := (rfl)
@[simp] theorem State.setAct_transit : (s.setAct off v).transit = s.transit := (rfl)
@[simp] theorem State.setAct_inbox : (s.setAct off v).inbox = s.inbox := (rfl)
@[simp] theorem State.setAct_noRoutes : (s.setAct off v).noRoutes = s.noRoutes := (rfl)
@[simp] theorem State.setAct_kicks : (s.setAct off v).kicks = s.kicks := (rfl)
@[simp] theorem State.setAct_lineReqs : (s.setAct off v).lineReqs = s.lineReqs := (rfl)
@[simp] theorem State.setAct_ovhRem : (s.setAct off v).ovhRem = s.ovhRem := (rfl)
@[simp] theorem State.setAct_reply : (s.setAct off v).reply = s.reply := (rfl)
@[simp] theorem State.setAct_syncGood : (s.setAct off v).syncGood = s.syncGood := (rfl)
@[simp] theorem State.setAct_rels : (s.setAct off v).rels = s.rels := (rfl)
@[simp] theorem State.setAct_areas : (s.setAct off v).areas = s.areas := (rfl)
@[simp] theorem State.setAct_lastSlot : (s.setAct off v).lastSlot = s.lastSlot := (rfl)
@[simp] theorem State.setAct_flash : (s.setAct off v).flash = s.flash := (rfl)
@[simp] theorem State.setAct_nvme : (s.setAct off v).nvme = s.nvme := (rfl)
@[simp] theorem State.setAct_posted : (s.setAct off v).posted = s.posted := (rfl)
@[simp] theorem State.setAct_heldReads : (s.setAct off v).heldReads = s.heldReads := (rfl)
@[simp] theorem State.setAct_csetOrder : (s.setAct off v).csetOrder = s.csetOrder := (rfl)
@[simp] theorem State.setAct_pcie : (s.setAct off v).pcie = s.pcie := (rfl)
@[simp] theorem State.setAct_refLost : (s.setAct off v).refLost = s.refLost := (rfl)
@[simp] theorem State.setAct_hangs : (s.setAct off v).hangs = s.hangs := (rfl)
@[simp] theorem State.setAct_progress : (s.setAct off v).progress = s.progress := (rfl)
@[simp] theorem State.setAct_esc : (s.setAct off v).esc = s.esc := (rfl)
@[simp] theorem State.setAct_photoRun : (s.setAct off v).photoRun = s.photoRun := (rfl)
@[simp] theorem State.setAct_resetDue : (s.setAct off v).resetDue = s.resetDue := (rfl)
@[simp] theorem State.setAct_photo : (s.setAct off v).photo = s.photo := (rfl)
@[simp] theorem State.setAct_photoSector : (s.setAct off v).photoSector = s.photoSector := (rfl)
@[simp] theorem State.setAct_psc : (s.setAct off v).psc = s.psc := (rfl)
@[simp] theorem State.setAct_recA : (s.setAct off v).recA = s.recA := (rfl)
@[simp] theorem State.setAct_recB : (s.setAct off v).recB = s.recB := (rfl)
@[simp] theorem State.setAct_curB : (s.setAct off v).curB = s.curB := (rfl)
@[simp] theorem State.setAct_start : (s.setAct off v).start = s.start := (rfl)
@[simp] theorem State.setAct_fuses : (s.setAct off v).fuses = s.fuses := (rfl)
@[simp] theorem State.setAct_activation : (s.setAct off v).activation = s.activation := (rfl)
@[simp] theorem State.setAct_crown : (s.setAct off v).crown = s.crown := (rfl)
@[simp] theorem State.setAct_activeImage : (s.setAct off v).activeImage = s.activeImage := (rfl)
@[simp] theorem State.setAct_stageBank : (s.setAct off v).stageBank = s.stageBank := (rfl)
@[simp] theorem State.setAct_stgBuf : (s.setAct off v).stgBuf = s.stgBuf := (rfl)
@[simp] theorem State.setAct_stgAt : (s.setAct off v).stgAt = s.stgAt := (rfl)
@[simp] theorem State.setAct_gnt : (s.setAct off v).gnt = s.gnt := (rfl)
@[simp] theorem State.setAct_retrainDue : (s.setAct off v).retrainDue = s.retrainDue := (rfl)
@[simp] theorem State.setAct_pins : (s.setAct off v).pins = s.pins := (rfl)
@[simp] theorem State.setAct_smbPtr : (s.setAct off v).smbPtr = s.smbPtr := (rfl)
@[simp] theorem State.setAct_smbRefused : (s.setAct off v).smbRefused = s.smbRefused := (rfl)
@[simp] theorem State.setAct_glbCopy : (s.setAct off v).glbCopy = s.glbCopy := (rfl)
end

/-! ### State.setShad: changes `shadow` -/

section
variable (s : State) (off : Nat) (v : W32)
@[simp] theorem State.setShad_pending : (s.setShad off v).pending = s.pending := (rfl)
@[simp] theorem State.setShad_regs : (s.setShad off v).regs = s.regs := (rfl)
@[simp] theorem State.setShad_shadow : (s.setShad off v).shadow = smSet regReset s.shadow off v := (rfl)
@[simp] theorem State.setShad_ptb : (s.setShad off v).ptb = s.ptb := (rfl)
@[simp] theorem State.setShad_free : (s.setShad off v).free = s.free := (rfl)
@[simp] theorem State.setShad_cores : (s.setShad off v).cores = s.cores := (rfl)
@[simp] theorem State.setShad_hurdles : (s.setShad off v).hurdles = s.hurdles := (rfl)
@[simp] theorem State.setShad_arrivals : (s.setShad off v).arrivals = s.arrivals := (rfl)
@[simp] theorem State.setShad_host : (s.setShad off v).host = s.host := (rfl)
@[simp] theorem State.setShad_fns : (s.setShad off v).fns = s.fns := (rfl)
@[simp] theorem State.setShad_msix : (s.setShad off v).msix = s.msix := (rfl)
@[simp] theorem State.setShad_alerts : (s.setShad off v).alerts = s.alerts := (rfl)
@[simp] theorem State.setShad_ctxs : (s.setShad off v).ctxs = s.ctxs := (rfl)
@[simp] theorem State.setShad_parts : (s.setShad off v).parts = s.parts := (rfl)
@[simp] theorem State.setShad_dram : (s.setShad off v).dram = s.dram := (rfl)
@[simp] theorem State.setShad_buf : (s.setShad off v).buf = s.buf := (rfl)
@[simp] theorem State.setShad_poisoned : (s.setShad off v).poisoned = s.poisoned := (rfl)
@[simp] theorem State.setShad_rows : (s.setShad off v).rows = s.rows := (rfl)
@[simp] theorem State.setShad_spares : (s.setShad off v).spares = s.spares := (rfl)
@[simp] theorem State.setShad_repairLog : (s.setShad off v).repairLog = s.repairLog := (rfl)
@[simp] theorem State.setShad_retired : (s.setShad off v).retired = s.retired := (rfl)
@[simp] theorem State.setShad_chanOut : (s.setShad off v).chanOut = s.chanOut := (rfl)
@[simp] theorem State.setShad_dead : (s.setShad off v).dead = s.dead := (rfl)
@[simp] theorem State.setShad_tlbCore : (s.setShad off v).tlbCore = s.tlbCore := (rfl)
@[simp] theorem State.setShad_tlbDie : (s.setShad off v).tlbDie = s.tlbDie := (rfl)
@[simp] theorem State.setShad_tlbHost : (s.setShad off v).tlbHost = s.tlbHost := (rfl)
@[simp] theorem State.setShad_inval : (s.setShad off v).inval = s.inval := (rfl)
@[simp] theorem State.setShad_flushing : (s.setShad off v).flushing = s.flushing := (rfl)
@[simp] theorem State.setShad_hostAbsent : (s.setShad off v).hostAbsent = s.hostAbsent := (rfl)
@[simp] theorem State.setShad_atc : (s.setShad off v).atc = s.atc := (rfl)
@[simp] theorem State.setShad_atsChanged : (s.setShad off v).atsChanged = s.atsChanged := (rfl)
@[simp] theorem State.setShad_pageReqs : (s.setShad off v).pageReqs = s.pageReqs := (rfl)
@[simp] theorem State.setShad_watch : (s.setShad off v).watch = s.watch := (rfl)
@[simp] theorem State.setShad_spec : (s.setShad off v).spec = s.spec := (rfl)
@[simp] theorem State.setShad_ports : (s.setShad off v).ports = s.ports := (rfl)
@[simp] theorem State.setShad_dims : (s.setShad off v).dims = s.dims := (rfl)
@[simp] theorem State.setShad_outReq : (s.setShad off v).outReq = s.outReq := (rfl)
@[simp] theorem State.setShad_transit : (s.setShad off v).transit = s.transit := (rfl)
@[simp] theorem State.setShad_inbox : (s.setShad off v).inbox = s.inbox := (rfl)
@[simp] theorem State.setShad_noRoutes : (s.setShad off v).noRoutes = s.noRoutes := (rfl)
@[simp] theorem State.setShad_kicks : (s.setShad off v).kicks = s.kicks := (rfl)
@[simp] theorem State.setShad_lineReqs : (s.setShad off v).lineReqs = s.lineReqs := (rfl)
@[simp] theorem State.setShad_ovhRem : (s.setShad off v).ovhRem = s.ovhRem := (rfl)
@[simp] theorem State.setShad_reply : (s.setShad off v).reply = s.reply := (rfl)
@[simp] theorem State.setShad_syncGood : (s.setShad off v).syncGood = s.syncGood := (rfl)
@[simp] theorem State.setShad_rels : (s.setShad off v).rels = s.rels := (rfl)
@[simp] theorem State.setShad_areas : (s.setShad off v).areas = s.areas := (rfl)
@[simp] theorem State.setShad_lastSlot : (s.setShad off v).lastSlot = s.lastSlot := (rfl)
@[simp] theorem State.setShad_flash : (s.setShad off v).flash = s.flash := (rfl)
@[simp] theorem State.setShad_nvme : (s.setShad off v).nvme = s.nvme := (rfl)
@[simp] theorem State.setShad_posted : (s.setShad off v).posted = s.posted := (rfl)
@[simp] theorem State.setShad_heldReads : (s.setShad off v).heldReads = s.heldReads := (rfl)
@[simp] theorem State.setShad_csetOrder : (s.setShad off v).csetOrder = s.csetOrder := (rfl)
@[simp] theorem State.setShad_pcie : (s.setShad off v).pcie = s.pcie := (rfl)
@[simp] theorem State.setShad_refLost : (s.setShad off v).refLost = s.refLost := (rfl)
@[simp] theorem State.setShad_hangs : (s.setShad off v).hangs = s.hangs := (rfl)
@[simp] theorem State.setShad_progress : (s.setShad off v).progress = s.progress := (rfl)
@[simp] theorem State.setShad_esc : (s.setShad off v).esc = s.esc := (rfl)
@[simp] theorem State.setShad_photoRun : (s.setShad off v).photoRun = s.photoRun := (rfl)
@[simp] theorem State.setShad_resetDue : (s.setShad off v).resetDue = s.resetDue := (rfl)
@[simp] theorem State.setShad_photo : (s.setShad off v).photo = s.photo := (rfl)
@[simp] theorem State.setShad_photoSector : (s.setShad off v).photoSector = s.photoSector := (rfl)
@[simp] theorem State.setShad_psc : (s.setShad off v).psc = s.psc := (rfl)
@[simp] theorem State.setShad_recA : (s.setShad off v).recA = s.recA := (rfl)
@[simp] theorem State.setShad_recB : (s.setShad off v).recB = s.recB := (rfl)
@[simp] theorem State.setShad_curB : (s.setShad off v).curB = s.curB := (rfl)
@[simp] theorem State.setShad_start : (s.setShad off v).start = s.start := (rfl)
@[simp] theorem State.setShad_fuses : (s.setShad off v).fuses = s.fuses := (rfl)
@[simp] theorem State.setShad_activation : (s.setShad off v).activation = s.activation := (rfl)
@[simp] theorem State.setShad_crown : (s.setShad off v).crown = s.crown := (rfl)
@[simp] theorem State.setShad_activeImage : (s.setShad off v).activeImage = s.activeImage := (rfl)
@[simp] theorem State.setShad_stageBank : (s.setShad off v).stageBank = s.stageBank := (rfl)
@[simp] theorem State.setShad_stgBuf : (s.setShad off v).stgBuf = s.stgBuf := (rfl)
@[simp] theorem State.setShad_stgAt : (s.setShad off v).stgAt = s.stgAt := (rfl)
@[simp] theorem State.setShad_gnt : (s.setShad off v).gnt = s.gnt := (rfl)
@[simp] theorem State.setShad_retrainDue : (s.setShad off v).retrainDue = s.retrainDue := (rfl)
@[simp] theorem State.setShad_pins : (s.setShad off v).pins = s.pins := (rfl)
@[simp] theorem State.setShad_smbPtr : (s.setShad off v).smbPtr = s.smbPtr := (rfl)
@[simp] theorem State.setShad_smbRefused : (s.setShad off v).smbRefused = s.smbRefused := (rfl)
@[simp] theorem State.setShad_glbCopy : (s.setShad off v).glbCopy = s.glbCopy := (rfl)
end

/-! ### State.setFld: changes `regs` -/

section
variable (s : State) (off hi lo v : Nat)
@[simp] theorem State.setFld_pending : (s.setFld off hi lo v).pending = s.pending := (rfl)
@[simp] theorem State.setFld_regs : (s.setFld off hi lo v).regs = smSet regReset s.regs off (withField (s.act off) hi lo v) := (rfl)
@[simp] theorem State.setFld_shadow : (s.setFld off hi lo v).shadow = s.shadow := (rfl)
@[simp] theorem State.setFld_ptb : (s.setFld off hi lo v).ptb = s.ptb := (rfl)
@[simp] theorem State.setFld_free : (s.setFld off hi lo v).free = s.free := (rfl)
@[simp] theorem State.setFld_cores : (s.setFld off hi lo v).cores = s.cores := (rfl)
@[simp] theorem State.setFld_hurdles : (s.setFld off hi lo v).hurdles = s.hurdles := (rfl)
@[simp] theorem State.setFld_arrivals : (s.setFld off hi lo v).arrivals = s.arrivals := (rfl)
@[simp] theorem State.setFld_host : (s.setFld off hi lo v).host = s.host := (rfl)
@[simp] theorem State.setFld_fns : (s.setFld off hi lo v).fns = s.fns := (rfl)
@[simp] theorem State.setFld_msix : (s.setFld off hi lo v).msix = s.msix := (rfl)
@[simp] theorem State.setFld_alerts : (s.setFld off hi lo v).alerts = s.alerts := (rfl)
@[simp] theorem State.setFld_ctxs : (s.setFld off hi lo v).ctxs = s.ctxs := (rfl)
@[simp] theorem State.setFld_parts : (s.setFld off hi lo v).parts = s.parts := (rfl)
@[simp] theorem State.setFld_dram : (s.setFld off hi lo v).dram = s.dram := (rfl)
@[simp] theorem State.setFld_buf : (s.setFld off hi lo v).buf = s.buf := (rfl)
@[simp] theorem State.setFld_poisoned : (s.setFld off hi lo v).poisoned = s.poisoned := (rfl)
@[simp] theorem State.setFld_rows : (s.setFld off hi lo v).rows = s.rows := (rfl)
@[simp] theorem State.setFld_spares : (s.setFld off hi lo v).spares = s.spares := (rfl)
@[simp] theorem State.setFld_repairLog : (s.setFld off hi lo v).repairLog = s.repairLog := (rfl)
@[simp] theorem State.setFld_retired : (s.setFld off hi lo v).retired = s.retired := (rfl)
@[simp] theorem State.setFld_chanOut : (s.setFld off hi lo v).chanOut = s.chanOut := (rfl)
@[simp] theorem State.setFld_dead : (s.setFld off hi lo v).dead = s.dead := (rfl)
@[simp] theorem State.setFld_tlbCore : (s.setFld off hi lo v).tlbCore = s.tlbCore := (rfl)
@[simp] theorem State.setFld_tlbDie : (s.setFld off hi lo v).tlbDie = s.tlbDie := (rfl)
@[simp] theorem State.setFld_tlbHost : (s.setFld off hi lo v).tlbHost = s.tlbHost := (rfl)
@[simp] theorem State.setFld_inval : (s.setFld off hi lo v).inval = s.inval := (rfl)
@[simp] theorem State.setFld_flushing : (s.setFld off hi lo v).flushing = s.flushing := (rfl)
@[simp] theorem State.setFld_hostAbsent : (s.setFld off hi lo v).hostAbsent = s.hostAbsent := (rfl)
@[simp] theorem State.setFld_atc : (s.setFld off hi lo v).atc = s.atc := (rfl)
@[simp] theorem State.setFld_atsChanged : (s.setFld off hi lo v).atsChanged = s.atsChanged := (rfl)
@[simp] theorem State.setFld_pageReqs : (s.setFld off hi lo v).pageReqs = s.pageReqs := (rfl)
@[simp] theorem State.setFld_watch : (s.setFld off hi lo v).watch = s.watch := (rfl)
@[simp] theorem State.setFld_spec : (s.setFld off hi lo v).spec = s.spec := (rfl)
@[simp] theorem State.setFld_ports : (s.setFld off hi lo v).ports = s.ports := (rfl)
@[simp] theorem State.setFld_dims : (s.setFld off hi lo v).dims = s.dims := (rfl)
@[simp] theorem State.setFld_outReq : (s.setFld off hi lo v).outReq = s.outReq := (rfl)
@[simp] theorem State.setFld_transit : (s.setFld off hi lo v).transit = s.transit := (rfl)
@[simp] theorem State.setFld_inbox : (s.setFld off hi lo v).inbox = s.inbox := (rfl)
@[simp] theorem State.setFld_noRoutes : (s.setFld off hi lo v).noRoutes = s.noRoutes := (rfl)
@[simp] theorem State.setFld_kicks : (s.setFld off hi lo v).kicks = s.kicks := (rfl)
@[simp] theorem State.setFld_lineReqs : (s.setFld off hi lo v).lineReqs = s.lineReqs := (rfl)
@[simp] theorem State.setFld_ovhRem : (s.setFld off hi lo v).ovhRem = s.ovhRem := (rfl)
@[simp] theorem State.setFld_reply : (s.setFld off hi lo v).reply = s.reply := (rfl)
@[simp] theorem State.setFld_syncGood : (s.setFld off hi lo v).syncGood = s.syncGood := (rfl)
@[simp] theorem State.setFld_rels : (s.setFld off hi lo v).rels = s.rels := (rfl)
@[simp] theorem State.setFld_areas : (s.setFld off hi lo v).areas = s.areas := (rfl)
@[simp] theorem State.setFld_lastSlot : (s.setFld off hi lo v).lastSlot = s.lastSlot := (rfl)
@[simp] theorem State.setFld_flash : (s.setFld off hi lo v).flash = s.flash := (rfl)
@[simp] theorem State.setFld_nvme : (s.setFld off hi lo v).nvme = s.nvme := (rfl)
@[simp] theorem State.setFld_posted : (s.setFld off hi lo v).posted = s.posted := (rfl)
@[simp] theorem State.setFld_heldReads : (s.setFld off hi lo v).heldReads = s.heldReads := (rfl)
@[simp] theorem State.setFld_csetOrder : (s.setFld off hi lo v).csetOrder = s.csetOrder := (rfl)
@[simp] theorem State.setFld_pcie : (s.setFld off hi lo v).pcie = s.pcie := (rfl)
@[simp] theorem State.setFld_refLost : (s.setFld off hi lo v).refLost = s.refLost := (rfl)
@[simp] theorem State.setFld_hangs : (s.setFld off hi lo v).hangs = s.hangs := (rfl)
@[simp] theorem State.setFld_progress : (s.setFld off hi lo v).progress = s.progress := (rfl)
@[simp] theorem State.setFld_esc : (s.setFld off hi lo v).esc = s.esc := (rfl)
@[simp] theorem State.setFld_photoRun : (s.setFld off hi lo v).photoRun = s.photoRun := (rfl)
@[simp] theorem State.setFld_resetDue : (s.setFld off hi lo v).resetDue = s.resetDue := (rfl)
@[simp] theorem State.setFld_photo : (s.setFld off hi lo v).photo = s.photo := (rfl)
@[simp] theorem State.setFld_photoSector : (s.setFld off hi lo v).photoSector = s.photoSector := (rfl)
@[simp] theorem State.setFld_psc : (s.setFld off hi lo v).psc = s.psc := (rfl)
@[simp] theorem State.setFld_recA : (s.setFld off hi lo v).recA = s.recA := (rfl)
@[simp] theorem State.setFld_recB : (s.setFld off hi lo v).recB = s.recB := (rfl)
@[simp] theorem State.setFld_curB : (s.setFld off hi lo v).curB = s.curB := (rfl)
@[simp] theorem State.setFld_start : (s.setFld off hi lo v).start = s.start := (rfl)
@[simp] theorem State.setFld_fuses : (s.setFld off hi lo v).fuses = s.fuses := (rfl)
@[simp] theorem State.setFld_activation : (s.setFld off hi lo v).activation = s.activation := (rfl)
@[simp] theorem State.setFld_crown : (s.setFld off hi lo v).crown = s.crown := (rfl)
@[simp] theorem State.setFld_activeImage : (s.setFld off hi lo v).activeImage = s.activeImage := (rfl)
@[simp] theorem State.setFld_stageBank : (s.setFld off hi lo v).stageBank = s.stageBank := (rfl)
@[simp] theorem State.setFld_stgBuf : (s.setFld off hi lo v).stgBuf = s.stgBuf := (rfl)
@[simp] theorem State.setFld_stgAt : (s.setFld off hi lo v).stgAt = s.stgAt := (rfl)
@[simp] theorem State.setFld_gnt : (s.setFld off hi lo v).gnt = s.gnt := (rfl)
@[simp] theorem State.setFld_retrainDue : (s.setFld off hi lo v).retrainDue = s.retrainDue := (rfl)
@[simp] theorem State.setFld_pins : (s.setFld off hi lo v).pins = s.pins := (rfl)
@[simp] theorem State.setFld_smbPtr : (s.setFld off hi lo v).smbPtr = s.smbPtr := (rfl)
@[simp] theorem State.setFld_smbRefused : (s.setFld off hi lo v).smbRefused = s.smbRefused := (rfl)
@[simp] theorem State.setFld_glbCopy : (s.setFld off hi lo v).glbCopy = s.glbCopy := (rfl)
end

/-! ### State.bump: changes `regs` -/

section
variable (s : State) (off n : Nat)
@[simp] theorem State.bump_pending : (s.bump off n).pending = s.pending := (rfl)
@[simp] theorem State.bump_regs : (s.bump off n).regs = smSet regReset s.regs off (BitVec.ofNat 32 (min ((s.act off).toNat + n) 0xFFFFFFFF)) := (rfl)
@[simp] theorem State.bump_shadow : (s.bump off n).shadow = s.shadow := (rfl)
@[simp] theorem State.bump_ptb : (s.bump off n).ptb = s.ptb := (rfl)
@[simp] theorem State.bump_free : (s.bump off n).free = s.free := (rfl)
@[simp] theorem State.bump_cores : (s.bump off n).cores = s.cores := (rfl)
@[simp] theorem State.bump_hurdles : (s.bump off n).hurdles = s.hurdles := (rfl)
@[simp] theorem State.bump_arrivals : (s.bump off n).arrivals = s.arrivals := (rfl)
@[simp] theorem State.bump_host : (s.bump off n).host = s.host := (rfl)
@[simp] theorem State.bump_fns : (s.bump off n).fns = s.fns := (rfl)
@[simp] theorem State.bump_msix : (s.bump off n).msix = s.msix := (rfl)
@[simp] theorem State.bump_alerts : (s.bump off n).alerts = s.alerts := (rfl)
@[simp] theorem State.bump_ctxs : (s.bump off n).ctxs = s.ctxs := (rfl)
@[simp] theorem State.bump_parts : (s.bump off n).parts = s.parts := (rfl)
@[simp] theorem State.bump_dram : (s.bump off n).dram = s.dram := (rfl)
@[simp] theorem State.bump_buf : (s.bump off n).buf = s.buf := (rfl)
@[simp] theorem State.bump_poisoned : (s.bump off n).poisoned = s.poisoned := (rfl)
@[simp] theorem State.bump_rows : (s.bump off n).rows = s.rows := (rfl)
@[simp] theorem State.bump_spares : (s.bump off n).spares = s.spares := (rfl)
@[simp] theorem State.bump_repairLog : (s.bump off n).repairLog = s.repairLog := (rfl)
@[simp] theorem State.bump_retired : (s.bump off n).retired = s.retired := (rfl)
@[simp] theorem State.bump_chanOut : (s.bump off n).chanOut = s.chanOut := (rfl)
@[simp] theorem State.bump_dead : (s.bump off n).dead = s.dead := (rfl)
@[simp] theorem State.bump_tlbCore : (s.bump off n).tlbCore = s.tlbCore := (rfl)
@[simp] theorem State.bump_tlbDie : (s.bump off n).tlbDie = s.tlbDie := (rfl)
@[simp] theorem State.bump_tlbHost : (s.bump off n).tlbHost = s.tlbHost := (rfl)
@[simp] theorem State.bump_inval : (s.bump off n).inval = s.inval := (rfl)
@[simp] theorem State.bump_flushing : (s.bump off n).flushing = s.flushing := (rfl)
@[simp] theorem State.bump_hostAbsent : (s.bump off n).hostAbsent = s.hostAbsent := (rfl)
@[simp] theorem State.bump_atc : (s.bump off n).atc = s.atc := (rfl)
@[simp] theorem State.bump_atsChanged : (s.bump off n).atsChanged = s.atsChanged := (rfl)
@[simp] theorem State.bump_pageReqs : (s.bump off n).pageReqs = s.pageReqs := (rfl)
@[simp] theorem State.bump_watch : (s.bump off n).watch = s.watch := (rfl)
@[simp] theorem State.bump_spec : (s.bump off n).spec = s.spec := (rfl)
@[simp] theorem State.bump_ports : (s.bump off n).ports = s.ports := (rfl)
@[simp] theorem State.bump_dims : (s.bump off n).dims = s.dims := (rfl)
@[simp] theorem State.bump_outReq : (s.bump off n).outReq = s.outReq := (rfl)
@[simp] theorem State.bump_transit : (s.bump off n).transit = s.transit := (rfl)
@[simp] theorem State.bump_inbox : (s.bump off n).inbox = s.inbox := (rfl)
@[simp] theorem State.bump_noRoutes : (s.bump off n).noRoutes = s.noRoutes := (rfl)
@[simp] theorem State.bump_kicks : (s.bump off n).kicks = s.kicks := (rfl)
@[simp] theorem State.bump_lineReqs : (s.bump off n).lineReqs = s.lineReqs := (rfl)
@[simp] theorem State.bump_ovhRem : (s.bump off n).ovhRem = s.ovhRem := (rfl)
@[simp] theorem State.bump_reply : (s.bump off n).reply = s.reply := (rfl)
@[simp] theorem State.bump_syncGood : (s.bump off n).syncGood = s.syncGood := (rfl)
@[simp] theorem State.bump_rels : (s.bump off n).rels = s.rels := (rfl)
@[simp] theorem State.bump_areas : (s.bump off n).areas = s.areas := (rfl)
@[simp] theorem State.bump_lastSlot : (s.bump off n).lastSlot = s.lastSlot := (rfl)
@[simp] theorem State.bump_flash : (s.bump off n).flash = s.flash := (rfl)
@[simp] theorem State.bump_nvme : (s.bump off n).nvme = s.nvme := (rfl)
@[simp] theorem State.bump_posted : (s.bump off n).posted = s.posted := (rfl)
@[simp] theorem State.bump_heldReads : (s.bump off n).heldReads = s.heldReads := (rfl)
@[simp] theorem State.bump_csetOrder : (s.bump off n).csetOrder = s.csetOrder := (rfl)
@[simp] theorem State.bump_pcie : (s.bump off n).pcie = s.pcie := (rfl)
@[simp] theorem State.bump_refLost : (s.bump off n).refLost = s.refLost := (rfl)
@[simp] theorem State.bump_hangs : (s.bump off n).hangs = s.hangs := (rfl)
@[simp] theorem State.bump_progress : (s.bump off n).progress = s.progress := (rfl)
@[simp] theorem State.bump_esc : (s.bump off n).esc = s.esc := (rfl)
@[simp] theorem State.bump_photoRun : (s.bump off n).photoRun = s.photoRun := (rfl)
@[simp] theorem State.bump_resetDue : (s.bump off n).resetDue = s.resetDue := (rfl)
@[simp] theorem State.bump_photo : (s.bump off n).photo = s.photo := (rfl)
@[simp] theorem State.bump_photoSector : (s.bump off n).photoSector = s.photoSector := (rfl)
@[simp] theorem State.bump_psc : (s.bump off n).psc = s.psc := (rfl)
@[simp] theorem State.bump_recA : (s.bump off n).recA = s.recA := (rfl)
@[simp] theorem State.bump_recB : (s.bump off n).recB = s.recB := (rfl)
@[simp] theorem State.bump_curB : (s.bump off n).curB = s.curB := (rfl)
@[simp] theorem State.bump_start : (s.bump off n).start = s.start := (rfl)
@[simp] theorem State.bump_fuses : (s.bump off n).fuses = s.fuses := (rfl)
@[simp] theorem State.bump_activation : (s.bump off n).activation = s.activation := (rfl)
@[simp] theorem State.bump_crown : (s.bump off n).crown = s.crown := (rfl)
@[simp] theorem State.bump_activeImage : (s.bump off n).activeImage = s.activeImage := (rfl)
@[simp] theorem State.bump_stageBank : (s.bump off n).stageBank = s.stageBank := (rfl)
@[simp] theorem State.bump_stgBuf : (s.bump off n).stgBuf = s.stgBuf := (rfl)
@[simp] theorem State.bump_stgAt : (s.bump off n).stgAt = s.stgAt := (rfl)
@[simp] theorem State.bump_gnt : (s.bump off n).gnt = s.gnt := (rfl)
@[simp] theorem State.bump_retrainDue : (s.bump off n).retrainDue = s.retrainDue := (rfl)
@[simp] theorem State.bump_pins : (s.bump off n).pins = s.pins := (rfl)
@[simp] theorem State.bump_smbPtr : (s.bump off n).smbPtr = s.smbPtr := (rfl)
@[simp] theorem State.bump_smbRefused : (s.bump off n).smbRefused = s.smbRefused := (rfl)
@[simp] theorem State.bump_glbCopy : (s.bump off n).glbCopy = s.glbCopy := (rfl)
end

/-! ### State.bumpWrap: changes `regs` -/

section
variable (s : State) (off n : Nat)
@[simp] theorem State.bumpWrap_pending : (s.bumpWrap off n).pending = s.pending := (rfl)
@[simp] theorem State.bumpWrap_regs : (s.bumpWrap off n).regs = smSet regReset s.regs off (s.act off + BitVec.ofNat 32 n) := (rfl)
@[simp] theorem State.bumpWrap_shadow : (s.bumpWrap off n).shadow = s.shadow := (rfl)
@[simp] theorem State.bumpWrap_ptb : (s.bumpWrap off n).ptb = s.ptb := (rfl)
@[simp] theorem State.bumpWrap_free : (s.bumpWrap off n).free = s.free := (rfl)
@[simp] theorem State.bumpWrap_cores : (s.bumpWrap off n).cores = s.cores := (rfl)
@[simp] theorem State.bumpWrap_hurdles : (s.bumpWrap off n).hurdles = s.hurdles := (rfl)
@[simp] theorem State.bumpWrap_arrivals : (s.bumpWrap off n).arrivals = s.arrivals := (rfl)
@[simp] theorem State.bumpWrap_host : (s.bumpWrap off n).host = s.host := (rfl)
@[simp] theorem State.bumpWrap_fns : (s.bumpWrap off n).fns = s.fns := (rfl)
@[simp] theorem State.bumpWrap_msix : (s.bumpWrap off n).msix = s.msix := (rfl)
@[simp] theorem State.bumpWrap_alerts : (s.bumpWrap off n).alerts = s.alerts := (rfl)
@[simp] theorem State.bumpWrap_ctxs : (s.bumpWrap off n).ctxs = s.ctxs := (rfl)
@[simp] theorem State.bumpWrap_parts : (s.bumpWrap off n).parts = s.parts := (rfl)
@[simp] theorem State.bumpWrap_dram : (s.bumpWrap off n).dram = s.dram := (rfl)
@[simp] theorem State.bumpWrap_buf : (s.bumpWrap off n).buf = s.buf := (rfl)
@[simp] theorem State.bumpWrap_poisoned : (s.bumpWrap off n).poisoned = s.poisoned := (rfl)
@[simp] theorem State.bumpWrap_rows : (s.bumpWrap off n).rows = s.rows := (rfl)
@[simp] theorem State.bumpWrap_spares : (s.bumpWrap off n).spares = s.spares := (rfl)
@[simp] theorem State.bumpWrap_repairLog : (s.bumpWrap off n).repairLog = s.repairLog := (rfl)
@[simp] theorem State.bumpWrap_retired : (s.bumpWrap off n).retired = s.retired := (rfl)
@[simp] theorem State.bumpWrap_chanOut : (s.bumpWrap off n).chanOut = s.chanOut := (rfl)
@[simp] theorem State.bumpWrap_dead : (s.bumpWrap off n).dead = s.dead := (rfl)
@[simp] theorem State.bumpWrap_tlbCore : (s.bumpWrap off n).tlbCore = s.tlbCore := (rfl)
@[simp] theorem State.bumpWrap_tlbDie : (s.bumpWrap off n).tlbDie = s.tlbDie := (rfl)
@[simp] theorem State.bumpWrap_tlbHost : (s.bumpWrap off n).tlbHost = s.tlbHost := (rfl)
@[simp] theorem State.bumpWrap_inval : (s.bumpWrap off n).inval = s.inval := (rfl)
@[simp] theorem State.bumpWrap_flushing : (s.bumpWrap off n).flushing = s.flushing := (rfl)
@[simp] theorem State.bumpWrap_hostAbsent : (s.bumpWrap off n).hostAbsent = s.hostAbsent := (rfl)
@[simp] theorem State.bumpWrap_atc : (s.bumpWrap off n).atc = s.atc := (rfl)
@[simp] theorem State.bumpWrap_atsChanged : (s.bumpWrap off n).atsChanged = s.atsChanged := (rfl)
@[simp] theorem State.bumpWrap_pageReqs : (s.bumpWrap off n).pageReqs = s.pageReqs := (rfl)
@[simp] theorem State.bumpWrap_watch : (s.bumpWrap off n).watch = s.watch := (rfl)
@[simp] theorem State.bumpWrap_spec : (s.bumpWrap off n).spec = s.spec := (rfl)
@[simp] theorem State.bumpWrap_ports : (s.bumpWrap off n).ports = s.ports := (rfl)
@[simp] theorem State.bumpWrap_dims : (s.bumpWrap off n).dims = s.dims := (rfl)
@[simp] theorem State.bumpWrap_outReq : (s.bumpWrap off n).outReq = s.outReq := (rfl)
@[simp] theorem State.bumpWrap_transit : (s.bumpWrap off n).transit = s.transit := (rfl)
@[simp] theorem State.bumpWrap_inbox : (s.bumpWrap off n).inbox = s.inbox := (rfl)
@[simp] theorem State.bumpWrap_noRoutes : (s.bumpWrap off n).noRoutes = s.noRoutes := (rfl)
@[simp] theorem State.bumpWrap_kicks : (s.bumpWrap off n).kicks = s.kicks := (rfl)
@[simp] theorem State.bumpWrap_lineReqs : (s.bumpWrap off n).lineReqs = s.lineReqs := (rfl)
@[simp] theorem State.bumpWrap_ovhRem : (s.bumpWrap off n).ovhRem = s.ovhRem := (rfl)
@[simp] theorem State.bumpWrap_reply : (s.bumpWrap off n).reply = s.reply := (rfl)
@[simp] theorem State.bumpWrap_syncGood : (s.bumpWrap off n).syncGood = s.syncGood := (rfl)
@[simp] theorem State.bumpWrap_rels : (s.bumpWrap off n).rels = s.rels := (rfl)
@[simp] theorem State.bumpWrap_areas : (s.bumpWrap off n).areas = s.areas := (rfl)
@[simp] theorem State.bumpWrap_lastSlot : (s.bumpWrap off n).lastSlot = s.lastSlot := (rfl)
@[simp] theorem State.bumpWrap_flash : (s.bumpWrap off n).flash = s.flash := (rfl)
@[simp] theorem State.bumpWrap_nvme : (s.bumpWrap off n).nvme = s.nvme := (rfl)
@[simp] theorem State.bumpWrap_posted : (s.bumpWrap off n).posted = s.posted := (rfl)
@[simp] theorem State.bumpWrap_heldReads : (s.bumpWrap off n).heldReads = s.heldReads := (rfl)
@[simp] theorem State.bumpWrap_csetOrder : (s.bumpWrap off n).csetOrder = s.csetOrder := (rfl)
@[simp] theorem State.bumpWrap_pcie : (s.bumpWrap off n).pcie = s.pcie := (rfl)
@[simp] theorem State.bumpWrap_refLost : (s.bumpWrap off n).refLost = s.refLost := (rfl)
@[simp] theorem State.bumpWrap_hangs : (s.bumpWrap off n).hangs = s.hangs := (rfl)
@[simp] theorem State.bumpWrap_progress : (s.bumpWrap off n).progress = s.progress := (rfl)
@[simp] theorem State.bumpWrap_esc : (s.bumpWrap off n).esc = s.esc := (rfl)
@[simp] theorem State.bumpWrap_photoRun : (s.bumpWrap off n).photoRun = s.photoRun := (rfl)
@[simp] theorem State.bumpWrap_resetDue : (s.bumpWrap off n).resetDue = s.resetDue := (rfl)
@[simp] theorem State.bumpWrap_photo : (s.bumpWrap off n).photo = s.photo := (rfl)
@[simp] theorem State.bumpWrap_photoSector : (s.bumpWrap off n).photoSector = s.photoSector := (rfl)
@[simp] theorem State.bumpWrap_psc : (s.bumpWrap off n).psc = s.psc := (rfl)
@[simp] theorem State.bumpWrap_recA : (s.bumpWrap off n).recA = s.recA := (rfl)
@[simp] theorem State.bumpWrap_recB : (s.bumpWrap off n).recB = s.recB := (rfl)
@[simp] theorem State.bumpWrap_curB : (s.bumpWrap off n).curB = s.curB := (rfl)
@[simp] theorem State.bumpWrap_start : (s.bumpWrap off n).start = s.start := (rfl)
@[simp] theorem State.bumpWrap_fuses : (s.bumpWrap off n).fuses = s.fuses := (rfl)
@[simp] theorem State.bumpWrap_activation : (s.bumpWrap off n).activation = s.activation := (rfl)
@[simp] theorem State.bumpWrap_crown : (s.bumpWrap off n).crown = s.crown := (rfl)
@[simp] theorem State.bumpWrap_activeImage : (s.bumpWrap off n).activeImage = s.activeImage := (rfl)
@[simp] theorem State.bumpWrap_stageBank : (s.bumpWrap off n).stageBank = s.stageBank := (rfl)
@[simp] theorem State.bumpWrap_stgBuf : (s.bumpWrap off n).stgBuf = s.stgBuf := (rfl)
@[simp] theorem State.bumpWrap_stgAt : (s.bumpWrap off n).stgAt = s.stgAt := (rfl)
@[simp] theorem State.bumpWrap_gnt : (s.bumpWrap off n).gnt = s.gnt := (rfl)
@[simp] theorem State.bumpWrap_retrainDue : (s.bumpWrap off n).retrainDue = s.retrainDue := (rfl)
@[simp] theorem State.bumpWrap_pins : (s.bumpWrap off n).pins = s.pins := (rfl)
@[simp] theorem State.bumpWrap_smbPtr : (s.bumpWrap off n).smbPtr = s.smbPtr := (rfl)
@[simp] theorem State.bumpWrap_smbRefused : (s.bumpWrap off n).smbRefused = s.smbRefused := (rfl)
@[simp] theorem State.bumpWrap_glbCopy : (s.bumpWrap off n).glbCopy = s.glbCopy := (rfl)
end

/-! ### State.bumpFld: changes `regs` -/

section
variable (s : State) (off hi lo n : Nat)
@[simp] theorem State.bumpFld_pending : (s.bumpFld off hi lo n).pending = s.pending := (rfl)
@[simp] theorem State.bumpFld_shadow : (s.bumpFld off hi lo n).shadow = s.shadow := (rfl)
@[simp] theorem State.bumpFld_ptb : (s.bumpFld off hi lo n).ptb = s.ptb := (rfl)
@[simp] theorem State.bumpFld_free : (s.bumpFld off hi lo n).free = s.free := (rfl)
@[simp] theorem State.bumpFld_cores : (s.bumpFld off hi lo n).cores = s.cores := (rfl)
@[simp] theorem State.bumpFld_hurdles : (s.bumpFld off hi lo n).hurdles = s.hurdles := (rfl)
@[simp] theorem State.bumpFld_arrivals : (s.bumpFld off hi lo n).arrivals = s.arrivals := (rfl)
@[simp] theorem State.bumpFld_host : (s.bumpFld off hi lo n).host = s.host := (rfl)
@[simp] theorem State.bumpFld_fns : (s.bumpFld off hi lo n).fns = s.fns := (rfl)
@[simp] theorem State.bumpFld_msix : (s.bumpFld off hi lo n).msix = s.msix := (rfl)
@[simp] theorem State.bumpFld_alerts : (s.bumpFld off hi lo n).alerts = s.alerts := (rfl)
@[simp] theorem State.bumpFld_ctxs : (s.bumpFld off hi lo n).ctxs = s.ctxs := (rfl)
@[simp] theorem State.bumpFld_parts : (s.bumpFld off hi lo n).parts = s.parts := (rfl)
@[simp] theorem State.bumpFld_dram : (s.bumpFld off hi lo n).dram = s.dram := (rfl)
@[simp] theorem State.bumpFld_buf : (s.bumpFld off hi lo n).buf = s.buf := (rfl)
@[simp] theorem State.bumpFld_poisoned : (s.bumpFld off hi lo n).poisoned = s.poisoned := (rfl)
@[simp] theorem State.bumpFld_rows : (s.bumpFld off hi lo n).rows = s.rows := (rfl)
@[simp] theorem State.bumpFld_spares : (s.bumpFld off hi lo n).spares = s.spares := (rfl)
@[simp] theorem State.bumpFld_repairLog : (s.bumpFld off hi lo n).repairLog = s.repairLog := (rfl)
@[simp] theorem State.bumpFld_retired : (s.bumpFld off hi lo n).retired = s.retired := (rfl)
@[simp] theorem State.bumpFld_chanOut : (s.bumpFld off hi lo n).chanOut = s.chanOut := (rfl)
@[simp] theorem State.bumpFld_dead : (s.bumpFld off hi lo n).dead = s.dead := (rfl)
@[simp] theorem State.bumpFld_tlbCore : (s.bumpFld off hi lo n).tlbCore = s.tlbCore := (rfl)
@[simp] theorem State.bumpFld_tlbDie : (s.bumpFld off hi lo n).tlbDie = s.tlbDie := (rfl)
@[simp] theorem State.bumpFld_tlbHost : (s.bumpFld off hi lo n).tlbHost = s.tlbHost := (rfl)
@[simp] theorem State.bumpFld_inval : (s.bumpFld off hi lo n).inval = s.inval := (rfl)
@[simp] theorem State.bumpFld_flushing : (s.bumpFld off hi lo n).flushing = s.flushing := (rfl)
@[simp] theorem State.bumpFld_hostAbsent : (s.bumpFld off hi lo n).hostAbsent = s.hostAbsent := (rfl)
@[simp] theorem State.bumpFld_atc : (s.bumpFld off hi lo n).atc = s.atc := (rfl)
@[simp] theorem State.bumpFld_atsChanged : (s.bumpFld off hi lo n).atsChanged = s.atsChanged := (rfl)
@[simp] theorem State.bumpFld_pageReqs : (s.bumpFld off hi lo n).pageReqs = s.pageReqs := (rfl)
@[simp] theorem State.bumpFld_watch : (s.bumpFld off hi lo n).watch = s.watch := (rfl)
@[simp] theorem State.bumpFld_spec : (s.bumpFld off hi lo n).spec = s.spec := (rfl)
@[simp] theorem State.bumpFld_ports : (s.bumpFld off hi lo n).ports = s.ports := (rfl)
@[simp] theorem State.bumpFld_dims : (s.bumpFld off hi lo n).dims = s.dims := (rfl)
@[simp] theorem State.bumpFld_outReq : (s.bumpFld off hi lo n).outReq = s.outReq := (rfl)
@[simp] theorem State.bumpFld_transit : (s.bumpFld off hi lo n).transit = s.transit := (rfl)
@[simp] theorem State.bumpFld_inbox : (s.bumpFld off hi lo n).inbox = s.inbox := (rfl)
@[simp] theorem State.bumpFld_noRoutes : (s.bumpFld off hi lo n).noRoutes = s.noRoutes := (rfl)
@[simp] theorem State.bumpFld_kicks : (s.bumpFld off hi lo n).kicks = s.kicks := (rfl)
@[simp] theorem State.bumpFld_lineReqs : (s.bumpFld off hi lo n).lineReqs = s.lineReqs := (rfl)
@[simp] theorem State.bumpFld_ovhRem : (s.bumpFld off hi lo n).ovhRem = s.ovhRem := (rfl)
@[simp] theorem State.bumpFld_reply : (s.bumpFld off hi lo n).reply = s.reply := (rfl)
@[simp] theorem State.bumpFld_syncGood : (s.bumpFld off hi lo n).syncGood = s.syncGood := (rfl)
@[simp] theorem State.bumpFld_rels : (s.bumpFld off hi lo n).rels = s.rels := (rfl)
@[simp] theorem State.bumpFld_areas : (s.bumpFld off hi lo n).areas = s.areas := (rfl)
@[simp] theorem State.bumpFld_lastSlot : (s.bumpFld off hi lo n).lastSlot = s.lastSlot := (rfl)
@[simp] theorem State.bumpFld_flash : (s.bumpFld off hi lo n).flash = s.flash := (rfl)
@[simp] theorem State.bumpFld_nvme : (s.bumpFld off hi lo n).nvme = s.nvme := (rfl)
@[simp] theorem State.bumpFld_posted : (s.bumpFld off hi lo n).posted = s.posted := (rfl)
@[simp] theorem State.bumpFld_heldReads : (s.bumpFld off hi lo n).heldReads = s.heldReads := (rfl)
@[simp] theorem State.bumpFld_csetOrder : (s.bumpFld off hi lo n).csetOrder = s.csetOrder := (rfl)
@[simp] theorem State.bumpFld_pcie : (s.bumpFld off hi lo n).pcie = s.pcie := (rfl)
@[simp] theorem State.bumpFld_refLost : (s.bumpFld off hi lo n).refLost = s.refLost := (rfl)
@[simp] theorem State.bumpFld_hangs : (s.bumpFld off hi lo n).hangs = s.hangs := (rfl)
@[simp] theorem State.bumpFld_progress : (s.bumpFld off hi lo n).progress = s.progress := (rfl)
@[simp] theorem State.bumpFld_esc : (s.bumpFld off hi lo n).esc = s.esc := (rfl)
@[simp] theorem State.bumpFld_photoRun : (s.bumpFld off hi lo n).photoRun = s.photoRun := (rfl)
@[simp] theorem State.bumpFld_resetDue : (s.bumpFld off hi lo n).resetDue = s.resetDue := (rfl)
@[simp] theorem State.bumpFld_photo : (s.bumpFld off hi lo n).photo = s.photo := (rfl)
@[simp] theorem State.bumpFld_photoSector : (s.bumpFld off hi lo n).photoSector = s.photoSector := (rfl)
@[simp] theorem State.bumpFld_psc : (s.bumpFld off hi lo n).psc = s.psc := (rfl)
@[simp] theorem State.bumpFld_recA : (s.bumpFld off hi lo n).recA = s.recA := (rfl)
@[simp] theorem State.bumpFld_recB : (s.bumpFld off hi lo n).recB = s.recB := (rfl)
@[simp] theorem State.bumpFld_curB : (s.bumpFld off hi lo n).curB = s.curB := (rfl)
@[simp] theorem State.bumpFld_start : (s.bumpFld off hi lo n).start = s.start := (rfl)
@[simp] theorem State.bumpFld_fuses : (s.bumpFld off hi lo n).fuses = s.fuses := (rfl)
@[simp] theorem State.bumpFld_activation : (s.bumpFld off hi lo n).activation = s.activation := (rfl)
@[simp] theorem State.bumpFld_crown : (s.bumpFld off hi lo n).crown = s.crown := (rfl)
@[simp] theorem State.bumpFld_activeImage : (s.bumpFld off hi lo n).activeImage = s.activeImage := (rfl)
@[simp] theorem State.bumpFld_stageBank : (s.bumpFld off hi lo n).stageBank = s.stageBank := (rfl)
@[simp] theorem State.bumpFld_stgBuf : (s.bumpFld off hi lo n).stgBuf = s.stgBuf := (rfl)
@[simp] theorem State.bumpFld_stgAt : (s.bumpFld off hi lo n).stgAt = s.stgAt := (rfl)
@[simp] theorem State.bumpFld_gnt : (s.bumpFld off hi lo n).gnt = s.gnt := (rfl)
@[simp] theorem State.bumpFld_retrainDue : (s.bumpFld off hi lo n).retrainDue = s.retrainDue := (rfl)
@[simp] theorem State.bumpFld_pins : (s.bumpFld off hi lo n).pins = s.pins := (rfl)
@[simp] theorem State.bumpFld_smbPtr : (s.bumpFld off hi lo n).smbPtr = s.smbPtr := (rfl)
@[simp] theorem State.bumpFld_smbRefused : (s.bumpFld off hi lo n).smbRefused = s.smbRefused := (rfl)
@[simp] theorem State.bumpFld_glbCopy : (s.bumpFld off hi lo n).glbCopy = s.glbCopy := (rfl)
end

/-! ### State.setPair: changes `regs` -/

section
variable (s : State) (off v : Nat)
@[simp] theorem State.setPair_pending : (s.setPair off v).pending = s.pending := (rfl)
@[simp] theorem State.setPair_shadow : (s.setPair off v).shadow = s.shadow := (rfl)
@[simp] theorem State.setPair_ptb : (s.setPair off v).ptb = s.ptb := (rfl)
@[simp] theorem State.setPair_free : (s.setPair off v).free = s.free := (rfl)
@[simp] theorem State.setPair_cores : (s.setPair off v).cores = s.cores := (rfl)
@[simp] theorem State.setPair_hurdles : (s.setPair off v).hurdles = s.hurdles := (rfl)
@[simp] theorem State.setPair_arrivals : (s.setPair off v).arrivals = s.arrivals := (rfl)
@[simp] theorem State.setPair_host : (s.setPair off v).host = s.host := (rfl)
@[simp] theorem State.setPair_fns : (s.setPair off v).fns = s.fns := (rfl)
@[simp] theorem State.setPair_msix : (s.setPair off v).msix = s.msix := (rfl)
@[simp] theorem State.setPair_alerts : (s.setPair off v).alerts = s.alerts := (rfl)
@[simp] theorem State.setPair_ctxs : (s.setPair off v).ctxs = s.ctxs := (rfl)
@[simp] theorem State.setPair_parts : (s.setPair off v).parts = s.parts := (rfl)
@[simp] theorem State.setPair_dram : (s.setPair off v).dram = s.dram := (rfl)
@[simp] theorem State.setPair_buf : (s.setPair off v).buf = s.buf := (rfl)
@[simp] theorem State.setPair_poisoned : (s.setPair off v).poisoned = s.poisoned := (rfl)
@[simp] theorem State.setPair_rows : (s.setPair off v).rows = s.rows := (rfl)
@[simp] theorem State.setPair_spares : (s.setPair off v).spares = s.spares := (rfl)
@[simp] theorem State.setPair_repairLog : (s.setPair off v).repairLog = s.repairLog := (rfl)
@[simp] theorem State.setPair_retired : (s.setPair off v).retired = s.retired := (rfl)
@[simp] theorem State.setPair_chanOut : (s.setPair off v).chanOut = s.chanOut := (rfl)
@[simp] theorem State.setPair_dead : (s.setPair off v).dead = s.dead := (rfl)
@[simp] theorem State.setPair_tlbCore : (s.setPair off v).tlbCore = s.tlbCore := (rfl)
@[simp] theorem State.setPair_tlbDie : (s.setPair off v).tlbDie = s.tlbDie := (rfl)
@[simp] theorem State.setPair_tlbHost : (s.setPair off v).tlbHost = s.tlbHost := (rfl)
@[simp] theorem State.setPair_inval : (s.setPair off v).inval = s.inval := (rfl)
@[simp] theorem State.setPair_flushing : (s.setPair off v).flushing = s.flushing := (rfl)
@[simp] theorem State.setPair_hostAbsent : (s.setPair off v).hostAbsent = s.hostAbsent := (rfl)
@[simp] theorem State.setPair_atc : (s.setPair off v).atc = s.atc := (rfl)
@[simp] theorem State.setPair_atsChanged : (s.setPair off v).atsChanged = s.atsChanged := (rfl)
@[simp] theorem State.setPair_pageReqs : (s.setPair off v).pageReqs = s.pageReqs := (rfl)
@[simp] theorem State.setPair_watch : (s.setPair off v).watch = s.watch := (rfl)
@[simp] theorem State.setPair_spec : (s.setPair off v).spec = s.spec := (rfl)
@[simp] theorem State.setPair_ports : (s.setPair off v).ports = s.ports := (rfl)
@[simp] theorem State.setPair_dims : (s.setPair off v).dims = s.dims := (rfl)
@[simp] theorem State.setPair_outReq : (s.setPair off v).outReq = s.outReq := (rfl)
@[simp] theorem State.setPair_transit : (s.setPair off v).transit = s.transit := (rfl)
@[simp] theorem State.setPair_inbox : (s.setPair off v).inbox = s.inbox := (rfl)
@[simp] theorem State.setPair_noRoutes : (s.setPair off v).noRoutes = s.noRoutes := (rfl)
@[simp] theorem State.setPair_kicks : (s.setPair off v).kicks = s.kicks := (rfl)
@[simp] theorem State.setPair_lineReqs : (s.setPair off v).lineReqs = s.lineReqs := (rfl)
@[simp] theorem State.setPair_ovhRem : (s.setPair off v).ovhRem = s.ovhRem := (rfl)
@[simp] theorem State.setPair_reply : (s.setPair off v).reply = s.reply := (rfl)
@[simp] theorem State.setPair_syncGood : (s.setPair off v).syncGood = s.syncGood := (rfl)
@[simp] theorem State.setPair_rels : (s.setPair off v).rels = s.rels := (rfl)
@[simp] theorem State.setPair_areas : (s.setPair off v).areas = s.areas := (rfl)
@[simp] theorem State.setPair_lastSlot : (s.setPair off v).lastSlot = s.lastSlot := (rfl)
@[simp] theorem State.setPair_flash : (s.setPair off v).flash = s.flash := (rfl)
@[simp] theorem State.setPair_nvme : (s.setPair off v).nvme = s.nvme := (rfl)
@[simp] theorem State.setPair_posted : (s.setPair off v).posted = s.posted := (rfl)
@[simp] theorem State.setPair_heldReads : (s.setPair off v).heldReads = s.heldReads := (rfl)
@[simp] theorem State.setPair_csetOrder : (s.setPair off v).csetOrder = s.csetOrder := (rfl)
@[simp] theorem State.setPair_pcie : (s.setPair off v).pcie = s.pcie := (rfl)
@[simp] theorem State.setPair_refLost : (s.setPair off v).refLost = s.refLost := (rfl)
@[simp] theorem State.setPair_hangs : (s.setPair off v).hangs = s.hangs := (rfl)
@[simp] theorem State.setPair_progress : (s.setPair off v).progress = s.progress := (rfl)
@[simp] theorem State.setPair_esc : (s.setPair off v).esc = s.esc := (rfl)
@[simp] theorem State.setPair_photoRun : (s.setPair off v).photoRun = s.photoRun := (rfl)
@[simp] theorem State.setPair_resetDue : (s.setPair off v).resetDue = s.resetDue := (rfl)
@[simp] theorem State.setPair_photo : (s.setPair off v).photo = s.photo := (rfl)
@[simp] theorem State.setPair_photoSector : (s.setPair off v).photoSector = s.photoSector := (rfl)
@[simp] theorem State.setPair_psc : (s.setPair off v).psc = s.psc := (rfl)
@[simp] theorem State.setPair_recA : (s.setPair off v).recA = s.recA := (rfl)
@[simp] theorem State.setPair_recB : (s.setPair off v).recB = s.recB := (rfl)
@[simp] theorem State.setPair_curB : (s.setPair off v).curB = s.curB := (rfl)
@[simp] theorem State.setPair_start : (s.setPair off v).start = s.start := (rfl)
@[simp] theorem State.setPair_fuses : (s.setPair off v).fuses = s.fuses := (rfl)
@[simp] theorem State.setPair_activation : (s.setPair off v).activation = s.activation := (rfl)
@[simp] theorem State.setPair_crown : (s.setPair off v).crown = s.crown := (rfl)
@[simp] theorem State.setPair_activeImage : (s.setPair off v).activeImage = s.activeImage := (rfl)
@[simp] theorem State.setPair_stageBank : (s.setPair off v).stageBank = s.stageBank := (rfl)
@[simp] theorem State.setPair_stgBuf : (s.setPair off v).stgBuf = s.stgBuf := (rfl)
@[simp] theorem State.setPair_stgAt : (s.setPair off v).stgAt = s.stgAt := (rfl)
@[simp] theorem State.setPair_gnt : (s.setPair off v).gnt = s.gnt := (rfl)
@[simp] theorem State.setPair_retrainDue : (s.setPair off v).retrainDue = s.retrainDue := (rfl)
@[simp] theorem State.setPair_pins : (s.setPair off v).pins = s.pins := (rfl)
@[simp] theorem State.setPair_smbPtr : (s.setPair off v).smbPtr = s.smbPtr := (rfl)
@[simp] theorem State.setPair_smbRefused : (s.setPair off v).smbRefused = s.smbRefused := (rfl)
@[simp] theorem State.setPair_glbCopy : (s.setPair off v).glbCopy = s.glbCopy := (rfl)
end

/-! ### State.modCtx: changes `ctxs` -/

section
variable (s : State) (x : CtxId) (f : Ctx → Ctx)
@[simp] theorem State.modCtx_pending : (s.modCtx x f).pending = s.pending := (rfl)
@[simp] theorem State.modCtx_regs : (s.modCtx x f).regs = s.regs := (rfl)
@[simp] theorem State.modCtx_shadow : (s.modCtx x f).shadow = s.shadow := (rfl)
@[simp] theorem State.modCtx_ptb : (s.modCtx x f).ptb = s.ptb := (rfl)
@[simp] theorem State.modCtx_free : (s.modCtx x f).free = s.free := (rfl)
@[simp] theorem State.modCtx_cores : (s.modCtx x f).cores = s.cores := (rfl)
@[simp] theorem State.modCtx_hurdles : (s.modCtx x f).hurdles = s.hurdles := (rfl)
@[simp] theorem State.modCtx_arrivals : (s.modCtx x f).arrivals = s.arrivals := (rfl)
@[simp] theorem State.modCtx_host : (s.modCtx x f).host = s.host := (rfl)
@[simp] theorem State.modCtx_fns : (s.modCtx x f).fns = s.fns := (rfl)
@[simp] theorem State.modCtx_msix : (s.modCtx x f).msix = s.msix := (rfl)
@[simp] theorem State.modCtx_alerts : (s.modCtx x f).alerts = s.alerts := (rfl)
@[simp] theorem State.modCtx_ctxs : (s.modCtx x f).ctxs = vmod s.ctxs x f := (rfl)
@[simp] theorem State.modCtx_parts : (s.modCtx x f).parts = s.parts := (rfl)
@[simp] theorem State.modCtx_dram : (s.modCtx x f).dram = s.dram := (rfl)
@[simp] theorem State.modCtx_buf : (s.modCtx x f).buf = s.buf := (rfl)
@[simp] theorem State.modCtx_poisoned : (s.modCtx x f).poisoned = s.poisoned := (rfl)
@[simp] theorem State.modCtx_rows : (s.modCtx x f).rows = s.rows := (rfl)
@[simp] theorem State.modCtx_spares : (s.modCtx x f).spares = s.spares := (rfl)
@[simp] theorem State.modCtx_repairLog : (s.modCtx x f).repairLog = s.repairLog := (rfl)
@[simp] theorem State.modCtx_retired : (s.modCtx x f).retired = s.retired := (rfl)
@[simp] theorem State.modCtx_chanOut : (s.modCtx x f).chanOut = s.chanOut := (rfl)
@[simp] theorem State.modCtx_dead : (s.modCtx x f).dead = s.dead := (rfl)
@[simp] theorem State.modCtx_tlbCore : (s.modCtx x f).tlbCore = s.tlbCore := (rfl)
@[simp] theorem State.modCtx_tlbDie : (s.modCtx x f).tlbDie = s.tlbDie := (rfl)
@[simp] theorem State.modCtx_tlbHost : (s.modCtx x f).tlbHost = s.tlbHost := (rfl)
@[simp] theorem State.modCtx_inval : (s.modCtx x f).inval = s.inval := (rfl)
@[simp] theorem State.modCtx_flushing : (s.modCtx x f).flushing = s.flushing := (rfl)
@[simp] theorem State.modCtx_hostAbsent : (s.modCtx x f).hostAbsent = s.hostAbsent := (rfl)
@[simp] theorem State.modCtx_atc : (s.modCtx x f).atc = s.atc := (rfl)
@[simp] theorem State.modCtx_atsChanged : (s.modCtx x f).atsChanged = s.atsChanged := (rfl)
@[simp] theorem State.modCtx_pageReqs : (s.modCtx x f).pageReqs = s.pageReqs := (rfl)
@[simp] theorem State.modCtx_watch : (s.modCtx x f).watch = s.watch := (rfl)
@[simp] theorem State.modCtx_spec : (s.modCtx x f).spec = s.spec := (rfl)
@[simp] theorem State.modCtx_ports : (s.modCtx x f).ports = s.ports := (rfl)
@[simp] theorem State.modCtx_dims : (s.modCtx x f).dims = s.dims := (rfl)
@[simp] theorem State.modCtx_outReq : (s.modCtx x f).outReq = s.outReq := (rfl)
@[simp] theorem State.modCtx_transit : (s.modCtx x f).transit = s.transit := (rfl)
@[simp] theorem State.modCtx_inbox : (s.modCtx x f).inbox = s.inbox := (rfl)
@[simp] theorem State.modCtx_noRoutes : (s.modCtx x f).noRoutes = s.noRoutes := (rfl)
@[simp] theorem State.modCtx_kicks : (s.modCtx x f).kicks = s.kicks := (rfl)
@[simp] theorem State.modCtx_lineReqs : (s.modCtx x f).lineReqs = s.lineReqs := (rfl)
@[simp] theorem State.modCtx_ovhRem : (s.modCtx x f).ovhRem = s.ovhRem := (rfl)
@[simp] theorem State.modCtx_reply : (s.modCtx x f).reply = s.reply := (rfl)
@[simp] theorem State.modCtx_syncGood : (s.modCtx x f).syncGood = s.syncGood := (rfl)
@[simp] theorem State.modCtx_rels : (s.modCtx x f).rels = s.rels := (rfl)
@[simp] theorem State.modCtx_areas : (s.modCtx x f).areas = s.areas := (rfl)
@[simp] theorem State.modCtx_lastSlot : (s.modCtx x f).lastSlot = s.lastSlot := (rfl)
@[simp] theorem State.modCtx_flash : (s.modCtx x f).flash = s.flash := (rfl)
@[simp] theorem State.modCtx_nvme : (s.modCtx x f).nvme = s.nvme := (rfl)
@[simp] theorem State.modCtx_posted : (s.modCtx x f).posted = s.posted := (rfl)
@[simp] theorem State.modCtx_heldReads : (s.modCtx x f).heldReads = s.heldReads := (rfl)
@[simp] theorem State.modCtx_csetOrder : (s.modCtx x f).csetOrder = s.csetOrder := (rfl)
@[simp] theorem State.modCtx_pcie : (s.modCtx x f).pcie = s.pcie := (rfl)
@[simp] theorem State.modCtx_refLost : (s.modCtx x f).refLost = s.refLost := (rfl)
@[simp] theorem State.modCtx_hangs : (s.modCtx x f).hangs = s.hangs := (rfl)
@[simp] theorem State.modCtx_progress : (s.modCtx x f).progress = s.progress := (rfl)
@[simp] theorem State.modCtx_esc : (s.modCtx x f).esc = s.esc := (rfl)
@[simp] theorem State.modCtx_photoRun : (s.modCtx x f).photoRun = s.photoRun := (rfl)
@[simp] theorem State.modCtx_resetDue : (s.modCtx x f).resetDue = s.resetDue := (rfl)
@[simp] theorem State.modCtx_photo : (s.modCtx x f).photo = s.photo := (rfl)
@[simp] theorem State.modCtx_photoSector : (s.modCtx x f).photoSector = s.photoSector := (rfl)
@[simp] theorem State.modCtx_psc : (s.modCtx x f).psc = s.psc := (rfl)
@[simp] theorem State.modCtx_recA : (s.modCtx x f).recA = s.recA := (rfl)
@[simp] theorem State.modCtx_recB : (s.modCtx x f).recB = s.recB := (rfl)
@[simp] theorem State.modCtx_curB : (s.modCtx x f).curB = s.curB := (rfl)
@[simp] theorem State.modCtx_start : (s.modCtx x f).start = s.start := (rfl)
@[simp] theorem State.modCtx_fuses : (s.modCtx x f).fuses = s.fuses := (rfl)
@[simp] theorem State.modCtx_activation : (s.modCtx x f).activation = s.activation := (rfl)
@[simp] theorem State.modCtx_crown : (s.modCtx x f).crown = s.crown := (rfl)
@[simp] theorem State.modCtx_activeImage : (s.modCtx x f).activeImage = s.activeImage := (rfl)
@[simp] theorem State.modCtx_stageBank : (s.modCtx x f).stageBank = s.stageBank := (rfl)
@[simp] theorem State.modCtx_stgBuf : (s.modCtx x f).stgBuf = s.stgBuf := (rfl)
@[simp] theorem State.modCtx_stgAt : (s.modCtx x f).stgAt = s.stgAt := (rfl)
@[simp] theorem State.modCtx_gnt : (s.modCtx x f).gnt = s.gnt := (rfl)
@[simp] theorem State.modCtx_retrainDue : (s.modCtx x f).retrainDue = s.retrainDue := (rfl)
@[simp] theorem State.modCtx_pins : (s.modCtx x f).pins = s.pins := (rfl)
@[simp] theorem State.modCtx_smbPtr : (s.modCtx x f).smbPtr = s.smbPtr := (rfl)
@[simp] theorem State.modCtx_smbRefused : (s.modCtx x f).smbRefused = s.smbRefused := (rfl)
@[simp] theorem State.modCtx_glbCopy : (s.modCtx x f).glbCopy = s.glbCopy := (rfl)
end

/-! ### State.modPart: changes `parts` -/

section
variable (s : State) (p : CoreId) (f : Part → Part)
@[simp] theorem State.modPart_pending : (s.modPart p f).pending = s.pending := (rfl)
@[simp] theorem State.modPart_regs : (s.modPart p f).regs = s.regs := (rfl)
@[simp] theorem State.modPart_shadow : (s.modPart p f).shadow = s.shadow := (rfl)
@[simp] theorem State.modPart_ptb : (s.modPart p f).ptb = s.ptb := (rfl)
@[simp] theorem State.modPart_free : (s.modPart p f).free = s.free := (rfl)
@[simp] theorem State.modPart_cores : (s.modPart p f).cores = s.cores := (rfl)
@[simp] theorem State.modPart_hurdles : (s.modPart p f).hurdles = s.hurdles := (rfl)
@[simp] theorem State.modPart_arrivals : (s.modPart p f).arrivals = s.arrivals := (rfl)
@[simp] theorem State.modPart_host : (s.modPart p f).host = s.host := (rfl)
@[simp] theorem State.modPart_fns : (s.modPart p f).fns = s.fns := (rfl)
@[simp] theorem State.modPart_msix : (s.modPart p f).msix = s.msix := (rfl)
@[simp] theorem State.modPart_alerts : (s.modPart p f).alerts = s.alerts := (rfl)
@[simp] theorem State.modPart_ctxs : (s.modPart p f).ctxs = s.ctxs := (rfl)
@[simp] theorem State.modPart_parts : (s.modPart p f).parts = vmod s.parts p f := (rfl)
@[simp] theorem State.modPart_dram : (s.modPart p f).dram = s.dram := (rfl)
@[simp] theorem State.modPart_buf : (s.modPart p f).buf = s.buf := (rfl)
@[simp] theorem State.modPart_poisoned : (s.modPart p f).poisoned = s.poisoned := (rfl)
@[simp] theorem State.modPart_rows : (s.modPart p f).rows = s.rows := (rfl)
@[simp] theorem State.modPart_spares : (s.modPart p f).spares = s.spares := (rfl)
@[simp] theorem State.modPart_repairLog : (s.modPart p f).repairLog = s.repairLog := (rfl)
@[simp] theorem State.modPart_retired : (s.modPart p f).retired = s.retired := (rfl)
@[simp] theorem State.modPart_chanOut : (s.modPart p f).chanOut = s.chanOut := (rfl)
@[simp] theorem State.modPart_dead : (s.modPart p f).dead = s.dead := (rfl)
@[simp] theorem State.modPart_tlbCore : (s.modPart p f).tlbCore = s.tlbCore := (rfl)
@[simp] theorem State.modPart_tlbDie : (s.modPart p f).tlbDie = s.tlbDie := (rfl)
@[simp] theorem State.modPart_tlbHost : (s.modPart p f).tlbHost = s.tlbHost := (rfl)
@[simp] theorem State.modPart_inval : (s.modPart p f).inval = s.inval := (rfl)
@[simp] theorem State.modPart_flushing : (s.modPart p f).flushing = s.flushing := (rfl)
@[simp] theorem State.modPart_hostAbsent : (s.modPart p f).hostAbsent = s.hostAbsent := (rfl)
@[simp] theorem State.modPart_atc : (s.modPart p f).atc = s.atc := (rfl)
@[simp] theorem State.modPart_atsChanged : (s.modPart p f).atsChanged = s.atsChanged := (rfl)
@[simp] theorem State.modPart_pageReqs : (s.modPart p f).pageReqs = s.pageReqs := (rfl)
@[simp] theorem State.modPart_watch : (s.modPart p f).watch = s.watch := (rfl)
@[simp] theorem State.modPart_spec : (s.modPart p f).spec = s.spec := (rfl)
@[simp] theorem State.modPart_ports : (s.modPart p f).ports = s.ports := (rfl)
@[simp] theorem State.modPart_dims : (s.modPart p f).dims = s.dims := (rfl)
@[simp] theorem State.modPart_outReq : (s.modPart p f).outReq = s.outReq := (rfl)
@[simp] theorem State.modPart_transit : (s.modPart p f).transit = s.transit := (rfl)
@[simp] theorem State.modPart_inbox : (s.modPart p f).inbox = s.inbox := (rfl)
@[simp] theorem State.modPart_noRoutes : (s.modPart p f).noRoutes = s.noRoutes := (rfl)
@[simp] theorem State.modPart_kicks : (s.modPart p f).kicks = s.kicks := (rfl)
@[simp] theorem State.modPart_lineReqs : (s.modPart p f).lineReqs = s.lineReqs := (rfl)
@[simp] theorem State.modPart_ovhRem : (s.modPart p f).ovhRem = s.ovhRem := (rfl)
@[simp] theorem State.modPart_reply : (s.modPart p f).reply = s.reply := (rfl)
@[simp] theorem State.modPart_syncGood : (s.modPart p f).syncGood = s.syncGood := (rfl)
@[simp] theorem State.modPart_rels : (s.modPart p f).rels = s.rels := (rfl)
@[simp] theorem State.modPart_areas : (s.modPart p f).areas = s.areas := (rfl)
@[simp] theorem State.modPart_lastSlot : (s.modPart p f).lastSlot = s.lastSlot := (rfl)
@[simp] theorem State.modPart_flash : (s.modPart p f).flash = s.flash := (rfl)
@[simp] theorem State.modPart_nvme : (s.modPart p f).nvme = s.nvme := (rfl)
@[simp] theorem State.modPart_posted : (s.modPart p f).posted = s.posted := (rfl)
@[simp] theorem State.modPart_heldReads : (s.modPart p f).heldReads = s.heldReads := (rfl)
@[simp] theorem State.modPart_csetOrder : (s.modPart p f).csetOrder = s.csetOrder := (rfl)
@[simp] theorem State.modPart_pcie : (s.modPart p f).pcie = s.pcie := (rfl)
@[simp] theorem State.modPart_refLost : (s.modPart p f).refLost = s.refLost := (rfl)
@[simp] theorem State.modPart_hangs : (s.modPart p f).hangs = s.hangs := (rfl)
@[simp] theorem State.modPart_progress : (s.modPart p f).progress = s.progress := (rfl)
@[simp] theorem State.modPart_esc : (s.modPart p f).esc = s.esc := (rfl)
@[simp] theorem State.modPart_photoRun : (s.modPart p f).photoRun = s.photoRun := (rfl)
@[simp] theorem State.modPart_resetDue : (s.modPart p f).resetDue = s.resetDue := (rfl)
@[simp] theorem State.modPart_photo : (s.modPart p f).photo = s.photo := (rfl)
@[simp] theorem State.modPart_photoSector : (s.modPart p f).photoSector = s.photoSector := (rfl)
@[simp] theorem State.modPart_psc : (s.modPart p f).psc = s.psc := (rfl)
@[simp] theorem State.modPart_recA : (s.modPart p f).recA = s.recA := (rfl)
@[simp] theorem State.modPart_recB : (s.modPart p f).recB = s.recB := (rfl)
@[simp] theorem State.modPart_curB : (s.modPart p f).curB = s.curB := (rfl)
@[simp] theorem State.modPart_start : (s.modPart p f).start = s.start := (rfl)
@[simp] theorem State.modPart_fuses : (s.modPart p f).fuses = s.fuses := (rfl)
@[simp] theorem State.modPart_activation : (s.modPart p f).activation = s.activation := (rfl)
@[simp] theorem State.modPart_crown : (s.modPart p f).crown = s.crown := (rfl)
@[simp] theorem State.modPart_activeImage : (s.modPart p f).activeImage = s.activeImage := (rfl)
@[simp] theorem State.modPart_stageBank : (s.modPart p f).stageBank = s.stageBank := (rfl)
@[simp] theorem State.modPart_stgBuf : (s.modPart p f).stgBuf = s.stgBuf := (rfl)
@[simp] theorem State.modPart_stgAt : (s.modPart p f).stgAt = s.stgAt := (rfl)
@[simp] theorem State.modPart_gnt : (s.modPart p f).gnt = s.gnt := (rfl)
@[simp] theorem State.modPart_retrainDue : (s.modPart p f).retrainDue = s.retrainDue := (rfl)
@[simp] theorem State.modPart_pins : (s.modPart p f).pins = s.pins := (rfl)
@[simp] theorem State.modPart_smbPtr : (s.modPart p f).smbPtr = s.smbPtr := (rfl)
@[simp] theorem State.modPart_smbRefused : (s.modPart p f).smbRefused = s.smbRefused := (rfl)
@[simp] theorem State.modPart_glbCopy : (s.modPart p f).glbCopy = s.glbCopy := (rfl)
end

/-! ### State.modFn: changes `fns` -/

section
variable (s : State) (f : FnId) (g : Fn → Fn)
@[simp] theorem State.modFn_pending : (s.modFn f g).pending = s.pending := (rfl)
@[simp] theorem State.modFn_regs : (s.modFn f g).regs = s.regs := (rfl)
@[simp] theorem State.modFn_shadow : (s.modFn f g).shadow = s.shadow := (rfl)
@[simp] theorem State.modFn_ptb : (s.modFn f g).ptb = s.ptb := (rfl)
@[simp] theorem State.modFn_free : (s.modFn f g).free = s.free := (rfl)
@[simp] theorem State.modFn_cores : (s.modFn f g).cores = s.cores := (rfl)
@[simp] theorem State.modFn_hurdles : (s.modFn f g).hurdles = s.hurdles := (rfl)
@[simp] theorem State.modFn_arrivals : (s.modFn f g).arrivals = s.arrivals := (rfl)
@[simp] theorem State.modFn_host : (s.modFn f g).host = s.host := (rfl)
@[simp] theorem State.modFn_fns : (s.modFn f g).fns = vmod s.fns f g := (rfl)
@[simp] theorem State.modFn_msix : (s.modFn f g).msix = s.msix := (rfl)
@[simp] theorem State.modFn_alerts : (s.modFn f g).alerts = s.alerts := (rfl)
@[simp] theorem State.modFn_ctxs : (s.modFn f g).ctxs = s.ctxs := (rfl)
@[simp] theorem State.modFn_parts : (s.modFn f g).parts = s.parts := (rfl)
@[simp] theorem State.modFn_dram : (s.modFn f g).dram = s.dram := (rfl)
@[simp] theorem State.modFn_buf : (s.modFn f g).buf = s.buf := (rfl)
@[simp] theorem State.modFn_poisoned : (s.modFn f g).poisoned = s.poisoned := (rfl)
@[simp] theorem State.modFn_rows : (s.modFn f g).rows = s.rows := (rfl)
@[simp] theorem State.modFn_spares : (s.modFn f g).spares = s.spares := (rfl)
@[simp] theorem State.modFn_repairLog : (s.modFn f g).repairLog = s.repairLog := (rfl)
@[simp] theorem State.modFn_retired : (s.modFn f g).retired = s.retired := (rfl)
@[simp] theorem State.modFn_chanOut : (s.modFn f g).chanOut = s.chanOut := (rfl)
@[simp] theorem State.modFn_dead : (s.modFn f g).dead = s.dead := (rfl)
@[simp] theorem State.modFn_tlbCore : (s.modFn f g).tlbCore = s.tlbCore := (rfl)
@[simp] theorem State.modFn_tlbDie : (s.modFn f g).tlbDie = s.tlbDie := (rfl)
@[simp] theorem State.modFn_tlbHost : (s.modFn f g).tlbHost = s.tlbHost := (rfl)
@[simp] theorem State.modFn_inval : (s.modFn f g).inval = s.inval := (rfl)
@[simp] theorem State.modFn_flushing : (s.modFn f g).flushing = s.flushing := (rfl)
@[simp] theorem State.modFn_hostAbsent : (s.modFn f g).hostAbsent = s.hostAbsent := (rfl)
@[simp] theorem State.modFn_atc : (s.modFn f g).atc = s.atc := (rfl)
@[simp] theorem State.modFn_atsChanged : (s.modFn f g).atsChanged = s.atsChanged := (rfl)
@[simp] theorem State.modFn_pageReqs : (s.modFn f g).pageReqs = s.pageReqs := (rfl)
@[simp] theorem State.modFn_watch : (s.modFn f g).watch = s.watch := (rfl)
@[simp] theorem State.modFn_spec : (s.modFn f g).spec = s.spec := (rfl)
@[simp] theorem State.modFn_ports : (s.modFn f g).ports = s.ports := (rfl)
@[simp] theorem State.modFn_dims : (s.modFn f g).dims = s.dims := (rfl)
@[simp] theorem State.modFn_outReq : (s.modFn f g).outReq = s.outReq := (rfl)
@[simp] theorem State.modFn_transit : (s.modFn f g).transit = s.transit := (rfl)
@[simp] theorem State.modFn_inbox : (s.modFn f g).inbox = s.inbox := (rfl)
@[simp] theorem State.modFn_noRoutes : (s.modFn f g).noRoutes = s.noRoutes := (rfl)
@[simp] theorem State.modFn_kicks : (s.modFn f g).kicks = s.kicks := (rfl)
@[simp] theorem State.modFn_lineReqs : (s.modFn f g).lineReqs = s.lineReqs := (rfl)
@[simp] theorem State.modFn_ovhRem : (s.modFn f g).ovhRem = s.ovhRem := (rfl)
@[simp] theorem State.modFn_reply : (s.modFn f g).reply = s.reply := (rfl)
@[simp] theorem State.modFn_syncGood : (s.modFn f g).syncGood = s.syncGood := (rfl)
@[simp] theorem State.modFn_rels : (s.modFn f g).rels = s.rels := (rfl)
@[simp] theorem State.modFn_areas : (s.modFn f g).areas = s.areas := (rfl)
@[simp] theorem State.modFn_lastSlot : (s.modFn f g).lastSlot = s.lastSlot := (rfl)
@[simp] theorem State.modFn_flash : (s.modFn f g).flash = s.flash := (rfl)
@[simp] theorem State.modFn_nvme : (s.modFn f g).nvme = s.nvme := (rfl)
@[simp] theorem State.modFn_posted : (s.modFn f g).posted = s.posted := (rfl)
@[simp] theorem State.modFn_heldReads : (s.modFn f g).heldReads = s.heldReads := (rfl)
@[simp] theorem State.modFn_csetOrder : (s.modFn f g).csetOrder = s.csetOrder := (rfl)
@[simp] theorem State.modFn_pcie : (s.modFn f g).pcie = s.pcie := (rfl)
@[simp] theorem State.modFn_refLost : (s.modFn f g).refLost = s.refLost := (rfl)
@[simp] theorem State.modFn_hangs : (s.modFn f g).hangs = s.hangs := (rfl)
@[simp] theorem State.modFn_progress : (s.modFn f g).progress = s.progress := (rfl)
@[simp] theorem State.modFn_esc : (s.modFn f g).esc = s.esc := (rfl)
@[simp] theorem State.modFn_photoRun : (s.modFn f g).photoRun = s.photoRun := (rfl)
@[simp] theorem State.modFn_resetDue : (s.modFn f g).resetDue = s.resetDue := (rfl)
@[simp] theorem State.modFn_photo : (s.modFn f g).photo = s.photo := (rfl)
@[simp] theorem State.modFn_photoSector : (s.modFn f g).photoSector = s.photoSector := (rfl)
@[simp] theorem State.modFn_psc : (s.modFn f g).psc = s.psc := (rfl)
@[simp] theorem State.modFn_recA : (s.modFn f g).recA = s.recA := (rfl)
@[simp] theorem State.modFn_recB : (s.modFn f g).recB = s.recB := (rfl)
@[simp] theorem State.modFn_curB : (s.modFn f g).curB = s.curB := (rfl)
@[simp] theorem State.modFn_start : (s.modFn f g).start = s.start := (rfl)
@[simp] theorem State.modFn_fuses : (s.modFn f g).fuses = s.fuses := (rfl)
@[simp] theorem State.modFn_activation : (s.modFn f g).activation = s.activation := (rfl)
@[simp] theorem State.modFn_crown : (s.modFn f g).crown = s.crown := (rfl)
@[simp] theorem State.modFn_activeImage : (s.modFn f g).activeImage = s.activeImage := (rfl)
@[simp] theorem State.modFn_stageBank : (s.modFn f g).stageBank = s.stageBank := (rfl)
@[simp] theorem State.modFn_stgBuf : (s.modFn f g).stgBuf = s.stgBuf := (rfl)
@[simp] theorem State.modFn_stgAt : (s.modFn f g).stgAt = s.stgAt := (rfl)
@[simp] theorem State.modFn_gnt : (s.modFn f g).gnt = s.gnt := (rfl)
@[simp] theorem State.modFn_retrainDue : (s.modFn f g).retrainDue = s.retrainDue := (rfl)
@[simp] theorem State.modFn_pins : (s.modFn f g).pins = s.pins := (rfl)
@[simp] theorem State.modFn_smbPtr : (s.modFn f g).smbPtr = s.smbPtr := (rfl)
@[simp] theorem State.modFn_smbRefused : (s.modFn f g).smbRefused = s.smbRefused := (rfl)
@[simp] theorem State.modFn_glbCopy : (s.modFn f g).glbCopy = s.glbCopy := (rfl)
end

/-! ### State.setQueue: changes `fns` -/

section
variable (s : State) (f : FnId) (q : Nat) (x : Option Queue)
@[simp] theorem State.setQueue_pending : (s.setQueue f q x).pending = s.pending := (rfl)
@[simp] theorem State.setQueue_regs : (s.setQueue f q x).regs = s.regs := (rfl)
@[simp] theorem State.setQueue_shadow : (s.setQueue f q x).shadow = s.shadow := (rfl)
@[simp] theorem State.setQueue_ptb : (s.setQueue f q x).ptb = s.ptb := (rfl)
@[simp] theorem State.setQueue_free : (s.setQueue f q x).free = s.free := (rfl)
@[simp] theorem State.setQueue_cores : (s.setQueue f q x).cores = s.cores := (rfl)
@[simp] theorem State.setQueue_hurdles : (s.setQueue f q x).hurdles = s.hurdles := (rfl)
@[simp] theorem State.setQueue_arrivals : (s.setQueue f q x).arrivals = s.arrivals := (rfl)
@[simp] theorem State.setQueue_host : (s.setQueue f q x).host = s.host := (rfl)
@[simp] theorem State.setQueue_fns : (s.setQueue f q x).fns = vmod s.fns f (fun n => { n with queues := smSet noQueue n.queues q x }) := (rfl)
@[simp] theorem State.setQueue_msix : (s.setQueue f q x).msix = s.msix := (rfl)
@[simp] theorem State.setQueue_alerts : (s.setQueue f q x).alerts = s.alerts := (rfl)
@[simp] theorem State.setQueue_ctxs : (s.setQueue f q x).ctxs = s.ctxs := (rfl)
@[simp] theorem State.setQueue_parts : (s.setQueue f q x).parts = s.parts := (rfl)
@[simp] theorem State.setQueue_dram : (s.setQueue f q x).dram = s.dram := (rfl)
@[simp] theorem State.setQueue_buf : (s.setQueue f q x).buf = s.buf := (rfl)
@[simp] theorem State.setQueue_poisoned : (s.setQueue f q x).poisoned = s.poisoned := (rfl)
@[simp] theorem State.setQueue_rows : (s.setQueue f q x).rows = s.rows := (rfl)
@[simp] theorem State.setQueue_spares : (s.setQueue f q x).spares = s.spares := (rfl)
@[simp] theorem State.setQueue_repairLog : (s.setQueue f q x).repairLog = s.repairLog := (rfl)
@[simp] theorem State.setQueue_retired : (s.setQueue f q x).retired = s.retired := (rfl)
@[simp] theorem State.setQueue_chanOut : (s.setQueue f q x).chanOut = s.chanOut := (rfl)
@[simp] theorem State.setQueue_dead : (s.setQueue f q x).dead = s.dead := (rfl)
@[simp] theorem State.setQueue_tlbCore : (s.setQueue f q x).tlbCore = s.tlbCore := (rfl)
@[simp] theorem State.setQueue_tlbDie : (s.setQueue f q x).tlbDie = s.tlbDie := (rfl)
@[simp] theorem State.setQueue_tlbHost : (s.setQueue f q x).tlbHost = s.tlbHost := (rfl)
@[simp] theorem State.setQueue_inval : (s.setQueue f q x).inval = s.inval := (rfl)
@[simp] theorem State.setQueue_flushing : (s.setQueue f q x).flushing = s.flushing := (rfl)
@[simp] theorem State.setQueue_hostAbsent : (s.setQueue f q x).hostAbsent = s.hostAbsent := (rfl)
@[simp] theorem State.setQueue_atc : (s.setQueue f q x).atc = s.atc := (rfl)
@[simp] theorem State.setQueue_atsChanged : (s.setQueue f q x).atsChanged = s.atsChanged := (rfl)
@[simp] theorem State.setQueue_pageReqs : (s.setQueue f q x).pageReqs = s.pageReqs := (rfl)
@[simp] theorem State.setQueue_watch : (s.setQueue f q x).watch = s.watch := (rfl)
@[simp] theorem State.setQueue_spec : (s.setQueue f q x).spec = s.spec := (rfl)
@[simp] theorem State.setQueue_ports : (s.setQueue f q x).ports = s.ports := (rfl)
@[simp] theorem State.setQueue_dims : (s.setQueue f q x).dims = s.dims := (rfl)
@[simp] theorem State.setQueue_outReq : (s.setQueue f q x).outReq = s.outReq := (rfl)
@[simp] theorem State.setQueue_transit : (s.setQueue f q x).transit = s.transit := (rfl)
@[simp] theorem State.setQueue_inbox : (s.setQueue f q x).inbox = s.inbox := (rfl)
@[simp] theorem State.setQueue_noRoutes : (s.setQueue f q x).noRoutes = s.noRoutes := (rfl)
@[simp] theorem State.setQueue_kicks : (s.setQueue f q x).kicks = s.kicks := (rfl)
@[simp] theorem State.setQueue_lineReqs : (s.setQueue f q x).lineReqs = s.lineReqs := (rfl)
@[simp] theorem State.setQueue_ovhRem : (s.setQueue f q x).ovhRem = s.ovhRem := (rfl)
@[simp] theorem State.setQueue_reply : (s.setQueue f q x).reply = s.reply := (rfl)
@[simp] theorem State.setQueue_syncGood : (s.setQueue f q x).syncGood = s.syncGood := (rfl)
@[simp] theorem State.setQueue_rels : (s.setQueue f q x).rels = s.rels := (rfl)
@[simp] theorem State.setQueue_areas : (s.setQueue f q x).areas = s.areas := (rfl)
@[simp] theorem State.setQueue_lastSlot : (s.setQueue f q x).lastSlot = s.lastSlot := (rfl)
@[simp] theorem State.setQueue_flash : (s.setQueue f q x).flash = s.flash := (rfl)
@[simp] theorem State.setQueue_nvme : (s.setQueue f q x).nvme = s.nvme := (rfl)
@[simp] theorem State.setQueue_posted : (s.setQueue f q x).posted = s.posted := (rfl)
@[simp] theorem State.setQueue_heldReads : (s.setQueue f q x).heldReads = s.heldReads := (rfl)
@[simp] theorem State.setQueue_csetOrder : (s.setQueue f q x).csetOrder = s.csetOrder := (rfl)
@[simp] theorem State.setQueue_pcie : (s.setQueue f q x).pcie = s.pcie := (rfl)
@[simp] theorem State.setQueue_refLost : (s.setQueue f q x).refLost = s.refLost := (rfl)
@[simp] theorem State.setQueue_hangs : (s.setQueue f q x).hangs = s.hangs := (rfl)
@[simp] theorem State.setQueue_progress : (s.setQueue f q x).progress = s.progress := (rfl)
@[simp] theorem State.setQueue_esc : (s.setQueue f q x).esc = s.esc := (rfl)
@[simp] theorem State.setQueue_photoRun : (s.setQueue f q x).photoRun = s.photoRun := (rfl)
@[simp] theorem State.setQueue_resetDue : (s.setQueue f q x).resetDue = s.resetDue := (rfl)
@[simp] theorem State.setQueue_photo : (s.setQueue f q x).photo = s.photo := (rfl)
@[simp] theorem State.setQueue_photoSector : (s.setQueue f q x).photoSector = s.photoSector := (rfl)
@[simp] theorem State.setQueue_psc : (s.setQueue f q x).psc = s.psc := (rfl)
@[simp] theorem State.setQueue_recA : (s.setQueue f q x).recA = s.recA := (rfl)
@[simp] theorem State.setQueue_recB : (s.setQueue f q x).recB = s.recB := (rfl)
@[simp] theorem State.setQueue_curB : (s.setQueue f q x).curB = s.curB := (rfl)
@[simp] theorem State.setQueue_start : (s.setQueue f q x).start = s.start := (rfl)
@[simp] theorem State.setQueue_fuses : (s.setQueue f q x).fuses = s.fuses := (rfl)
@[simp] theorem State.setQueue_activation : (s.setQueue f q x).activation = s.activation := (rfl)
@[simp] theorem State.setQueue_crown : (s.setQueue f q x).crown = s.crown := (rfl)
@[simp] theorem State.setQueue_activeImage : (s.setQueue f q x).activeImage = s.activeImage := (rfl)
@[simp] theorem State.setQueue_stageBank : (s.setQueue f q x).stageBank = s.stageBank := (rfl)
@[simp] theorem State.setQueue_stgBuf : (s.setQueue f q x).stgBuf = s.stgBuf := (rfl)
@[simp] theorem State.setQueue_stgAt : (s.setQueue f q x).stgAt = s.stgAt := (rfl)
@[simp] theorem State.setQueue_gnt : (s.setQueue f q x).gnt = s.gnt := (rfl)
@[simp] theorem State.setQueue_retrainDue : (s.setQueue f q x).retrainDue = s.retrainDue := (rfl)
@[simp] theorem State.setQueue_pins : (s.setQueue f q x).pins = s.pins := (rfl)
@[simp] theorem State.setQueue_smbPtr : (s.setQueue f q x).smbPtr = s.smbPtr := (rfl)
@[simp] theorem State.setQueue_smbRefused : (s.setQueue f q x).smbRefused = s.smbRefused := (rfl)
@[simp] theorem State.setQueue_glbCopy : (s.setQueue f q x).glbCopy = s.glbCopy := (rfl)
end

/-! ### State.modPort: changes `ports` -/

section
variable (s : State) (p : PortId) (f : Port → Port)
@[simp] theorem State.modPort_pending : (s.modPort p f).pending = s.pending := (rfl)
@[simp] theorem State.modPort_regs : (s.modPort p f).regs = s.regs := (rfl)
@[simp] theorem State.modPort_shadow : (s.modPort p f).shadow = s.shadow := (rfl)
@[simp] theorem State.modPort_ptb : (s.modPort p f).ptb = s.ptb := (rfl)
@[simp] theorem State.modPort_free : (s.modPort p f).free = s.free := (rfl)
@[simp] theorem State.modPort_cores : (s.modPort p f).cores = s.cores := (rfl)
@[simp] theorem State.modPort_hurdles : (s.modPort p f).hurdles = s.hurdles := (rfl)
@[simp] theorem State.modPort_arrivals : (s.modPort p f).arrivals = s.arrivals := (rfl)
@[simp] theorem State.modPort_host : (s.modPort p f).host = s.host := (rfl)
@[simp] theorem State.modPort_fns : (s.modPort p f).fns = s.fns := (rfl)
@[simp] theorem State.modPort_msix : (s.modPort p f).msix = s.msix := (rfl)
@[simp] theorem State.modPort_alerts : (s.modPort p f).alerts = s.alerts := (rfl)
@[simp] theorem State.modPort_ctxs : (s.modPort p f).ctxs = s.ctxs := (rfl)
@[simp] theorem State.modPort_parts : (s.modPort p f).parts = s.parts := (rfl)
@[simp] theorem State.modPort_dram : (s.modPort p f).dram = s.dram := (rfl)
@[simp] theorem State.modPort_buf : (s.modPort p f).buf = s.buf := (rfl)
@[simp] theorem State.modPort_poisoned : (s.modPort p f).poisoned = s.poisoned := (rfl)
@[simp] theorem State.modPort_rows : (s.modPort p f).rows = s.rows := (rfl)
@[simp] theorem State.modPort_spares : (s.modPort p f).spares = s.spares := (rfl)
@[simp] theorem State.modPort_repairLog : (s.modPort p f).repairLog = s.repairLog := (rfl)
@[simp] theorem State.modPort_retired : (s.modPort p f).retired = s.retired := (rfl)
@[simp] theorem State.modPort_chanOut : (s.modPort p f).chanOut = s.chanOut := (rfl)
@[simp] theorem State.modPort_dead : (s.modPort p f).dead = s.dead := (rfl)
@[simp] theorem State.modPort_tlbCore : (s.modPort p f).tlbCore = s.tlbCore := (rfl)
@[simp] theorem State.modPort_tlbDie : (s.modPort p f).tlbDie = s.tlbDie := (rfl)
@[simp] theorem State.modPort_tlbHost : (s.modPort p f).tlbHost = s.tlbHost := (rfl)
@[simp] theorem State.modPort_inval : (s.modPort p f).inval = s.inval := (rfl)
@[simp] theorem State.modPort_flushing : (s.modPort p f).flushing = s.flushing := (rfl)
@[simp] theorem State.modPort_hostAbsent : (s.modPort p f).hostAbsent = s.hostAbsent := (rfl)
@[simp] theorem State.modPort_atc : (s.modPort p f).atc = s.atc := (rfl)
@[simp] theorem State.modPort_atsChanged : (s.modPort p f).atsChanged = s.atsChanged := (rfl)
@[simp] theorem State.modPort_pageReqs : (s.modPort p f).pageReqs = s.pageReqs := (rfl)
@[simp] theorem State.modPort_watch : (s.modPort p f).watch = s.watch := (rfl)
@[simp] theorem State.modPort_spec : (s.modPort p f).spec = s.spec := (rfl)
@[simp] theorem State.modPort_ports : (s.modPort p f).ports = vmod s.ports p f := (rfl)
@[simp] theorem State.modPort_dims : (s.modPort p f).dims = s.dims := (rfl)
@[simp] theorem State.modPort_outReq : (s.modPort p f).outReq = s.outReq := (rfl)
@[simp] theorem State.modPort_transit : (s.modPort p f).transit = s.transit := (rfl)
@[simp] theorem State.modPort_inbox : (s.modPort p f).inbox = s.inbox := (rfl)
@[simp] theorem State.modPort_noRoutes : (s.modPort p f).noRoutes = s.noRoutes := (rfl)
@[simp] theorem State.modPort_kicks : (s.modPort p f).kicks = s.kicks := (rfl)
@[simp] theorem State.modPort_lineReqs : (s.modPort p f).lineReqs = s.lineReqs := (rfl)
@[simp] theorem State.modPort_ovhRem : (s.modPort p f).ovhRem = s.ovhRem := (rfl)
@[simp] theorem State.modPort_reply : (s.modPort p f).reply = s.reply := (rfl)
@[simp] theorem State.modPort_syncGood : (s.modPort p f).syncGood = s.syncGood := (rfl)
@[simp] theorem State.modPort_rels : (s.modPort p f).rels = s.rels := (rfl)
@[simp] theorem State.modPort_areas : (s.modPort p f).areas = s.areas := (rfl)
@[simp] theorem State.modPort_lastSlot : (s.modPort p f).lastSlot = s.lastSlot := (rfl)
@[simp] theorem State.modPort_flash : (s.modPort p f).flash = s.flash := (rfl)
@[simp] theorem State.modPort_nvme : (s.modPort p f).nvme = s.nvme := (rfl)
@[simp] theorem State.modPort_posted : (s.modPort p f).posted = s.posted := (rfl)
@[simp] theorem State.modPort_heldReads : (s.modPort p f).heldReads = s.heldReads := (rfl)
@[simp] theorem State.modPort_csetOrder : (s.modPort p f).csetOrder = s.csetOrder := (rfl)
@[simp] theorem State.modPort_pcie : (s.modPort p f).pcie = s.pcie := (rfl)
@[simp] theorem State.modPort_refLost : (s.modPort p f).refLost = s.refLost := (rfl)
@[simp] theorem State.modPort_hangs : (s.modPort p f).hangs = s.hangs := (rfl)
@[simp] theorem State.modPort_progress : (s.modPort p f).progress = s.progress := (rfl)
@[simp] theorem State.modPort_esc : (s.modPort p f).esc = s.esc := (rfl)
@[simp] theorem State.modPort_photoRun : (s.modPort p f).photoRun = s.photoRun := (rfl)
@[simp] theorem State.modPort_resetDue : (s.modPort p f).resetDue = s.resetDue := (rfl)
@[simp] theorem State.modPort_photo : (s.modPort p f).photo = s.photo := (rfl)
@[simp] theorem State.modPort_photoSector : (s.modPort p f).photoSector = s.photoSector := (rfl)
@[simp] theorem State.modPort_psc : (s.modPort p f).psc = s.psc := (rfl)
@[simp] theorem State.modPort_recA : (s.modPort p f).recA = s.recA := (rfl)
@[simp] theorem State.modPort_recB : (s.modPort p f).recB = s.recB := (rfl)
@[simp] theorem State.modPort_curB : (s.modPort p f).curB = s.curB := (rfl)
@[simp] theorem State.modPort_start : (s.modPort p f).start = s.start := (rfl)
@[simp] theorem State.modPort_fuses : (s.modPort p f).fuses = s.fuses := (rfl)
@[simp] theorem State.modPort_activation : (s.modPort p f).activation = s.activation := (rfl)
@[simp] theorem State.modPort_crown : (s.modPort p f).crown = s.crown := (rfl)
@[simp] theorem State.modPort_activeImage : (s.modPort p f).activeImage = s.activeImage := (rfl)
@[simp] theorem State.modPort_stageBank : (s.modPort p f).stageBank = s.stageBank := (rfl)
@[simp] theorem State.modPort_stgBuf : (s.modPort p f).stgBuf = s.stgBuf := (rfl)
@[simp] theorem State.modPort_stgAt : (s.modPort p f).stgAt = s.stgAt := (rfl)
@[simp] theorem State.modPort_gnt : (s.modPort p f).gnt = s.gnt := (rfl)
@[simp] theorem State.modPort_retrainDue : (s.modPort p f).retrainDue = s.retrainDue := (rfl)
@[simp] theorem State.modPort_pins : (s.modPort p f).pins = s.pins := (rfl)
@[simp] theorem State.modPort_smbPtr : (s.modPort p f).smbPtr = s.smbPtr := (rfl)
@[simp] theorem State.modPort_smbRefused : (s.modPort p f).smbRefused = s.smbRefused := (rfl)
@[simp] theorem State.modPort_glbCopy : (s.modPort p f).glbCopy = s.glbCopy := (rfl)
end

/-! ### State.modDim: changes `dims` -/

section
variable (s : State) (d : PortId) (f : Dim → Dim)
@[simp] theorem State.modDim_pending : (s.modDim d f).pending = s.pending := (rfl)
@[simp] theorem State.modDim_regs : (s.modDim d f).regs = s.regs := (rfl)
@[simp] theorem State.modDim_shadow : (s.modDim d f).shadow = s.shadow := (rfl)
@[simp] theorem State.modDim_ptb : (s.modDim d f).ptb = s.ptb := (rfl)
@[simp] theorem State.modDim_free : (s.modDim d f).free = s.free := (rfl)
@[simp] theorem State.modDim_cores : (s.modDim d f).cores = s.cores := (rfl)
@[simp] theorem State.modDim_hurdles : (s.modDim d f).hurdles = s.hurdles := (rfl)
@[simp] theorem State.modDim_arrivals : (s.modDim d f).arrivals = s.arrivals := (rfl)
@[simp] theorem State.modDim_host : (s.modDim d f).host = s.host := (rfl)
@[simp] theorem State.modDim_fns : (s.modDim d f).fns = s.fns := (rfl)
@[simp] theorem State.modDim_msix : (s.modDim d f).msix = s.msix := (rfl)
@[simp] theorem State.modDim_alerts : (s.modDim d f).alerts = s.alerts := (rfl)
@[simp] theorem State.modDim_ctxs : (s.modDim d f).ctxs = s.ctxs := (rfl)
@[simp] theorem State.modDim_parts : (s.modDim d f).parts = s.parts := (rfl)
@[simp] theorem State.modDim_dram : (s.modDim d f).dram = s.dram := (rfl)
@[simp] theorem State.modDim_buf : (s.modDim d f).buf = s.buf := (rfl)
@[simp] theorem State.modDim_poisoned : (s.modDim d f).poisoned = s.poisoned := (rfl)
@[simp] theorem State.modDim_rows : (s.modDim d f).rows = s.rows := (rfl)
@[simp] theorem State.modDim_spares : (s.modDim d f).spares = s.spares := (rfl)
@[simp] theorem State.modDim_repairLog : (s.modDim d f).repairLog = s.repairLog := (rfl)
@[simp] theorem State.modDim_retired : (s.modDim d f).retired = s.retired := (rfl)
@[simp] theorem State.modDim_chanOut : (s.modDim d f).chanOut = s.chanOut := (rfl)
@[simp] theorem State.modDim_dead : (s.modDim d f).dead = s.dead := (rfl)
@[simp] theorem State.modDim_tlbCore : (s.modDim d f).tlbCore = s.tlbCore := (rfl)
@[simp] theorem State.modDim_tlbDie : (s.modDim d f).tlbDie = s.tlbDie := (rfl)
@[simp] theorem State.modDim_tlbHost : (s.modDim d f).tlbHost = s.tlbHost := (rfl)
@[simp] theorem State.modDim_inval : (s.modDim d f).inval = s.inval := (rfl)
@[simp] theorem State.modDim_flushing : (s.modDim d f).flushing = s.flushing := (rfl)
@[simp] theorem State.modDim_hostAbsent : (s.modDim d f).hostAbsent = s.hostAbsent := (rfl)
@[simp] theorem State.modDim_atc : (s.modDim d f).atc = s.atc := (rfl)
@[simp] theorem State.modDim_atsChanged : (s.modDim d f).atsChanged = s.atsChanged := (rfl)
@[simp] theorem State.modDim_pageReqs : (s.modDim d f).pageReqs = s.pageReqs := (rfl)
@[simp] theorem State.modDim_watch : (s.modDim d f).watch = s.watch := (rfl)
@[simp] theorem State.modDim_spec : (s.modDim d f).spec = s.spec := (rfl)
@[simp] theorem State.modDim_ports : (s.modDim d f).ports = s.ports := (rfl)
@[simp] theorem State.modDim_dims : (s.modDim d f).dims = vmod s.dims d f := (rfl)
@[simp] theorem State.modDim_outReq : (s.modDim d f).outReq = s.outReq := (rfl)
@[simp] theorem State.modDim_transit : (s.modDim d f).transit = s.transit := (rfl)
@[simp] theorem State.modDim_inbox : (s.modDim d f).inbox = s.inbox := (rfl)
@[simp] theorem State.modDim_noRoutes : (s.modDim d f).noRoutes = s.noRoutes := (rfl)
@[simp] theorem State.modDim_kicks : (s.modDim d f).kicks = s.kicks := (rfl)
@[simp] theorem State.modDim_lineReqs : (s.modDim d f).lineReqs = s.lineReqs := (rfl)
@[simp] theorem State.modDim_ovhRem : (s.modDim d f).ovhRem = s.ovhRem := (rfl)
@[simp] theorem State.modDim_reply : (s.modDim d f).reply = s.reply := (rfl)
@[simp] theorem State.modDim_syncGood : (s.modDim d f).syncGood = s.syncGood := (rfl)
@[simp] theorem State.modDim_rels : (s.modDim d f).rels = s.rels := (rfl)
@[simp] theorem State.modDim_areas : (s.modDim d f).areas = s.areas := (rfl)
@[simp] theorem State.modDim_lastSlot : (s.modDim d f).lastSlot = s.lastSlot := (rfl)
@[simp] theorem State.modDim_flash : (s.modDim d f).flash = s.flash := (rfl)
@[simp] theorem State.modDim_nvme : (s.modDim d f).nvme = s.nvme := (rfl)
@[simp] theorem State.modDim_posted : (s.modDim d f).posted = s.posted := (rfl)
@[simp] theorem State.modDim_heldReads : (s.modDim d f).heldReads = s.heldReads := (rfl)
@[simp] theorem State.modDim_csetOrder : (s.modDim d f).csetOrder = s.csetOrder := (rfl)
@[simp] theorem State.modDim_pcie : (s.modDim d f).pcie = s.pcie := (rfl)
@[simp] theorem State.modDim_refLost : (s.modDim d f).refLost = s.refLost := (rfl)
@[simp] theorem State.modDim_hangs : (s.modDim d f).hangs = s.hangs := (rfl)
@[simp] theorem State.modDim_progress : (s.modDim d f).progress = s.progress := (rfl)
@[simp] theorem State.modDim_esc : (s.modDim d f).esc = s.esc := (rfl)
@[simp] theorem State.modDim_photoRun : (s.modDim d f).photoRun = s.photoRun := (rfl)
@[simp] theorem State.modDim_resetDue : (s.modDim d f).resetDue = s.resetDue := (rfl)
@[simp] theorem State.modDim_photo : (s.modDim d f).photo = s.photo := (rfl)
@[simp] theorem State.modDim_photoSector : (s.modDim d f).photoSector = s.photoSector := (rfl)
@[simp] theorem State.modDim_psc : (s.modDim d f).psc = s.psc := (rfl)
@[simp] theorem State.modDim_recA : (s.modDim d f).recA = s.recA := (rfl)
@[simp] theorem State.modDim_recB : (s.modDim d f).recB = s.recB := (rfl)
@[simp] theorem State.modDim_curB : (s.modDim d f).curB = s.curB := (rfl)
@[simp] theorem State.modDim_start : (s.modDim d f).start = s.start := (rfl)
@[simp] theorem State.modDim_fuses : (s.modDim d f).fuses = s.fuses := (rfl)
@[simp] theorem State.modDim_activation : (s.modDim d f).activation = s.activation := (rfl)
@[simp] theorem State.modDim_crown : (s.modDim d f).crown = s.crown := (rfl)
@[simp] theorem State.modDim_activeImage : (s.modDim d f).activeImage = s.activeImage := (rfl)
@[simp] theorem State.modDim_stageBank : (s.modDim d f).stageBank = s.stageBank := (rfl)
@[simp] theorem State.modDim_stgBuf : (s.modDim d f).stgBuf = s.stgBuf := (rfl)
@[simp] theorem State.modDim_stgAt : (s.modDim d f).stgAt = s.stgAt := (rfl)
@[simp] theorem State.modDim_gnt : (s.modDim d f).gnt = s.gnt := (rfl)
@[simp] theorem State.modDim_retrainDue : (s.modDim d f).retrainDue = s.retrainDue := (rfl)
@[simp] theorem State.modDim_pins : (s.modDim d f).pins = s.pins := (rfl)
@[simp] theorem State.modDim_smbPtr : (s.modDim d f).smbPtr = s.smbPtr := (rfl)
@[simp] theorem State.modDim_smbRefused : (s.modDim d f).smbRefused = s.smbRefused := (rfl)
@[simp] theorem State.modDim_glbCopy : (s.modDim d f).glbCopy = s.glbCopy := (rfl)
end

/-! ### State.modRel: changes `rels` -/

section
variable (s : State) (d : CoreId) (f : Rel → Rel)
@[simp] theorem State.modRel_pending : (s.modRel d f).pending = s.pending := (rfl)
@[simp] theorem State.modRel_regs : (s.modRel d f).regs = s.regs := (rfl)
@[simp] theorem State.modRel_shadow : (s.modRel d f).shadow = s.shadow := (rfl)
@[simp] theorem State.modRel_ptb : (s.modRel d f).ptb = s.ptb := (rfl)
@[simp] theorem State.modRel_free : (s.modRel d f).free = s.free := (rfl)
@[simp] theorem State.modRel_cores : (s.modRel d f).cores = s.cores := (rfl)
@[simp] theorem State.modRel_hurdles : (s.modRel d f).hurdles = s.hurdles := (rfl)
@[simp] theorem State.modRel_arrivals : (s.modRel d f).arrivals = s.arrivals := (rfl)
@[simp] theorem State.modRel_host : (s.modRel d f).host = s.host := (rfl)
@[simp] theorem State.modRel_fns : (s.modRel d f).fns = s.fns := (rfl)
@[simp] theorem State.modRel_msix : (s.modRel d f).msix = s.msix := (rfl)
@[simp] theorem State.modRel_alerts : (s.modRel d f).alerts = s.alerts := (rfl)
@[simp] theorem State.modRel_ctxs : (s.modRel d f).ctxs = s.ctxs := (rfl)
@[simp] theorem State.modRel_parts : (s.modRel d f).parts = s.parts := (rfl)
@[simp] theorem State.modRel_dram : (s.modRel d f).dram = s.dram := (rfl)
@[simp] theorem State.modRel_buf : (s.modRel d f).buf = s.buf := (rfl)
@[simp] theorem State.modRel_poisoned : (s.modRel d f).poisoned = s.poisoned := (rfl)
@[simp] theorem State.modRel_rows : (s.modRel d f).rows = s.rows := (rfl)
@[simp] theorem State.modRel_spares : (s.modRel d f).spares = s.spares := (rfl)
@[simp] theorem State.modRel_repairLog : (s.modRel d f).repairLog = s.repairLog := (rfl)
@[simp] theorem State.modRel_retired : (s.modRel d f).retired = s.retired := (rfl)
@[simp] theorem State.modRel_chanOut : (s.modRel d f).chanOut = s.chanOut := (rfl)
@[simp] theorem State.modRel_dead : (s.modRel d f).dead = s.dead := (rfl)
@[simp] theorem State.modRel_tlbCore : (s.modRel d f).tlbCore = s.tlbCore := (rfl)
@[simp] theorem State.modRel_tlbDie : (s.modRel d f).tlbDie = s.tlbDie := (rfl)
@[simp] theorem State.modRel_tlbHost : (s.modRel d f).tlbHost = s.tlbHost := (rfl)
@[simp] theorem State.modRel_inval : (s.modRel d f).inval = s.inval := (rfl)
@[simp] theorem State.modRel_flushing : (s.modRel d f).flushing = s.flushing := (rfl)
@[simp] theorem State.modRel_hostAbsent : (s.modRel d f).hostAbsent = s.hostAbsent := (rfl)
@[simp] theorem State.modRel_atc : (s.modRel d f).atc = s.atc := (rfl)
@[simp] theorem State.modRel_atsChanged : (s.modRel d f).atsChanged = s.atsChanged := (rfl)
@[simp] theorem State.modRel_pageReqs : (s.modRel d f).pageReqs = s.pageReqs := (rfl)
@[simp] theorem State.modRel_watch : (s.modRel d f).watch = s.watch := (rfl)
@[simp] theorem State.modRel_spec : (s.modRel d f).spec = s.spec := (rfl)
@[simp] theorem State.modRel_ports : (s.modRel d f).ports = s.ports := (rfl)
@[simp] theorem State.modRel_dims : (s.modRel d f).dims = s.dims := (rfl)
@[simp] theorem State.modRel_outReq : (s.modRel d f).outReq = s.outReq := (rfl)
@[simp] theorem State.modRel_transit : (s.modRel d f).transit = s.transit := (rfl)
@[simp] theorem State.modRel_inbox : (s.modRel d f).inbox = s.inbox := (rfl)
@[simp] theorem State.modRel_noRoutes : (s.modRel d f).noRoutes = s.noRoutes := (rfl)
@[simp] theorem State.modRel_kicks : (s.modRel d f).kicks = s.kicks := (rfl)
@[simp] theorem State.modRel_lineReqs : (s.modRel d f).lineReqs = s.lineReqs := (rfl)
@[simp] theorem State.modRel_ovhRem : (s.modRel d f).ovhRem = s.ovhRem := (rfl)
@[simp] theorem State.modRel_reply : (s.modRel d f).reply = s.reply := (rfl)
@[simp] theorem State.modRel_syncGood : (s.modRel d f).syncGood = s.syncGood := (rfl)
@[simp] theorem State.modRel_rels : (s.modRel d f).rels = vmod s.rels d f := (rfl)
@[simp] theorem State.modRel_areas : (s.modRel d f).areas = s.areas := (rfl)
@[simp] theorem State.modRel_lastSlot : (s.modRel d f).lastSlot = s.lastSlot := (rfl)
@[simp] theorem State.modRel_flash : (s.modRel d f).flash = s.flash := (rfl)
@[simp] theorem State.modRel_nvme : (s.modRel d f).nvme = s.nvme := (rfl)
@[simp] theorem State.modRel_posted : (s.modRel d f).posted = s.posted := (rfl)
@[simp] theorem State.modRel_heldReads : (s.modRel d f).heldReads = s.heldReads := (rfl)
@[simp] theorem State.modRel_csetOrder : (s.modRel d f).csetOrder = s.csetOrder := (rfl)
@[simp] theorem State.modRel_pcie : (s.modRel d f).pcie = s.pcie := (rfl)
@[simp] theorem State.modRel_refLost : (s.modRel d f).refLost = s.refLost := (rfl)
@[simp] theorem State.modRel_hangs : (s.modRel d f).hangs = s.hangs := (rfl)
@[simp] theorem State.modRel_progress : (s.modRel d f).progress = s.progress := (rfl)
@[simp] theorem State.modRel_esc : (s.modRel d f).esc = s.esc := (rfl)
@[simp] theorem State.modRel_photoRun : (s.modRel d f).photoRun = s.photoRun := (rfl)
@[simp] theorem State.modRel_resetDue : (s.modRel d f).resetDue = s.resetDue := (rfl)
@[simp] theorem State.modRel_photo : (s.modRel d f).photo = s.photo := (rfl)
@[simp] theorem State.modRel_photoSector : (s.modRel d f).photoSector = s.photoSector := (rfl)
@[simp] theorem State.modRel_psc : (s.modRel d f).psc = s.psc := (rfl)
@[simp] theorem State.modRel_recA : (s.modRel d f).recA = s.recA := (rfl)
@[simp] theorem State.modRel_recB : (s.modRel d f).recB = s.recB := (rfl)
@[simp] theorem State.modRel_curB : (s.modRel d f).curB = s.curB := (rfl)
@[simp] theorem State.modRel_start : (s.modRel d f).start = s.start := (rfl)
@[simp] theorem State.modRel_fuses : (s.modRel d f).fuses = s.fuses := (rfl)
@[simp] theorem State.modRel_activation : (s.modRel d f).activation = s.activation := (rfl)
@[simp] theorem State.modRel_crown : (s.modRel d f).crown = s.crown := (rfl)
@[simp] theorem State.modRel_activeImage : (s.modRel d f).activeImage = s.activeImage := (rfl)
@[simp] theorem State.modRel_stageBank : (s.modRel d f).stageBank = s.stageBank := (rfl)
@[simp] theorem State.modRel_stgBuf : (s.modRel d f).stgBuf = s.stgBuf := (rfl)
@[simp] theorem State.modRel_stgAt : (s.modRel d f).stgAt = s.stgAt := (rfl)
@[simp] theorem State.modRel_gnt : (s.modRel d f).gnt = s.gnt := (rfl)
@[simp] theorem State.modRel_retrainDue : (s.modRel d f).retrainDue = s.retrainDue := (rfl)
@[simp] theorem State.modRel_pins : (s.modRel d f).pins = s.pins := (rfl)
@[simp] theorem State.modRel_smbPtr : (s.modRel d f).smbPtr = s.smbPtr := (rfl)
@[simp] theorem State.modRel_smbRefused : (s.modRel d f).smbRefused = s.smbRefused := (rfl)
@[simp] theorem State.modRel_glbCopy : (s.modRel d f).glbCopy = s.glbCopy := (rfl)
end

/-! ### State.modArea: changes `areas` -/

section
variable (s : State) (p : CoreId) (f : SplArea → SplArea)
@[simp] theorem State.modArea_pending : (s.modArea p f).pending = s.pending := (rfl)
@[simp] theorem State.modArea_regs : (s.modArea p f).regs = s.regs := (rfl)
@[simp] theorem State.modArea_shadow : (s.modArea p f).shadow = s.shadow := (rfl)
@[simp] theorem State.modArea_ptb : (s.modArea p f).ptb = s.ptb := (rfl)
@[simp] theorem State.modArea_free : (s.modArea p f).free = s.free := (rfl)
@[simp] theorem State.modArea_cores : (s.modArea p f).cores = s.cores := (rfl)
@[simp] theorem State.modArea_hurdles : (s.modArea p f).hurdles = s.hurdles := (rfl)
@[simp] theorem State.modArea_arrivals : (s.modArea p f).arrivals = s.arrivals := (rfl)
@[simp] theorem State.modArea_host : (s.modArea p f).host = s.host := (rfl)
@[simp] theorem State.modArea_fns : (s.modArea p f).fns = s.fns := (rfl)
@[simp] theorem State.modArea_msix : (s.modArea p f).msix = s.msix := (rfl)
@[simp] theorem State.modArea_alerts : (s.modArea p f).alerts = s.alerts := (rfl)
@[simp] theorem State.modArea_ctxs : (s.modArea p f).ctxs = s.ctxs := (rfl)
@[simp] theorem State.modArea_parts : (s.modArea p f).parts = s.parts := (rfl)
@[simp] theorem State.modArea_dram : (s.modArea p f).dram = s.dram := (rfl)
@[simp] theorem State.modArea_buf : (s.modArea p f).buf = s.buf := (rfl)
@[simp] theorem State.modArea_poisoned : (s.modArea p f).poisoned = s.poisoned := (rfl)
@[simp] theorem State.modArea_rows : (s.modArea p f).rows = s.rows := (rfl)
@[simp] theorem State.modArea_spares : (s.modArea p f).spares = s.spares := (rfl)
@[simp] theorem State.modArea_repairLog : (s.modArea p f).repairLog = s.repairLog := (rfl)
@[simp] theorem State.modArea_retired : (s.modArea p f).retired = s.retired := (rfl)
@[simp] theorem State.modArea_chanOut : (s.modArea p f).chanOut = s.chanOut := (rfl)
@[simp] theorem State.modArea_dead : (s.modArea p f).dead = s.dead := (rfl)
@[simp] theorem State.modArea_tlbCore : (s.modArea p f).tlbCore = s.tlbCore := (rfl)
@[simp] theorem State.modArea_tlbDie : (s.modArea p f).tlbDie = s.tlbDie := (rfl)
@[simp] theorem State.modArea_tlbHost : (s.modArea p f).tlbHost = s.tlbHost := (rfl)
@[simp] theorem State.modArea_inval : (s.modArea p f).inval = s.inval := (rfl)
@[simp] theorem State.modArea_flushing : (s.modArea p f).flushing = s.flushing := (rfl)
@[simp] theorem State.modArea_hostAbsent : (s.modArea p f).hostAbsent = s.hostAbsent := (rfl)
@[simp] theorem State.modArea_atc : (s.modArea p f).atc = s.atc := (rfl)
@[simp] theorem State.modArea_atsChanged : (s.modArea p f).atsChanged = s.atsChanged := (rfl)
@[simp] theorem State.modArea_pageReqs : (s.modArea p f).pageReqs = s.pageReqs := (rfl)
@[simp] theorem State.modArea_watch : (s.modArea p f).watch = s.watch := (rfl)
@[simp] theorem State.modArea_spec : (s.modArea p f).spec = s.spec := (rfl)
@[simp] theorem State.modArea_ports : (s.modArea p f).ports = s.ports := (rfl)
@[simp] theorem State.modArea_dims : (s.modArea p f).dims = s.dims := (rfl)
@[simp] theorem State.modArea_outReq : (s.modArea p f).outReq = s.outReq := (rfl)
@[simp] theorem State.modArea_transit : (s.modArea p f).transit = s.transit := (rfl)
@[simp] theorem State.modArea_inbox : (s.modArea p f).inbox = s.inbox := (rfl)
@[simp] theorem State.modArea_noRoutes : (s.modArea p f).noRoutes = s.noRoutes := (rfl)
@[simp] theorem State.modArea_kicks : (s.modArea p f).kicks = s.kicks := (rfl)
@[simp] theorem State.modArea_lineReqs : (s.modArea p f).lineReqs = s.lineReqs := (rfl)
@[simp] theorem State.modArea_ovhRem : (s.modArea p f).ovhRem = s.ovhRem := (rfl)
@[simp] theorem State.modArea_reply : (s.modArea p f).reply = s.reply := (rfl)
@[simp] theorem State.modArea_syncGood : (s.modArea p f).syncGood = s.syncGood := (rfl)
@[simp] theorem State.modArea_rels : (s.modArea p f).rels = s.rels := (rfl)
@[simp] theorem State.modArea_areas : (s.modArea p f).areas = vmod s.areas p f := (rfl)
@[simp] theorem State.modArea_lastSlot : (s.modArea p f).lastSlot = s.lastSlot := (rfl)
@[simp] theorem State.modArea_flash : (s.modArea p f).flash = s.flash := (rfl)
@[simp] theorem State.modArea_nvme : (s.modArea p f).nvme = s.nvme := (rfl)
@[simp] theorem State.modArea_posted : (s.modArea p f).posted = s.posted := (rfl)
@[simp] theorem State.modArea_heldReads : (s.modArea p f).heldReads = s.heldReads := (rfl)
@[simp] theorem State.modArea_csetOrder : (s.modArea p f).csetOrder = s.csetOrder := (rfl)
@[simp] theorem State.modArea_pcie : (s.modArea p f).pcie = s.pcie := (rfl)
@[simp] theorem State.modArea_refLost : (s.modArea p f).refLost = s.refLost := (rfl)
@[simp] theorem State.modArea_hangs : (s.modArea p f).hangs = s.hangs := (rfl)
@[simp] theorem State.modArea_progress : (s.modArea p f).progress = s.progress := (rfl)
@[simp] theorem State.modArea_esc : (s.modArea p f).esc = s.esc := (rfl)
@[simp] theorem State.modArea_photoRun : (s.modArea p f).photoRun = s.photoRun := (rfl)
@[simp] theorem State.modArea_resetDue : (s.modArea p f).resetDue = s.resetDue := (rfl)
@[simp] theorem State.modArea_photo : (s.modArea p f).photo = s.photo := (rfl)
@[simp] theorem State.modArea_photoSector : (s.modArea p f).photoSector = s.photoSector := (rfl)
@[simp] theorem State.modArea_psc : (s.modArea p f).psc = s.psc := (rfl)
@[simp] theorem State.modArea_recA : (s.modArea p f).recA = s.recA := (rfl)
@[simp] theorem State.modArea_recB : (s.modArea p f).recB = s.recB := (rfl)
@[simp] theorem State.modArea_curB : (s.modArea p f).curB = s.curB := (rfl)
@[simp] theorem State.modArea_start : (s.modArea p f).start = s.start := (rfl)
@[simp] theorem State.modArea_fuses : (s.modArea p f).fuses = s.fuses := (rfl)
@[simp] theorem State.modArea_activation : (s.modArea p f).activation = s.activation := (rfl)
@[simp] theorem State.modArea_crown : (s.modArea p f).crown = s.crown := (rfl)
@[simp] theorem State.modArea_activeImage : (s.modArea p f).activeImage = s.activeImage := (rfl)
@[simp] theorem State.modArea_stageBank : (s.modArea p f).stageBank = s.stageBank := (rfl)
@[simp] theorem State.modArea_stgBuf : (s.modArea p f).stgBuf = s.stgBuf := (rfl)
@[simp] theorem State.modArea_stgAt : (s.modArea p f).stgAt = s.stgAt := (rfl)
@[simp] theorem State.modArea_gnt : (s.modArea p f).gnt = s.gnt := (rfl)
@[simp] theorem State.modArea_retrainDue : (s.modArea p f).retrainDue = s.retrainDue := (rfl)
@[simp] theorem State.modArea_pins : (s.modArea p f).pins = s.pins := (rfl)
@[simp] theorem State.modArea_smbPtr : (s.modArea p f).smbPtr = s.smbPtr := (rfl)
@[simp] theorem State.modArea_smbRefused : (s.modArea p f).smbRefused = s.smbRefused := (rfl)
@[simp] theorem State.modArea_glbCopy : (s.modArea p f).glbCopy = s.glbCopy := (rfl)
end

/-! ### State.modPsc: changes `psc` -/

section
variable (s : State) (f : Psc → Psc)
@[simp] theorem State.modPsc_pending : (s.modPsc f).pending = s.pending := (rfl)
@[simp] theorem State.modPsc_regs : (s.modPsc f).regs = s.regs := (rfl)
@[simp] theorem State.modPsc_shadow : (s.modPsc f).shadow = s.shadow := (rfl)
@[simp] theorem State.modPsc_ptb : (s.modPsc f).ptb = s.ptb := (rfl)
@[simp] theorem State.modPsc_free : (s.modPsc f).free = s.free := (rfl)
@[simp] theorem State.modPsc_cores : (s.modPsc f).cores = s.cores := (rfl)
@[simp] theorem State.modPsc_hurdles : (s.modPsc f).hurdles = s.hurdles := (rfl)
@[simp] theorem State.modPsc_arrivals : (s.modPsc f).arrivals = s.arrivals := (rfl)
@[simp] theorem State.modPsc_host : (s.modPsc f).host = s.host := (rfl)
@[simp] theorem State.modPsc_fns : (s.modPsc f).fns = s.fns := (rfl)
@[simp] theorem State.modPsc_msix : (s.modPsc f).msix = s.msix := (rfl)
@[simp] theorem State.modPsc_alerts : (s.modPsc f).alerts = s.alerts := (rfl)
@[simp] theorem State.modPsc_ctxs : (s.modPsc f).ctxs = s.ctxs := (rfl)
@[simp] theorem State.modPsc_parts : (s.modPsc f).parts = s.parts := (rfl)
@[simp] theorem State.modPsc_dram : (s.modPsc f).dram = s.dram := (rfl)
@[simp] theorem State.modPsc_buf : (s.modPsc f).buf = s.buf := (rfl)
@[simp] theorem State.modPsc_poisoned : (s.modPsc f).poisoned = s.poisoned := (rfl)
@[simp] theorem State.modPsc_rows : (s.modPsc f).rows = s.rows := (rfl)
@[simp] theorem State.modPsc_spares : (s.modPsc f).spares = s.spares := (rfl)
@[simp] theorem State.modPsc_repairLog : (s.modPsc f).repairLog = s.repairLog := (rfl)
@[simp] theorem State.modPsc_retired : (s.modPsc f).retired = s.retired := (rfl)
@[simp] theorem State.modPsc_chanOut : (s.modPsc f).chanOut = s.chanOut := (rfl)
@[simp] theorem State.modPsc_dead : (s.modPsc f).dead = s.dead := (rfl)
@[simp] theorem State.modPsc_tlbCore : (s.modPsc f).tlbCore = s.tlbCore := (rfl)
@[simp] theorem State.modPsc_tlbDie : (s.modPsc f).tlbDie = s.tlbDie := (rfl)
@[simp] theorem State.modPsc_tlbHost : (s.modPsc f).tlbHost = s.tlbHost := (rfl)
@[simp] theorem State.modPsc_inval : (s.modPsc f).inval = s.inval := (rfl)
@[simp] theorem State.modPsc_flushing : (s.modPsc f).flushing = s.flushing := (rfl)
@[simp] theorem State.modPsc_hostAbsent : (s.modPsc f).hostAbsent = s.hostAbsent := (rfl)
@[simp] theorem State.modPsc_atc : (s.modPsc f).atc = s.atc := (rfl)
@[simp] theorem State.modPsc_atsChanged : (s.modPsc f).atsChanged = s.atsChanged := (rfl)
@[simp] theorem State.modPsc_pageReqs : (s.modPsc f).pageReqs = s.pageReqs := (rfl)
@[simp] theorem State.modPsc_watch : (s.modPsc f).watch = s.watch := (rfl)
@[simp] theorem State.modPsc_spec : (s.modPsc f).spec = s.spec := (rfl)
@[simp] theorem State.modPsc_ports : (s.modPsc f).ports = s.ports := (rfl)
@[simp] theorem State.modPsc_dims : (s.modPsc f).dims = s.dims := (rfl)
@[simp] theorem State.modPsc_outReq : (s.modPsc f).outReq = s.outReq := (rfl)
@[simp] theorem State.modPsc_transit : (s.modPsc f).transit = s.transit := (rfl)
@[simp] theorem State.modPsc_inbox : (s.modPsc f).inbox = s.inbox := (rfl)
@[simp] theorem State.modPsc_noRoutes : (s.modPsc f).noRoutes = s.noRoutes := (rfl)
@[simp] theorem State.modPsc_kicks : (s.modPsc f).kicks = s.kicks := (rfl)
@[simp] theorem State.modPsc_lineReqs : (s.modPsc f).lineReqs = s.lineReqs := (rfl)
@[simp] theorem State.modPsc_ovhRem : (s.modPsc f).ovhRem = s.ovhRem := (rfl)
@[simp] theorem State.modPsc_reply : (s.modPsc f).reply = s.reply := (rfl)
@[simp] theorem State.modPsc_syncGood : (s.modPsc f).syncGood = s.syncGood := (rfl)
@[simp] theorem State.modPsc_rels : (s.modPsc f).rels = s.rels := (rfl)
@[simp] theorem State.modPsc_areas : (s.modPsc f).areas = s.areas := (rfl)
@[simp] theorem State.modPsc_lastSlot : (s.modPsc f).lastSlot = s.lastSlot := (rfl)
@[simp] theorem State.modPsc_flash : (s.modPsc f).flash = s.flash := (rfl)
@[simp] theorem State.modPsc_nvme : (s.modPsc f).nvme = s.nvme := (rfl)
@[simp] theorem State.modPsc_posted : (s.modPsc f).posted = s.posted := (rfl)
@[simp] theorem State.modPsc_heldReads : (s.modPsc f).heldReads = s.heldReads := (rfl)
@[simp] theorem State.modPsc_csetOrder : (s.modPsc f).csetOrder = s.csetOrder := (rfl)
@[simp] theorem State.modPsc_pcie : (s.modPsc f).pcie = s.pcie := (rfl)
@[simp] theorem State.modPsc_refLost : (s.modPsc f).refLost = s.refLost := (rfl)
@[simp] theorem State.modPsc_hangs : (s.modPsc f).hangs = s.hangs := (rfl)
@[simp] theorem State.modPsc_progress : (s.modPsc f).progress = s.progress := (rfl)
@[simp] theorem State.modPsc_esc : (s.modPsc f).esc = s.esc := (rfl)
@[simp] theorem State.modPsc_photoRun : (s.modPsc f).photoRun = s.photoRun := (rfl)
@[simp] theorem State.modPsc_resetDue : (s.modPsc f).resetDue = s.resetDue := (rfl)
@[simp] theorem State.modPsc_photo : (s.modPsc f).photo = s.photo := (rfl)
@[simp] theorem State.modPsc_photoSector : (s.modPsc f).photoSector = s.photoSector := (rfl)
@[simp] theorem State.modPsc_psc : (s.modPsc f).psc = f s.psc := (rfl)
@[simp] theorem State.modPsc_recA : (s.modPsc f).recA = s.recA := (rfl)
@[simp] theorem State.modPsc_recB : (s.modPsc f).recB = s.recB := (rfl)
@[simp] theorem State.modPsc_curB : (s.modPsc f).curB = s.curB := (rfl)
@[simp] theorem State.modPsc_start : (s.modPsc f).start = s.start := (rfl)
@[simp] theorem State.modPsc_fuses : (s.modPsc f).fuses = s.fuses := (rfl)
@[simp] theorem State.modPsc_activation : (s.modPsc f).activation = s.activation := (rfl)
@[simp] theorem State.modPsc_crown : (s.modPsc f).crown = s.crown := (rfl)
@[simp] theorem State.modPsc_activeImage : (s.modPsc f).activeImage = s.activeImage := (rfl)
@[simp] theorem State.modPsc_stageBank : (s.modPsc f).stageBank = s.stageBank := (rfl)
@[simp] theorem State.modPsc_stgBuf : (s.modPsc f).stgBuf = s.stgBuf := (rfl)
@[simp] theorem State.modPsc_stgAt : (s.modPsc f).stgAt = s.stgAt := (rfl)
@[simp] theorem State.modPsc_gnt : (s.modPsc f).gnt = s.gnt := (rfl)
@[simp] theorem State.modPsc_retrainDue : (s.modPsc f).retrainDue = s.retrainDue := (rfl)
@[simp] theorem State.modPsc_pins : (s.modPsc f).pins = s.pins := (rfl)
@[simp] theorem State.modPsc_smbPtr : (s.modPsc f).smbPtr = s.smbPtr := (rfl)
@[simp] theorem State.modPsc_smbRefused : (s.modPsc f).smbRefused = s.smbRefused := (rfl)
@[simp] theorem State.modPsc_glbCopy : (s.modPsc f).glbCopy = s.glbCopy := (rfl)
end

/-! ### State.modPins: changes `pins` -/

section
variable (s : State) (f : Pins → Pins)
@[simp] theorem State.modPins_pending : (s.modPins f).pending = s.pending := (rfl)
@[simp] theorem State.modPins_regs : (s.modPins f).regs = s.regs := (rfl)
@[simp] theorem State.modPins_shadow : (s.modPins f).shadow = s.shadow := (rfl)
@[simp] theorem State.modPins_ptb : (s.modPins f).ptb = s.ptb := (rfl)
@[simp] theorem State.modPins_free : (s.modPins f).free = s.free := (rfl)
@[simp] theorem State.modPins_cores : (s.modPins f).cores = s.cores := (rfl)
@[simp] theorem State.modPins_hurdles : (s.modPins f).hurdles = s.hurdles := (rfl)
@[simp] theorem State.modPins_arrivals : (s.modPins f).arrivals = s.arrivals := (rfl)
@[simp] theorem State.modPins_host : (s.modPins f).host = s.host := (rfl)
@[simp] theorem State.modPins_fns : (s.modPins f).fns = s.fns := (rfl)
@[simp] theorem State.modPins_msix : (s.modPins f).msix = s.msix := (rfl)
@[simp] theorem State.modPins_alerts : (s.modPins f).alerts = s.alerts := (rfl)
@[simp] theorem State.modPins_ctxs : (s.modPins f).ctxs = s.ctxs := (rfl)
@[simp] theorem State.modPins_parts : (s.modPins f).parts = s.parts := (rfl)
@[simp] theorem State.modPins_dram : (s.modPins f).dram = s.dram := (rfl)
@[simp] theorem State.modPins_buf : (s.modPins f).buf = s.buf := (rfl)
@[simp] theorem State.modPins_poisoned : (s.modPins f).poisoned = s.poisoned := (rfl)
@[simp] theorem State.modPins_rows : (s.modPins f).rows = s.rows := (rfl)
@[simp] theorem State.modPins_spares : (s.modPins f).spares = s.spares := (rfl)
@[simp] theorem State.modPins_repairLog : (s.modPins f).repairLog = s.repairLog := (rfl)
@[simp] theorem State.modPins_retired : (s.modPins f).retired = s.retired := (rfl)
@[simp] theorem State.modPins_chanOut : (s.modPins f).chanOut = s.chanOut := (rfl)
@[simp] theorem State.modPins_dead : (s.modPins f).dead = s.dead := (rfl)
@[simp] theorem State.modPins_tlbCore : (s.modPins f).tlbCore = s.tlbCore := (rfl)
@[simp] theorem State.modPins_tlbDie : (s.modPins f).tlbDie = s.tlbDie := (rfl)
@[simp] theorem State.modPins_tlbHost : (s.modPins f).tlbHost = s.tlbHost := (rfl)
@[simp] theorem State.modPins_inval : (s.modPins f).inval = s.inval := (rfl)
@[simp] theorem State.modPins_flushing : (s.modPins f).flushing = s.flushing := (rfl)
@[simp] theorem State.modPins_hostAbsent : (s.modPins f).hostAbsent = s.hostAbsent := (rfl)
@[simp] theorem State.modPins_atc : (s.modPins f).atc = s.atc := (rfl)
@[simp] theorem State.modPins_atsChanged : (s.modPins f).atsChanged = s.atsChanged := (rfl)
@[simp] theorem State.modPins_pageReqs : (s.modPins f).pageReqs = s.pageReqs := (rfl)
@[simp] theorem State.modPins_watch : (s.modPins f).watch = s.watch := (rfl)
@[simp] theorem State.modPins_spec : (s.modPins f).spec = s.spec := (rfl)
@[simp] theorem State.modPins_ports : (s.modPins f).ports = s.ports := (rfl)
@[simp] theorem State.modPins_dims : (s.modPins f).dims = s.dims := (rfl)
@[simp] theorem State.modPins_outReq : (s.modPins f).outReq = s.outReq := (rfl)
@[simp] theorem State.modPins_transit : (s.modPins f).transit = s.transit := (rfl)
@[simp] theorem State.modPins_inbox : (s.modPins f).inbox = s.inbox := (rfl)
@[simp] theorem State.modPins_noRoutes : (s.modPins f).noRoutes = s.noRoutes := (rfl)
@[simp] theorem State.modPins_kicks : (s.modPins f).kicks = s.kicks := (rfl)
@[simp] theorem State.modPins_lineReqs : (s.modPins f).lineReqs = s.lineReqs := (rfl)
@[simp] theorem State.modPins_ovhRem : (s.modPins f).ovhRem = s.ovhRem := (rfl)
@[simp] theorem State.modPins_reply : (s.modPins f).reply = s.reply := (rfl)
@[simp] theorem State.modPins_syncGood : (s.modPins f).syncGood = s.syncGood := (rfl)
@[simp] theorem State.modPins_rels : (s.modPins f).rels = s.rels := (rfl)
@[simp] theorem State.modPins_areas : (s.modPins f).areas = s.areas := (rfl)
@[simp] theorem State.modPins_lastSlot : (s.modPins f).lastSlot = s.lastSlot := (rfl)
@[simp] theorem State.modPins_flash : (s.modPins f).flash = s.flash := (rfl)
@[simp] theorem State.modPins_nvme : (s.modPins f).nvme = s.nvme := (rfl)
@[simp] theorem State.modPins_posted : (s.modPins f).posted = s.posted := (rfl)
@[simp] theorem State.modPins_heldReads : (s.modPins f).heldReads = s.heldReads := (rfl)
@[simp] theorem State.modPins_csetOrder : (s.modPins f).csetOrder = s.csetOrder := (rfl)
@[simp] theorem State.modPins_pcie : (s.modPins f).pcie = s.pcie := (rfl)
@[simp] theorem State.modPins_refLost : (s.modPins f).refLost = s.refLost := (rfl)
@[simp] theorem State.modPins_hangs : (s.modPins f).hangs = s.hangs := (rfl)
@[simp] theorem State.modPins_progress : (s.modPins f).progress = s.progress := (rfl)
@[simp] theorem State.modPins_esc : (s.modPins f).esc = s.esc := (rfl)
@[simp] theorem State.modPins_photoRun : (s.modPins f).photoRun = s.photoRun := (rfl)
@[simp] theorem State.modPins_resetDue : (s.modPins f).resetDue = s.resetDue := (rfl)
@[simp] theorem State.modPins_photo : (s.modPins f).photo = s.photo := (rfl)
@[simp] theorem State.modPins_photoSector : (s.modPins f).photoSector = s.photoSector := (rfl)
@[simp] theorem State.modPins_psc : (s.modPins f).psc = s.psc := (rfl)
@[simp] theorem State.modPins_recA : (s.modPins f).recA = s.recA := (rfl)
@[simp] theorem State.modPins_recB : (s.modPins f).recB = s.recB := (rfl)
@[simp] theorem State.modPins_curB : (s.modPins f).curB = s.curB := (rfl)
@[simp] theorem State.modPins_start : (s.modPins f).start = s.start := (rfl)
@[simp] theorem State.modPins_fuses : (s.modPins f).fuses = s.fuses := (rfl)
@[simp] theorem State.modPins_activation : (s.modPins f).activation = s.activation := (rfl)
@[simp] theorem State.modPins_crown : (s.modPins f).crown = s.crown := (rfl)
@[simp] theorem State.modPins_activeImage : (s.modPins f).activeImage = s.activeImage := (rfl)
@[simp] theorem State.modPins_stageBank : (s.modPins f).stageBank = s.stageBank := (rfl)
@[simp] theorem State.modPins_stgBuf : (s.modPins f).stgBuf = s.stgBuf := (rfl)
@[simp] theorem State.modPins_stgAt : (s.modPins f).stgAt = s.stgAt := (rfl)
@[simp] theorem State.modPins_gnt : (s.modPins f).gnt = s.gnt := (rfl)
@[simp] theorem State.modPins_retrainDue : (s.modPins f).retrainDue = s.retrainDue := (rfl)
@[simp] theorem State.modPins_pins : (s.modPins f).pins = f s.pins := (rfl)
@[simp] theorem State.modPins_smbPtr : (s.modPins f).smbPtr = s.smbPtr := (rfl)
@[simp] theorem State.modPins_smbRefused : (s.modPins f).smbRefused = s.smbRefused := (rfl)
@[simp] theorem State.modPins_glbCopy : (s.modPins f).glbCopy = s.glbCopy := (rfl)
end

/-! ### State.modSpare: changes `gnt` -/

section
variable (s : State) (c : CoreId) (f : Spares → Spares)
@[simp] theorem State.modSpare_pending : (s.modSpare c f).pending = s.pending := (rfl)
@[simp] theorem State.modSpare_regs : (s.modSpare c f).regs = s.regs := (rfl)
@[simp] theorem State.modSpare_shadow : (s.modSpare c f).shadow = s.shadow := (rfl)
@[simp] theorem State.modSpare_ptb : (s.modSpare c f).ptb = s.ptb := (rfl)
@[simp] theorem State.modSpare_free : (s.modSpare c f).free = s.free := (rfl)
@[simp] theorem State.modSpare_cores : (s.modSpare c f).cores = s.cores := (rfl)
@[simp] theorem State.modSpare_hurdles : (s.modSpare c f).hurdles = s.hurdles := (rfl)
@[simp] theorem State.modSpare_arrivals : (s.modSpare c f).arrivals = s.arrivals := (rfl)
@[simp] theorem State.modSpare_host : (s.modSpare c f).host = s.host := (rfl)
@[simp] theorem State.modSpare_fns : (s.modSpare c f).fns = s.fns := (rfl)
@[simp] theorem State.modSpare_msix : (s.modSpare c f).msix = s.msix := (rfl)
@[simp] theorem State.modSpare_alerts : (s.modSpare c f).alerts = s.alerts := (rfl)
@[simp] theorem State.modSpare_ctxs : (s.modSpare c f).ctxs = s.ctxs := (rfl)
@[simp] theorem State.modSpare_parts : (s.modSpare c f).parts = s.parts := (rfl)
@[simp] theorem State.modSpare_dram : (s.modSpare c f).dram = s.dram := (rfl)
@[simp] theorem State.modSpare_buf : (s.modSpare c f).buf = s.buf := (rfl)
@[simp] theorem State.modSpare_poisoned : (s.modSpare c f).poisoned = s.poisoned := (rfl)
@[simp] theorem State.modSpare_rows : (s.modSpare c f).rows = s.rows := (rfl)
@[simp] theorem State.modSpare_spares : (s.modSpare c f).spares = s.spares := (rfl)
@[simp] theorem State.modSpare_repairLog : (s.modSpare c f).repairLog = s.repairLog := (rfl)
@[simp] theorem State.modSpare_retired : (s.modSpare c f).retired = s.retired := (rfl)
@[simp] theorem State.modSpare_chanOut : (s.modSpare c f).chanOut = s.chanOut := (rfl)
@[simp] theorem State.modSpare_dead : (s.modSpare c f).dead = s.dead := (rfl)
@[simp] theorem State.modSpare_tlbCore : (s.modSpare c f).tlbCore = s.tlbCore := (rfl)
@[simp] theorem State.modSpare_tlbDie : (s.modSpare c f).tlbDie = s.tlbDie := (rfl)
@[simp] theorem State.modSpare_tlbHost : (s.modSpare c f).tlbHost = s.tlbHost := (rfl)
@[simp] theorem State.modSpare_inval : (s.modSpare c f).inval = s.inval := (rfl)
@[simp] theorem State.modSpare_flushing : (s.modSpare c f).flushing = s.flushing := (rfl)
@[simp] theorem State.modSpare_hostAbsent : (s.modSpare c f).hostAbsent = s.hostAbsent := (rfl)
@[simp] theorem State.modSpare_atc : (s.modSpare c f).atc = s.atc := (rfl)
@[simp] theorem State.modSpare_atsChanged : (s.modSpare c f).atsChanged = s.atsChanged := (rfl)
@[simp] theorem State.modSpare_pageReqs : (s.modSpare c f).pageReqs = s.pageReqs := (rfl)
@[simp] theorem State.modSpare_watch : (s.modSpare c f).watch = s.watch := (rfl)
@[simp] theorem State.modSpare_spec : (s.modSpare c f).spec = s.spec := (rfl)
@[simp] theorem State.modSpare_ports : (s.modSpare c f).ports = s.ports := (rfl)
@[simp] theorem State.modSpare_dims : (s.modSpare c f).dims = s.dims := (rfl)
@[simp] theorem State.modSpare_outReq : (s.modSpare c f).outReq = s.outReq := (rfl)
@[simp] theorem State.modSpare_transit : (s.modSpare c f).transit = s.transit := (rfl)
@[simp] theorem State.modSpare_inbox : (s.modSpare c f).inbox = s.inbox := (rfl)
@[simp] theorem State.modSpare_noRoutes : (s.modSpare c f).noRoutes = s.noRoutes := (rfl)
@[simp] theorem State.modSpare_kicks : (s.modSpare c f).kicks = s.kicks := (rfl)
@[simp] theorem State.modSpare_lineReqs : (s.modSpare c f).lineReqs = s.lineReqs := (rfl)
@[simp] theorem State.modSpare_ovhRem : (s.modSpare c f).ovhRem = s.ovhRem := (rfl)
@[simp] theorem State.modSpare_reply : (s.modSpare c f).reply = s.reply := (rfl)
@[simp] theorem State.modSpare_syncGood : (s.modSpare c f).syncGood = s.syncGood := (rfl)
@[simp] theorem State.modSpare_rels : (s.modSpare c f).rels = s.rels := (rfl)
@[simp] theorem State.modSpare_areas : (s.modSpare c f).areas = s.areas := (rfl)
@[simp] theorem State.modSpare_lastSlot : (s.modSpare c f).lastSlot = s.lastSlot := (rfl)
@[simp] theorem State.modSpare_flash : (s.modSpare c f).flash = s.flash := (rfl)
@[simp] theorem State.modSpare_nvme : (s.modSpare c f).nvme = s.nvme := (rfl)
@[simp] theorem State.modSpare_posted : (s.modSpare c f).posted = s.posted := (rfl)
@[simp] theorem State.modSpare_heldReads : (s.modSpare c f).heldReads = s.heldReads := (rfl)
@[simp] theorem State.modSpare_csetOrder : (s.modSpare c f).csetOrder = s.csetOrder := (rfl)
@[simp] theorem State.modSpare_pcie : (s.modSpare c f).pcie = s.pcie := (rfl)
@[simp] theorem State.modSpare_refLost : (s.modSpare c f).refLost = s.refLost := (rfl)
@[simp] theorem State.modSpare_hangs : (s.modSpare c f).hangs = s.hangs := (rfl)
@[simp] theorem State.modSpare_progress : (s.modSpare c f).progress = s.progress := (rfl)
@[simp] theorem State.modSpare_esc : (s.modSpare c f).esc = s.esc := (rfl)
@[simp] theorem State.modSpare_photoRun : (s.modSpare c f).photoRun = s.photoRun := (rfl)
@[simp] theorem State.modSpare_resetDue : (s.modSpare c f).resetDue = s.resetDue := (rfl)
@[simp] theorem State.modSpare_photo : (s.modSpare c f).photo = s.photo := (rfl)
@[simp] theorem State.modSpare_photoSector : (s.modSpare c f).photoSector = s.photoSector := (rfl)
@[simp] theorem State.modSpare_psc : (s.modSpare c f).psc = s.psc := (rfl)
@[simp] theorem State.modSpare_recA : (s.modSpare c f).recA = s.recA := (rfl)
@[simp] theorem State.modSpare_recB : (s.modSpare c f).recB = s.recB := (rfl)
@[simp] theorem State.modSpare_curB : (s.modSpare c f).curB = s.curB := (rfl)
@[simp] theorem State.modSpare_start : (s.modSpare c f).start = s.start := (rfl)
@[simp] theorem State.modSpare_fuses : (s.modSpare c f).fuses = s.fuses := (rfl)
@[simp] theorem State.modSpare_activation : (s.modSpare c f).activation = s.activation := (rfl)
@[simp] theorem State.modSpare_crown : (s.modSpare c f).crown = s.crown := (rfl)
@[simp] theorem State.modSpare_activeImage : (s.modSpare c f).activeImage = s.activeImage := (rfl)
@[simp] theorem State.modSpare_stageBank : (s.modSpare c f).stageBank = s.stageBank := (rfl)
@[simp] theorem State.modSpare_stgBuf : (s.modSpare c f).stgBuf = s.stgBuf := (rfl)
@[simp] theorem State.modSpare_stgAt : (s.modSpare c f).stgAt = s.stgAt := (rfl)
@[simp] theorem State.modSpare_gnt : (s.modSpare c f).gnt = vmod s.gnt c f := (rfl)
@[simp] theorem State.modSpare_retrainDue : (s.modSpare c f).retrainDue = s.retrainDue := (rfl)
@[simp] theorem State.modSpare_pins : (s.modSpare c f).pins = s.pins := (rfl)
@[simp] theorem State.modSpare_smbPtr : (s.modSpare c f).smbPtr = s.smbPtr := (rfl)
@[simp] theorem State.modSpare_smbRefused : (s.modSpare c f).smbRefused = s.smbRefused := (rfl)
@[simp] theorem State.modSpare_glbCopy : (s.modSpare c f).glbCopy = s.glbCopy := (rfl)
end

/-! ### State.setReply: changes `reply` -/

section
variable (s : State) (f : FnId) (v : W64)
@[simp] theorem State.setReply_pending : (s.setReply f v).pending = s.pending := (rfl)
@[simp] theorem State.setReply_regs : (s.setReply f v).regs = s.regs := (rfl)
@[simp] theorem State.setReply_shadow : (s.setReply f v).shadow = s.shadow := (rfl)
@[simp] theorem State.setReply_ptb : (s.setReply f v).ptb = s.ptb := (rfl)
@[simp] theorem State.setReply_free : (s.setReply f v).free = s.free := (rfl)
@[simp] theorem State.setReply_cores : (s.setReply f v).cores = s.cores := (rfl)
@[simp] theorem State.setReply_hurdles : (s.setReply f v).hurdles = s.hurdles := (rfl)
@[simp] theorem State.setReply_arrivals : (s.setReply f v).arrivals = s.arrivals := (rfl)
@[simp] theorem State.setReply_host : (s.setReply f v).host = s.host := (rfl)
@[simp] theorem State.setReply_fns : (s.setReply f v).fns = s.fns := (rfl)
@[simp] theorem State.setReply_msix : (s.setReply f v).msix = s.msix := (rfl)
@[simp] theorem State.setReply_alerts : (s.setReply f v).alerts = s.alerts := (rfl)
@[simp] theorem State.setReply_ctxs : (s.setReply f v).ctxs = s.ctxs := (rfl)
@[simp] theorem State.setReply_parts : (s.setReply f v).parts = s.parts := (rfl)
@[simp] theorem State.setReply_dram : (s.setReply f v).dram = s.dram := (rfl)
@[simp] theorem State.setReply_buf : (s.setReply f v).buf = s.buf := (rfl)
@[simp] theorem State.setReply_poisoned : (s.setReply f v).poisoned = s.poisoned := (rfl)
@[simp] theorem State.setReply_rows : (s.setReply f v).rows = s.rows := (rfl)
@[simp] theorem State.setReply_spares : (s.setReply f v).spares = s.spares := (rfl)
@[simp] theorem State.setReply_repairLog : (s.setReply f v).repairLog = s.repairLog := (rfl)
@[simp] theorem State.setReply_retired : (s.setReply f v).retired = s.retired := (rfl)
@[simp] theorem State.setReply_chanOut : (s.setReply f v).chanOut = s.chanOut := (rfl)
@[simp] theorem State.setReply_dead : (s.setReply f v).dead = s.dead := (rfl)
@[simp] theorem State.setReply_tlbCore : (s.setReply f v).tlbCore = s.tlbCore := (rfl)
@[simp] theorem State.setReply_tlbDie : (s.setReply f v).tlbDie = s.tlbDie := (rfl)
@[simp] theorem State.setReply_tlbHost : (s.setReply f v).tlbHost = s.tlbHost := (rfl)
@[simp] theorem State.setReply_inval : (s.setReply f v).inval = s.inval := (rfl)
@[simp] theorem State.setReply_flushing : (s.setReply f v).flushing = s.flushing := (rfl)
@[simp] theorem State.setReply_hostAbsent : (s.setReply f v).hostAbsent = s.hostAbsent := (rfl)
@[simp] theorem State.setReply_atc : (s.setReply f v).atc = s.atc := (rfl)
@[simp] theorem State.setReply_atsChanged : (s.setReply f v).atsChanged = s.atsChanged := (rfl)
@[simp] theorem State.setReply_pageReqs : (s.setReply f v).pageReqs = s.pageReqs := (rfl)
@[simp] theorem State.setReply_watch : (s.setReply f v).watch = s.watch := (rfl)
@[simp] theorem State.setReply_spec : (s.setReply f v).spec = s.spec := (rfl)
@[simp] theorem State.setReply_ports : (s.setReply f v).ports = s.ports := (rfl)
@[simp] theorem State.setReply_dims : (s.setReply f v).dims = s.dims := (rfl)
@[simp] theorem State.setReply_outReq : (s.setReply f v).outReq = s.outReq := (rfl)
@[simp] theorem State.setReply_transit : (s.setReply f v).transit = s.transit := (rfl)
@[simp] theorem State.setReply_inbox : (s.setReply f v).inbox = s.inbox := (rfl)
@[simp] theorem State.setReply_noRoutes : (s.setReply f v).noRoutes = s.noRoutes := (rfl)
@[simp] theorem State.setReply_kicks : (s.setReply f v).kicks = s.kicks := (rfl)
@[simp] theorem State.setReply_lineReqs : (s.setReply f v).lineReqs = s.lineReqs := (rfl)
@[simp] theorem State.setReply_ovhRem : (s.setReply f v).ovhRem = s.ovhRem := (rfl)
@[simp] theorem State.setReply_reply : (s.setReply f v).reply = vset s.reply f v := (rfl)
@[simp] theorem State.setReply_syncGood : (s.setReply f v).syncGood = s.syncGood := (rfl)
@[simp] theorem State.setReply_rels : (s.setReply f v).rels = s.rels := (rfl)
@[simp] theorem State.setReply_areas : (s.setReply f v).areas = s.areas := (rfl)
@[simp] theorem State.setReply_lastSlot : (s.setReply f v).lastSlot = s.lastSlot := (rfl)
@[simp] theorem State.setReply_flash : (s.setReply f v).flash = s.flash := (rfl)
@[simp] theorem State.setReply_nvme : (s.setReply f v).nvme = s.nvme := (rfl)
@[simp] theorem State.setReply_posted : (s.setReply f v).posted = s.posted := (rfl)
@[simp] theorem State.setReply_heldReads : (s.setReply f v).heldReads = s.heldReads := (rfl)
@[simp] theorem State.setReply_csetOrder : (s.setReply f v).csetOrder = s.csetOrder := (rfl)
@[simp] theorem State.setReply_pcie : (s.setReply f v).pcie = s.pcie := (rfl)
@[simp] theorem State.setReply_refLost : (s.setReply f v).refLost = s.refLost := (rfl)
@[simp] theorem State.setReply_hangs : (s.setReply f v).hangs = s.hangs := (rfl)
@[simp] theorem State.setReply_progress : (s.setReply f v).progress = s.progress := (rfl)
@[simp] theorem State.setReply_esc : (s.setReply f v).esc = s.esc := (rfl)
@[simp] theorem State.setReply_photoRun : (s.setReply f v).photoRun = s.photoRun := (rfl)
@[simp] theorem State.setReply_resetDue : (s.setReply f v).resetDue = s.resetDue := (rfl)
@[simp] theorem State.setReply_photo : (s.setReply f v).photo = s.photo := (rfl)
@[simp] theorem State.setReply_photoSector : (s.setReply f v).photoSector = s.photoSector := (rfl)
@[simp] theorem State.setReply_psc : (s.setReply f v).psc = s.psc := (rfl)
@[simp] theorem State.setReply_recA : (s.setReply f v).recA = s.recA := (rfl)
@[simp] theorem State.setReply_recB : (s.setReply f v).recB = s.recB := (rfl)
@[simp] theorem State.setReply_curB : (s.setReply f v).curB = s.curB := (rfl)
@[simp] theorem State.setReply_start : (s.setReply f v).start = s.start := (rfl)
@[simp] theorem State.setReply_fuses : (s.setReply f v).fuses = s.fuses := (rfl)
@[simp] theorem State.setReply_activation : (s.setReply f v).activation = s.activation := (rfl)
@[simp] theorem State.setReply_crown : (s.setReply f v).crown = s.crown := (rfl)
@[simp] theorem State.setReply_activeImage : (s.setReply f v).activeImage = s.activeImage := (rfl)
@[simp] theorem State.setReply_stageBank : (s.setReply f v).stageBank = s.stageBank := (rfl)
@[simp] theorem State.setReply_stgBuf : (s.setReply f v).stgBuf = s.stgBuf := (rfl)
@[simp] theorem State.setReply_stgAt : (s.setReply f v).stgAt = s.stgAt := (rfl)
@[simp] theorem State.setReply_gnt : (s.setReply f v).gnt = s.gnt := (rfl)
@[simp] theorem State.setReply_retrainDue : (s.setReply f v).retrainDue = s.retrainDue := (rfl)
@[simp] theorem State.setReply_pins : (s.setReply f v).pins = s.pins := (rfl)
@[simp] theorem State.setReply_smbPtr : (s.setReply f v).smbPtr = s.smbPtr := (rfl)
@[simp] theorem State.setReply_smbRefused : (s.setReply f v).smbRefused = s.smbRefused := (rfl)
@[simp] theorem State.setReply_glbCopy : (s.setReply f v).glbCopy = s.glbCopy := (rfl)
end

/-! ### State.landSst: changes `cores` -/

section
variable (s : State) (c : CoreId) (q : SeqId)
@[simp] theorem State.landSst_pending : (s.landSst c q).pending = s.pending := (State.setSeq_pending _ c q _).trans (State.modStore_pending s c _)
@[simp] theorem State.landSst_regs : (s.landSst c q).regs = s.regs := (State.setSeq_regs _ c q _).trans (State.modStore_regs s c _)
@[simp] theorem State.landSst_shadow : (s.landSst c q).shadow = s.shadow := (State.setSeq_shadow _ c q _).trans (State.modStore_shadow s c _)
@[simp] theorem State.landSst_ptb : (s.landSst c q).ptb = s.ptb := (State.setSeq_ptb _ c q _).trans (State.modStore_ptb s c _)
@[simp] theorem State.landSst_free : (s.landSst c q).free = s.free := (State.setSeq_free _ c q _).trans (State.modStore_free s c _)
@[simp] theorem State.landSst_hurdles : (s.landSst c q).hurdles = s.hurdles := (State.setSeq_hurdles _ c q _).trans (State.modStore_hurdles s c _)
@[simp] theorem State.landSst_arrivals : (s.landSst c q).arrivals = s.arrivals := (State.setSeq_arrivals _ c q _).trans (State.modStore_arrivals s c _)
@[simp] theorem State.landSst_host : (s.landSst c q).host = s.host := (State.setSeq_host _ c q _).trans (State.modStore_host s c _)
@[simp] theorem State.landSst_fns : (s.landSst c q).fns = s.fns := (State.setSeq_fns _ c q _).trans (State.modStore_fns s c _)
@[simp] theorem State.landSst_msix : (s.landSst c q).msix = s.msix := (State.setSeq_msix _ c q _).trans (State.modStore_msix s c _)
@[simp] theorem State.landSst_alerts : (s.landSst c q).alerts = s.alerts := (State.setSeq_alerts _ c q _).trans (State.modStore_alerts s c _)
@[simp] theorem State.landSst_ctxs : (s.landSst c q).ctxs = s.ctxs := (State.setSeq_ctxs _ c q _).trans (State.modStore_ctxs s c _)
@[simp] theorem State.landSst_parts : (s.landSst c q).parts = s.parts := (State.setSeq_parts _ c q _).trans (State.modStore_parts s c _)
@[simp] theorem State.landSst_dram : (s.landSst c q).dram = s.dram := (State.setSeq_dram _ c q _).trans (State.modStore_dram s c _)
@[simp] theorem State.landSst_buf : (s.landSst c q).buf = s.buf := (State.setSeq_buf _ c q _).trans (State.modStore_buf s c _)
@[simp] theorem State.landSst_poisoned : (s.landSst c q).poisoned = s.poisoned := (State.setSeq_poisoned _ c q _).trans (State.modStore_poisoned s c _)
@[simp] theorem State.landSst_rows : (s.landSst c q).rows = s.rows := (State.setSeq_rows _ c q _).trans (State.modStore_rows s c _)
@[simp] theorem State.landSst_spares : (s.landSst c q).spares = s.spares := (State.setSeq_spares _ c q _).trans (State.modStore_spares s c _)
@[simp] theorem State.landSst_repairLog : (s.landSst c q).repairLog = s.repairLog := (State.setSeq_repairLog _ c q _).trans (State.modStore_repairLog s c _)
@[simp] theorem State.landSst_retired : (s.landSst c q).retired = s.retired := (State.setSeq_retired _ c q _).trans (State.modStore_retired s c _)
@[simp] theorem State.landSst_chanOut : (s.landSst c q).chanOut = s.chanOut := (State.setSeq_chanOut _ c q _).trans (State.modStore_chanOut s c _)
@[simp] theorem State.landSst_dead : (s.landSst c q).dead = s.dead := (State.setSeq_dead _ c q _).trans (State.modStore_dead s c _)
@[simp] theorem State.landSst_tlbCore : (s.landSst c q).tlbCore = s.tlbCore := (State.setSeq_tlbCore _ c q _).trans (State.modStore_tlbCore s c _)
@[simp] theorem State.landSst_tlbDie : (s.landSst c q).tlbDie = s.tlbDie := (State.setSeq_tlbDie _ c q _).trans (State.modStore_tlbDie s c _)
@[simp] theorem State.landSst_tlbHost : (s.landSst c q).tlbHost = s.tlbHost := (State.setSeq_tlbHost _ c q _).trans (State.modStore_tlbHost s c _)
@[simp] theorem State.landSst_inval : (s.landSst c q).inval = s.inval := (State.setSeq_inval _ c q _).trans (State.modStore_inval s c _)
@[simp] theorem State.landSst_flushing : (s.landSst c q).flushing = s.flushing := (State.setSeq_flushing _ c q _).trans (State.modStore_flushing s c _)
@[simp] theorem State.landSst_hostAbsent : (s.landSst c q).hostAbsent = s.hostAbsent := (State.setSeq_hostAbsent _ c q _).trans (State.modStore_hostAbsent s c _)
@[simp] theorem State.landSst_atc : (s.landSst c q).atc = s.atc := (State.setSeq_atc _ c q _).trans (State.modStore_atc s c _)
@[simp] theorem State.landSst_atsChanged : (s.landSst c q).atsChanged = s.atsChanged := (State.setSeq_atsChanged _ c q _).trans (State.modStore_atsChanged s c _)
@[simp] theorem State.landSst_pageReqs : (s.landSst c q).pageReqs = s.pageReqs := (State.setSeq_pageReqs _ c q _).trans (State.modStore_pageReqs s c _)
@[simp] theorem State.landSst_watch : (s.landSst c q).watch = s.watch := (State.setSeq_watch _ c q _).trans (State.modStore_watch s c _)
@[simp] theorem State.landSst_spec : (s.landSst c q).spec = s.spec := (State.setSeq_spec _ c q _).trans (State.modStore_spec s c _)
@[simp] theorem State.landSst_ports : (s.landSst c q).ports = s.ports := (State.setSeq_ports _ c q _).trans (State.modStore_ports s c _)
@[simp] theorem State.landSst_dims : (s.landSst c q).dims = s.dims := (State.setSeq_dims _ c q _).trans (State.modStore_dims s c _)
@[simp] theorem State.landSst_outReq : (s.landSst c q).outReq = s.outReq := (State.setSeq_outReq _ c q _).trans (State.modStore_outReq s c _)
@[simp] theorem State.landSst_transit : (s.landSst c q).transit = s.transit := (State.setSeq_transit _ c q _).trans (State.modStore_transit s c _)
@[simp] theorem State.landSst_inbox : (s.landSst c q).inbox = s.inbox := (State.setSeq_inbox _ c q _).trans (State.modStore_inbox s c _)
@[simp] theorem State.landSst_noRoutes : (s.landSst c q).noRoutes = s.noRoutes := (State.setSeq_noRoutes _ c q _).trans (State.modStore_noRoutes s c _)
@[simp] theorem State.landSst_kicks : (s.landSst c q).kicks = s.kicks := (State.setSeq_kicks _ c q _).trans (State.modStore_kicks s c _)
@[simp] theorem State.landSst_lineReqs : (s.landSst c q).lineReqs = s.lineReqs := (State.setSeq_lineReqs _ c q _).trans (State.modStore_lineReqs s c _)
@[simp] theorem State.landSst_ovhRem : (s.landSst c q).ovhRem = s.ovhRem := (State.setSeq_ovhRem _ c q _).trans (State.modStore_ovhRem s c _)
@[simp] theorem State.landSst_reply : (s.landSst c q).reply = s.reply := (State.setSeq_reply _ c q _).trans (State.modStore_reply s c _)
@[simp] theorem State.landSst_syncGood : (s.landSst c q).syncGood = s.syncGood := (State.setSeq_syncGood _ c q _).trans (State.modStore_syncGood s c _)
@[simp] theorem State.landSst_rels : (s.landSst c q).rels = s.rels := (State.setSeq_rels _ c q _).trans (State.modStore_rels s c _)
@[simp] theorem State.landSst_areas : (s.landSst c q).areas = s.areas := (State.setSeq_areas _ c q _).trans (State.modStore_areas s c _)
@[simp] theorem State.landSst_lastSlot : (s.landSst c q).lastSlot = s.lastSlot := (State.setSeq_lastSlot _ c q _).trans (State.modStore_lastSlot s c _)
@[simp] theorem State.landSst_flash : (s.landSst c q).flash = s.flash := (State.setSeq_flash _ c q _).trans (State.modStore_flash s c _)
@[simp] theorem State.landSst_nvme : (s.landSst c q).nvme = s.nvme := (State.setSeq_nvme _ c q _).trans (State.modStore_nvme s c _)
@[simp] theorem State.landSst_posted : (s.landSst c q).posted = s.posted := (State.setSeq_posted _ c q _).trans (State.modStore_posted s c _)
@[simp] theorem State.landSst_heldReads : (s.landSst c q).heldReads = s.heldReads := (State.setSeq_heldReads _ c q _).trans (State.modStore_heldReads s c _)
@[simp] theorem State.landSst_csetOrder : (s.landSst c q).csetOrder = s.csetOrder := (State.setSeq_csetOrder _ c q _).trans (State.modStore_csetOrder s c _)
@[simp] theorem State.landSst_pcie : (s.landSst c q).pcie = s.pcie := (State.setSeq_pcie _ c q _).trans (State.modStore_pcie s c _)
@[simp] theorem State.landSst_refLost : (s.landSst c q).refLost = s.refLost := (State.setSeq_refLost _ c q _).trans (State.modStore_refLost s c _)
@[simp] theorem State.landSst_hangs : (s.landSst c q).hangs = s.hangs := (State.setSeq_hangs _ c q _).trans (State.modStore_hangs s c _)
@[simp] theorem State.landSst_progress : (s.landSst c q).progress = s.progress := (State.setSeq_progress _ c q _).trans (State.modStore_progress s c _)
@[simp] theorem State.landSst_esc : (s.landSst c q).esc = s.esc := (State.setSeq_esc _ c q _).trans (State.modStore_esc s c _)
@[simp] theorem State.landSst_photoRun : (s.landSst c q).photoRun = s.photoRun := (State.setSeq_photoRun _ c q _).trans (State.modStore_photoRun s c _)
@[simp] theorem State.landSst_resetDue : (s.landSst c q).resetDue = s.resetDue := (State.setSeq_resetDue _ c q _).trans (State.modStore_resetDue s c _)
@[simp] theorem State.landSst_photo : (s.landSst c q).photo = s.photo := (State.setSeq_photo _ c q _).trans (State.modStore_photo s c _)
@[simp] theorem State.landSst_photoSector : (s.landSst c q).photoSector = s.photoSector := (State.setSeq_photoSector _ c q _).trans (State.modStore_photoSector s c _)
@[simp] theorem State.landSst_psc : (s.landSst c q).psc = s.psc := (State.setSeq_psc _ c q _).trans (State.modStore_psc s c _)
@[simp] theorem State.landSst_recA : (s.landSst c q).recA = s.recA := (State.setSeq_recA _ c q _).trans (State.modStore_recA s c _)
@[simp] theorem State.landSst_recB : (s.landSst c q).recB = s.recB := (State.setSeq_recB _ c q _).trans (State.modStore_recB s c _)
@[simp] theorem State.landSst_curB : (s.landSst c q).curB = s.curB := (State.setSeq_curB _ c q _).trans (State.modStore_curB s c _)
@[simp] theorem State.landSst_start : (s.landSst c q).start = s.start := (State.setSeq_start _ c q _).trans (State.modStore_start s c _)
@[simp] theorem State.landSst_fuses : (s.landSst c q).fuses = s.fuses := (State.setSeq_fuses _ c q _).trans (State.modStore_fuses s c _)
@[simp] theorem State.landSst_activation : (s.landSst c q).activation = s.activation := (State.setSeq_activation _ c q _).trans (State.modStore_activation s c _)
@[simp] theorem State.landSst_crown : (s.landSst c q).crown = s.crown := (State.setSeq_crown _ c q _).trans (State.modStore_crown s c _)
@[simp] theorem State.landSst_activeImage : (s.landSst c q).activeImage = s.activeImage := (State.setSeq_activeImage _ c q _).trans (State.modStore_activeImage s c _)
@[simp] theorem State.landSst_stageBank : (s.landSst c q).stageBank = s.stageBank := (State.setSeq_stageBank _ c q _).trans (State.modStore_stageBank s c _)
@[simp] theorem State.landSst_stgBuf : (s.landSst c q).stgBuf = s.stgBuf := (State.setSeq_stgBuf _ c q _).trans (State.modStore_stgBuf s c _)
@[simp] theorem State.landSst_stgAt : (s.landSst c q).stgAt = s.stgAt := (State.setSeq_stgAt _ c q _).trans (State.modStore_stgAt s c _)
@[simp] theorem State.landSst_gnt : (s.landSst c q).gnt = s.gnt := (State.setSeq_gnt _ c q _).trans (State.modStore_gnt s c _)
@[simp] theorem State.landSst_retrainDue : (s.landSst c q).retrainDue = s.retrainDue := (State.setSeq_retrainDue _ c q _).trans (State.modStore_retrainDue s c _)
@[simp] theorem State.landSst_pins : (s.landSst c q).pins = s.pins := (State.setSeq_pins _ c q _).trans (State.modStore_pins s c _)
@[simp] theorem State.landSst_smbPtr : (s.landSst c q).smbPtr = s.smbPtr := (State.setSeq_smbPtr _ c q _).trans (State.modStore_smbPtr s c _)
@[simp] theorem State.landSst_smbRefused : (s.landSst c q).smbRefused = s.smbRefused := (State.setSeq_smbRefused _ c q _).trans (State.modStore_smbRefused s c _)
@[simp] theorem State.landSst_glbCopy : (s.landSst c q).glbCopy = s.glbCopy := (State.setSeq_glbCopy _ c q _).trans (State.modStore_glbCopy s c _)
end

/-! ### State.retireTo: changes `regs`, `cores` -/

section
variable (s : State) (c : CoreId) (q : SeqId) (p : Off)
@[simp] theorem State.retireTo_pending : (s.retireTo c q p).pending = s.pending := (State.modSeq_pending (s.bump (Reg.SEQ_ISSUED c q) 1) c q _).trans (State.bump_pending s _ 1)
@[simp] theorem State.retireTo_shadow : (s.retireTo c q p).shadow = s.shadow := (State.modSeq_shadow (s.bump (Reg.SEQ_ISSUED c q) 1) c q _).trans (State.bump_shadow s _ 1)
@[simp] theorem State.retireTo_ptb : (s.retireTo c q p).ptb = s.ptb := (State.modSeq_ptb (s.bump (Reg.SEQ_ISSUED c q) 1) c q _).trans (State.bump_ptb s _ 1)
@[simp] theorem State.retireTo_free : (s.retireTo c q p).free = s.free := (State.modSeq_free (s.bump (Reg.SEQ_ISSUED c q) 1) c q _).trans (State.bump_free s _ 1)
@[simp] theorem State.retireTo_hurdles : (s.retireTo c q p).hurdles = s.hurdles := (State.modSeq_hurdles (s.bump (Reg.SEQ_ISSUED c q) 1) c q _).trans (State.bump_hurdles s _ 1)
@[simp] theorem State.retireTo_arrivals : (s.retireTo c q p).arrivals = s.arrivals := (State.modSeq_arrivals (s.bump (Reg.SEQ_ISSUED c q) 1) c q _).trans (State.bump_arrivals s _ 1)
@[simp] theorem State.retireTo_host : (s.retireTo c q p).host = s.host := (State.modSeq_host (s.bump (Reg.SEQ_ISSUED c q) 1) c q _).trans (State.bump_host s _ 1)
@[simp] theorem State.retireTo_fns : (s.retireTo c q p).fns = s.fns := (State.modSeq_fns (s.bump (Reg.SEQ_ISSUED c q) 1) c q _).trans (State.bump_fns s _ 1)
@[simp] theorem State.retireTo_msix : (s.retireTo c q p).msix = s.msix := (State.modSeq_msix (s.bump (Reg.SEQ_ISSUED c q) 1) c q _).trans (State.bump_msix s _ 1)
@[simp] theorem State.retireTo_alerts : (s.retireTo c q p).alerts = s.alerts := (State.modSeq_alerts (s.bump (Reg.SEQ_ISSUED c q) 1) c q _).trans (State.bump_alerts s _ 1)
@[simp] theorem State.retireTo_ctxs : (s.retireTo c q p).ctxs = s.ctxs := (State.modSeq_ctxs (s.bump (Reg.SEQ_ISSUED c q) 1) c q _).trans (State.bump_ctxs s _ 1)
@[simp] theorem State.retireTo_parts : (s.retireTo c q p).parts = s.parts := (State.modSeq_parts (s.bump (Reg.SEQ_ISSUED c q) 1) c q _).trans (State.bump_parts s _ 1)
@[simp] theorem State.retireTo_dram : (s.retireTo c q p).dram = s.dram := (State.modSeq_dram (s.bump (Reg.SEQ_ISSUED c q) 1) c q _).trans (State.bump_dram s _ 1)
@[simp] theorem State.retireTo_buf : (s.retireTo c q p).buf = s.buf := (State.modSeq_buf (s.bump (Reg.SEQ_ISSUED c q) 1) c q _).trans (State.bump_buf s _ 1)
@[simp] theorem State.retireTo_poisoned : (s.retireTo c q p).poisoned = s.poisoned := (State.modSeq_poisoned (s.bump (Reg.SEQ_ISSUED c q) 1) c q _).trans (State.bump_poisoned s _ 1)
@[simp] theorem State.retireTo_rows : (s.retireTo c q p).rows = s.rows := (State.modSeq_rows (s.bump (Reg.SEQ_ISSUED c q) 1) c q _).trans (State.bump_rows s _ 1)
@[simp] theorem State.retireTo_spares : (s.retireTo c q p).spares = s.spares := (State.modSeq_spares (s.bump (Reg.SEQ_ISSUED c q) 1) c q _).trans (State.bump_spares s _ 1)
@[simp] theorem State.retireTo_repairLog : (s.retireTo c q p).repairLog = s.repairLog := (State.modSeq_repairLog (s.bump (Reg.SEQ_ISSUED c q) 1) c q _).trans (State.bump_repairLog s _ 1)
@[simp] theorem State.retireTo_retired : (s.retireTo c q p).retired = s.retired := (State.modSeq_retired (s.bump (Reg.SEQ_ISSUED c q) 1) c q _).trans (State.bump_retired s _ 1)
@[simp] theorem State.retireTo_chanOut : (s.retireTo c q p).chanOut = s.chanOut := (State.modSeq_chanOut (s.bump (Reg.SEQ_ISSUED c q) 1) c q _).trans (State.bump_chanOut s _ 1)
@[simp] theorem State.retireTo_dead : (s.retireTo c q p).dead = s.dead := (State.modSeq_dead (s.bump (Reg.SEQ_ISSUED c q) 1) c q _).trans (State.bump_dead s _ 1)
@[simp] theorem State.retireTo_tlbCore : (s.retireTo c q p).tlbCore = s.tlbCore := (State.modSeq_tlbCore (s.bump (Reg.SEQ_ISSUED c q) 1) c q _).trans (State.bump_tlbCore s _ 1)
@[simp] theorem State.retireTo_tlbDie : (s.retireTo c q p).tlbDie = s.tlbDie := (State.modSeq_tlbDie (s.bump (Reg.SEQ_ISSUED c q) 1) c q _).trans (State.bump_tlbDie s _ 1)
@[simp] theorem State.retireTo_tlbHost : (s.retireTo c q p).tlbHost = s.tlbHost := (State.modSeq_tlbHost (s.bump (Reg.SEQ_ISSUED c q) 1) c q _).trans (State.bump_tlbHost s _ 1)
@[simp] theorem State.retireTo_inval : (s.retireTo c q p).inval = s.inval := (State.modSeq_inval (s.bump (Reg.SEQ_ISSUED c q) 1) c q _).trans (State.bump_inval s _ 1)
@[simp] theorem State.retireTo_flushing : (s.retireTo c q p).flushing = s.flushing := (State.modSeq_flushing (s.bump (Reg.SEQ_ISSUED c q) 1) c q _).trans (State.bump_flushing s _ 1)
@[simp] theorem State.retireTo_hostAbsent : (s.retireTo c q p).hostAbsent = s.hostAbsent := (State.modSeq_hostAbsent (s.bump (Reg.SEQ_ISSUED c q) 1) c q _).trans (State.bump_hostAbsent s _ 1)
@[simp] theorem State.retireTo_atc : (s.retireTo c q p).atc = s.atc := (State.modSeq_atc (s.bump (Reg.SEQ_ISSUED c q) 1) c q _).trans (State.bump_atc s _ 1)
@[simp] theorem State.retireTo_atsChanged : (s.retireTo c q p).atsChanged = s.atsChanged := (State.modSeq_atsChanged (s.bump (Reg.SEQ_ISSUED c q) 1) c q _).trans (State.bump_atsChanged s _ 1)
@[simp] theorem State.retireTo_pageReqs : (s.retireTo c q p).pageReqs = s.pageReqs := (State.modSeq_pageReqs (s.bump (Reg.SEQ_ISSUED c q) 1) c q _).trans (State.bump_pageReqs s _ 1)
@[simp] theorem State.retireTo_watch : (s.retireTo c q p).watch = s.watch := (State.modSeq_watch (s.bump (Reg.SEQ_ISSUED c q) 1) c q _).trans (State.bump_watch s _ 1)
@[simp] theorem State.retireTo_spec : (s.retireTo c q p).spec = s.spec := (State.modSeq_spec (s.bump (Reg.SEQ_ISSUED c q) 1) c q _).trans (State.bump_spec s _ 1)
@[simp] theorem State.retireTo_ports : (s.retireTo c q p).ports = s.ports := (State.modSeq_ports (s.bump (Reg.SEQ_ISSUED c q) 1) c q _).trans (State.bump_ports s _ 1)
@[simp] theorem State.retireTo_dims : (s.retireTo c q p).dims = s.dims := (State.modSeq_dims (s.bump (Reg.SEQ_ISSUED c q) 1) c q _).trans (State.bump_dims s _ 1)
@[simp] theorem State.retireTo_outReq : (s.retireTo c q p).outReq = s.outReq := (State.modSeq_outReq (s.bump (Reg.SEQ_ISSUED c q) 1) c q _).trans (State.bump_outReq s _ 1)
@[simp] theorem State.retireTo_transit : (s.retireTo c q p).transit = s.transit := (State.modSeq_transit (s.bump (Reg.SEQ_ISSUED c q) 1) c q _).trans (State.bump_transit s _ 1)
@[simp] theorem State.retireTo_inbox : (s.retireTo c q p).inbox = s.inbox := (State.modSeq_inbox (s.bump (Reg.SEQ_ISSUED c q) 1) c q _).trans (State.bump_inbox s _ 1)
@[simp] theorem State.retireTo_noRoutes : (s.retireTo c q p).noRoutes = s.noRoutes := (State.modSeq_noRoutes (s.bump (Reg.SEQ_ISSUED c q) 1) c q _).trans (State.bump_noRoutes s _ 1)
@[simp] theorem State.retireTo_kicks : (s.retireTo c q p).kicks = s.kicks := (State.modSeq_kicks (s.bump (Reg.SEQ_ISSUED c q) 1) c q _).trans (State.bump_kicks s _ 1)
@[simp] theorem State.retireTo_lineReqs : (s.retireTo c q p).lineReqs = s.lineReqs := (State.modSeq_lineReqs (s.bump (Reg.SEQ_ISSUED c q) 1) c q _).trans (State.bump_lineReqs s _ 1)
@[simp] theorem State.retireTo_ovhRem : (s.retireTo c q p).ovhRem = s.ovhRem := (State.modSeq_ovhRem (s.bump (Reg.SEQ_ISSUED c q) 1) c q _).trans (State.bump_ovhRem s _ 1)
@[simp] theorem State.retireTo_reply : (s.retireTo c q p).reply = s.reply := (State.modSeq_reply (s.bump (Reg.SEQ_ISSUED c q) 1) c q _).trans (State.bump_reply s _ 1)
@[simp] theorem State.retireTo_syncGood : (s.retireTo c q p).syncGood = s.syncGood := (State.modSeq_syncGood (s.bump (Reg.SEQ_ISSUED c q) 1) c q _).trans (State.bump_syncGood s _ 1)
@[simp] theorem State.retireTo_rels : (s.retireTo c q p).rels = s.rels := (State.modSeq_rels (s.bump (Reg.SEQ_ISSUED c q) 1) c q _).trans (State.bump_rels s _ 1)
@[simp] theorem State.retireTo_areas : (s.retireTo c q p).areas = s.areas := (State.modSeq_areas (s.bump (Reg.SEQ_ISSUED c q) 1) c q _).trans (State.bump_areas s _ 1)
@[simp] theorem State.retireTo_lastSlot : (s.retireTo c q p).lastSlot = s.lastSlot := (State.modSeq_lastSlot (s.bump (Reg.SEQ_ISSUED c q) 1) c q _).trans (State.bump_lastSlot s _ 1)
@[simp] theorem State.retireTo_flash : (s.retireTo c q p).flash = s.flash := (State.modSeq_flash (s.bump (Reg.SEQ_ISSUED c q) 1) c q _).trans (State.bump_flash s _ 1)
@[simp] theorem State.retireTo_nvme : (s.retireTo c q p).nvme = s.nvme := (State.modSeq_nvme (s.bump (Reg.SEQ_ISSUED c q) 1) c q _).trans (State.bump_nvme s _ 1)
@[simp] theorem State.retireTo_posted : (s.retireTo c q p).posted = s.posted := (State.modSeq_posted (s.bump (Reg.SEQ_ISSUED c q) 1) c q _).trans (State.bump_posted s _ 1)
@[simp] theorem State.retireTo_heldReads : (s.retireTo c q p).heldReads = s.heldReads := (State.modSeq_heldReads (s.bump (Reg.SEQ_ISSUED c q) 1) c q _).trans (State.bump_heldReads s _ 1)
@[simp] theorem State.retireTo_csetOrder : (s.retireTo c q p).csetOrder = s.csetOrder := (State.modSeq_csetOrder (s.bump (Reg.SEQ_ISSUED c q) 1) c q _).trans (State.bump_csetOrder s _ 1)
@[simp] theorem State.retireTo_pcie : (s.retireTo c q p).pcie = s.pcie := (State.modSeq_pcie (s.bump (Reg.SEQ_ISSUED c q) 1) c q _).trans (State.bump_pcie s _ 1)
@[simp] theorem State.retireTo_refLost : (s.retireTo c q p).refLost = s.refLost := (State.modSeq_refLost (s.bump (Reg.SEQ_ISSUED c q) 1) c q _).trans (State.bump_refLost s _ 1)
@[simp] theorem State.retireTo_hangs : (s.retireTo c q p).hangs = s.hangs := (State.modSeq_hangs (s.bump (Reg.SEQ_ISSUED c q) 1) c q _).trans (State.bump_hangs s _ 1)
@[simp] theorem State.retireTo_progress : (s.retireTo c q p).progress = s.progress := (State.modSeq_progress (s.bump (Reg.SEQ_ISSUED c q) 1) c q _).trans (State.bump_progress s _ 1)
@[simp] theorem State.retireTo_esc : (s.retireTo c q p).esc = s.esc := (State.modSeq_esc (s.bump (Reg.SEQ_ISSUED c q) 1) c q _).trans (State.bump_esc s _ 1)
@[simp] theorem State.retireTo_photoRun : (s.retireTo c q p).photoRun = s.photoRun := (State.modSeq_photoRun (s.bump (Reg.SEQ_ISSUED c q) 1) c q _).trans (State.bump_photoRun s _ 1)
@[simp] theorem State.retireTo_resetDue : (s.retireTo c q p).resetDue = s.resetDue := (State.modSeq_resetDue (s.bump (Reg.SEQ_ISSUED c q) 1) c q _).trans (State.bump_resetDue s _ 1)
@[simp] theorem State.retireTo_photo : (s.retireTo c q p).photo = s.photo := (State.modSeq_photo (s.bump (Reg.SEQ_ISSUED c q) 1) c q _).trans (State.bump_photo s _ 1)
@[simp] theorem State.retireTo_photoSector : (s.retireTo c q p).photoSector = s.photoSector := (State.modSeq_photoSector (s.bump (Reg.SEQ_ISSUED c q) 1) c q _).trans (State.bump_photoSector s _ 1)
@[simp] theorem State.retireTo_psc : (s.retireTo c q p).psc = s.psc := (State.modSeq_psc (s.bump (Reg.SEQ_ISSUED c q) 1) c q _).trans (State.bump_psc s _ 1)
@[simp] theorem State.retireTo_recA : (s.retireTo c q p).recA = s.recA := (State.modSeq_recA (s.bump (Reg.SEQ_ISSUED c q) 1) c q _).trans (State.bump_recA s _ 1)
@[simp] theorem State.retireTo_recB : (s.retireTo c q p).recB = s.recB := (State.modSeq_recB (s.bump (Reg.SEQ_ISSUED c q) 1) c q _).trans (State.bump_recB s _ 1)
@[simp] theorem State.retireTo_curB : (s.retireTo c q p).curB = s.curB := (State.modSeq_curB (s.bump (Reg.SEQ_ISSUED c q) 1) c q _).trans (State.bump_curB s _ 1)
@[simp] theorem State.retireTo_start : (s.retireTo c q p).start = s.start := (State.modSeq_start (s.bump (Reg.SEQ_ISSUED c q) 1) c q _).trans (State.bump_start s _ 1)
@[simp] theorem State.retireTo_fuses : (s.retireTo c q p).fuses = s.fuses := (State.modSeq_fuses (s.bump (Reg.SEQ_ISSUED c q) 1) c q _).trans (State.bump_fuses s _ 1)
@[simp] theorem State.retireTo_activation : (s.retireTo c q p).activation = s.activation := (State.modSeq_activation (s.bump (Reg.SEQ_ISSUED c q) 1) c q _).trans (State.bump_activation s _ 1)
@[simp] theorem State.retireTo_crown : (s.retireTo c q p).crown = s.crown := (State.modSeq_crown (s.bump (Reg.SEQ_ISSUED c q) 1) c q _).trans (State.bump_crown s _ 1)
@[simp] theorem State.retireTo_activeImage : (s.retireTo c q p).activeImage = s.activeImage := (State.modSeq_activeImage (s.bump (Reg.SEQ_ISSUED c q) 1) c q _).trans (State.bump_activeImage s _ 1)
@[simp] theorem State.retireTo_stageBank : (s.retireTo c q p).stageBank = s.stageBank := (State.modSeq_stageBank (s.bump (Reg.SEQ_ISSUED c q) 1) c q _).trans (State.bump_stageBank s _ 1)
@[simp] theorem State.retireTo_stgBuf : (s.retireTo c q p).stgBuf = s.stgBuf := (State.modSeq_stgBuf (s.bump (Reg.SEQ_ISSUED c q) 1) c q _).trans (State.bump_stgBuf s _ 1)
@[simp] theorem State.retireTo_stgAt : (s.retireTo c q p).stgAt = s.stgAt := (State.modSeq_stgAt (s.bump (Reg.SEQ_ISSUED c q) 1) c q _).trans (State.bump_stgAt s _ 1)
@[simp] theorem State.retireTo_gnt : (s.retireTo c q p).gnt = s.gnt := (State.modSeq_gnt (s.bump (Reg.SEQ_ISSUED c q) 1) c q _).trans (State.bump_gnt s _ 1)
@[simp] theorem State.retireTo_retrainDue : (s.retireTo c q p).retrainDue = s.retrainDue := (State.modSeq_retrainDue (s.bump (Reg.SEQ_ISSUED c q) 1) c q _).trans (State.bump_retrainDue s _ 1)
@[simp] theorem State.retireTo_pins : (s.retireTo c q p).pins = s.pins := (State.modSeq_pins (s.bump (Reg.SEQ_ISSUED c q) 1) c q _).trans (State.bump_pins s _ 1)
@[simp] theorem State.retireTo_smbPtr : (s.retireTo c q p).smbPtr = s.smbPtr := (State.modSeq_smbPtr (s.bump (Reg.SEQ_ISSUED c q) 1) c q _).trans (State.bump_smbPtr s _ 1)
@[simp] theorem State.retireTo_smbRefused : (s.retireTo c q p).smbRefused = s.smbRefused := (State.modSeq_smbRefused (s.bump (Reg.SEQ_ISSUED c q) 1) c q _).trans (State.bump_smbRefused s _ 1)
@[simp] theorem State.retireTo_glbCopy : (s.retireTo c q p).glbCopy = s.glbCopy := (State.modSeq_glbCopy (s.bump (Reg.SEQ_ISSUED c q) 1) c q _).trans (State.bump_glbCopy s _ 1)
end

/-! ### State.beat: changes `progress` -/

section
variable (s : State) (k n : Nat)
@[simp] theorem State.beat_pending : (s.beat k n).pending = s.pending := (rfl)
@[simp] theorem State.beat_regs : (s.beat k n).regs = s.regs := (rfl)
@[simp] theorem State.beat_shadow : (s.beat k n).shadow = s.shadow := (rfl)
@[simp] theorem State.beat_ptb : (s.beat k n).ptb = s.ptb := (rfl)
@[simp] theorem State.beat_free : (s.beat k n).free = s.free := (rfl)
@[simp] theorem State.beat_cores : (s.beat k n).cores = s.cores := (rfl)
@[simp] theorem State.beat_hurdles : (s.beat k n).hurdles = s.hurdles := (rfl)
@[simp] theorem State.beat_arrivals : (s.beat k n).arrivals = s.arrivals := (rfl)
@[simp] theorem State.beat_host : (s.beat k n).host = s.host := (rfl)
@[simp] theorem State.beat_fns : (s.beat k n).fns = s.fns := (rfl)
@[simp] theorem State.beat_msix : (s.beat k n).msix = s.msix := (rfl)
@[simp] theorem State.beat_alerts : (s.beat k n).alerts = s.alerts := (rfl)
@[simp] theorem State.beat_ctxs : (s.beat k n).ctxs = s.ctxs := (rfl)
@[simp] theorem State.beat_parts : (s.beat k n).parts = s.parts := (rfl)
@[simp] theorem State.beat_dram : (s.beat k n).dram = s.dram := (rfl)
@[simp] theorem State.beat_buf : (s.beat k n).buf = s.buf := (rfl)
@[simp] theorem State.beat_poisoned : (s.beat k n).poisoned = s.poisoned := (rfl)
@[simp] theorem State.beat_rows : (s.beat k n).rows = s.rows := (rfl)
@[simp] theorem State.beat_spares : (s.beat k n).spares = s.spares := (rfl)
@[simp] theorem State.beat_repairLog : (s.beat k n).repairLog = s.repairLog := (rfl)
@[simp] theorem State.beat_retired : (s.beat k n).retired = s.retired := (rfl)
@[simp] theorem State.beat_chanOut : (s.beat k n).chanOut = s.chanOut := (rfl)
@[simp] theorem State.beat_dead : (s.beat k n).dead = s.dead := (rfl)
@[simp] theorem State.beat_tlbCore : (s.beat k n).tlbCore = s.tlbCore := (rfl)
@[simp] theorem State.beat_tlbDie : (s.beat k n).tlbDie = s.tlbDie := (rfl)
@[simp] theorem State.beat_tlbHost : (s.beat k n).tlbHost = s.tlbHost := (rfl)
@[simp] theorem State.beat_inval : (s.beat k n).inval = s.inval := (rfl)
@[simp] theorem State.beat_flushing : (s.beat k n).flushing = s.flushing := (rfl)
@[simp] theorem State.beat_hostAbsent : (s.beat k n).hostAbsent = s.hostAbsent := (rfl)
@[simp] theorem State.beat_atc : (s.beat k n).atc = s.atc := (rfl)
@[simp] theorem State.beat_atsChanged : (s.beat k n).atsChanged = s.atsChanged := (rfl)
@[simp] theorem State.beat_pageReqs : (s.beat k n).pageReqs = s.pageReqs := (rfl)
@[simp] theorem State.beat_watch : (s.beat k n).watch = s.watch := (rfl)
@[simp] theorem State.beat_spec : (s.beat k n).spec = s.spec := (rfl)
@[simp] theorem State.beat_ports : (s.beat k n).ports = s.ports := (rfl)
@[simp] theorem State.beat_dims : (s.beat k n).dims = s.dims := (rfl)
@[simp] theorem State.beat_outReq : (s.beat k n).outReq = s.outReq := (rfl)
@[simp] theorem State.beat_transit : (s.beat k n).transit = s.transit := (rfl)
@[simp] theorem State.beat_inbox : (s.beat k n).inbox = s.inbox := (rfl)
@[simp] theorem State.beat_noRoutes : (s.beat k n).noRoutes = s.noRoutes := (rfl)
@[simp] theorem State.beat_kicks : (s.beat k n).kicks = s.kicks := (rfl)
@[simp] theorem State.beat_lineReqs : (s.beat k n).lineReqs = s.lineReqs := (rfl)
@[simp] theorem State.beat_ovhRem : (s.beat k n).ovhRem = s.ovhRem := (rfl)
@[simp] theorem State.beat_reply : (s.beat k n).reply = s.reply := (rfl)
@[simp] theorem State.beat_syncGood : (s.beat k n).syncGood = s.syncGood := (rfl)
@[simp] theorem State.beat_rels : (s.beat k n).rels = s.rels := (rfl)
@[simp] theorem State.beat_areas : (s.beat k n).areas = s.areas := (rfl)
@[simp] theorem State.beat_lastSlot : (s.beat k n).lastSlot = s.lastSlot := (rfl)
@[simp] theorem State.beat_flash : (s.beat k n).flash = s.flash := (rfl)
@[simp] theorem State.beat_nvme : (s.beat k n).nvme = s.nvme := (rfl)
@[simp] theorem State.beat_posted : (s.beat k n).posted = s.posted := (rfl)
@[simp] theorem State.beat_heldReads : (s.beat k n).heldReads = s.heldReads := (rfl)
@[simp] theorem State.beat_csetOrder : (s.beat k n).csetOrder = s.csetOrder := (rfl)
@[simp] theorem State.beat_pcie : (s.beat k n).pcie = s.pcie := (rfl)
@[simp] theorem State.beat_refLost : (s.beat k n).refLost = s.refLost := (rfl)
@[simp] theorem State.beat_hangs : (s.beat k n).hangs = s.hangs := (rfl)
@[simp] theorem State.beat_progress : (s.beat k n).progress = smSet (fun _ => 0) s.progress (wdKey k n) s.ptb := (rfl)
@[simp] theorem State.beat_esc : (s.beat k n).esc = s.esc := (rfl)
@[simp] theorem State.beat_photoRun : (s.beat k n).photoRun = s.photoRun := (rfl)
@[simp] theorem State.beat_resetDue : (s.beat k n).resetDue = s.resetDue := (rfl)
@[simp] theorem State.beat_photo : (s.beat k n).photo = s.photo := (rfl)
@[simp] theorem State.beat_photoSector : (s.beat k n).photoSector = s.photoSector := (rfl)
@[simp] theorem State.beat_psc : (s.beat k n).psc = s.psc := (rfl)
@[simp] theorem State.beat_recA : (s.beat k n).recA = s.recA := (rfl)
@[simp] theorem State.beat_recB : (s.beat k n).recB = s.recB := (rfl)
@[simp] theorem State.beat_curB : (s.beat k n).curB = s.curB := (rfl)
@[simp] theorem State.beat_start : (s.beat k n).start = s.start := (rfl)
@[simp] theorem State.beat_fuses : (s.beat k n).fuses = s.fuses := (rfl)
@[simp] theorem State.beat_activation : (s.beat k n).activation = s.activation := (rfl)
@[simp] theorem State.beat_crown : (s.beat k n).crown = s.crown := (rfl)
@[simp] theorem State.beat_activeImage : (s.beat k n).activeImage = s.activeImage := (rfl)
@[simp] theorem State.beat_stageBank : (s.beat k n).stageBank = s.stageBank := (rfl)
@[simp] theorem State.beat_stgBuf : (s.beat k n).stgBuf = s.stgBuf := (rfl)
@[simp] theorem State.beat_stgAt : (s.beat k n).stgAt = s.stgAt := (rfl)
@[simp] theorem State.beat_gnt : (s.beat k n).gnt = s.gnt := (rfl)
@[simp] theorem State.beat_retrainDue : (s.beat k n).retrainDue = s.retrainDue := (rfl)
@[simp] theorem State.beat_pins : (s.beat k n).pins = s.pins := (rfl)
@[simp] theorem State.beat_smbPtr : (s.beat k n).smbPtr = s.smbPtr := (rfl)
@[simp] theorem State.beat_smbRefused : (s.beat k n).smbRefused = s.smbRefused := (rfl)
@[simp] theorem State.beat_glbCopy : (s.beat k n).glbCopy = s.glbCopy := (rfl)
end

/-! ### State.atTime: changes `ptb` -/

section
variable (s : State) (t : W64)
@[simp] theorem State.atTime_pending : (s.atTime t).pending = s.pending := (rfl)
@[simp] theorem State.atTime_regs : (s.atTime t).regs = s.regs := (rfl)
@[simp] theorem State.atTime_shadow : (s.atTime t).shadow = s.shadow := (rfl)
@[simp] theorem State.atTime_ptb : (s.atTime t).ptb = if s.ptb.toNat < t.toNat && !s.psc.ahead then t else s.ptb := (rfl)
@[simp] theorem State.atTime_free : (s.atTime t).free = s.free := (rfl)
@[simp] theorem State.atTime_cores : (s.atTime t).cores = s.cores := (rfl)
@[simp] theorem State.atTime_hurdles : (s.atTime t).hurdles = s.hurdles := (rfl)
@[simp] theorem State.atTime_arrivals : (s.atTime t).arrivals = s.arrivals := (rfl)
@[simp] theorem State.atTime_host : (s.atTime t).host = s.host := (rfl)
@[simp] theorem State.atTime_fns : (s.atTime t).fns = s.fns := (rfl)
@[simp] theorem State.atTime_msix : (s.atTime t).msix = s.msix := (rfl)
@[simp] theorem State.atTime_alerts : (s.atTime t).alerts = s.alerts := (rfl)
@[simp] theorem State.atTime_ctxs : (s.atTime t).ctxs = s.ctxs := (rfl)
@[simp] theorem State.atTime_parts : (s.atTime t).parts = s.parts := (rfl)
@[simp] theorem State.atTime_dram : (s.atTime t).dram = s.dram := (rfl)
@[simp] theorem State.atTime_buf : (s.atTime t).buf = s.buf := (rfl)
@[simp] theorem State.atTime_poisoned : (s.atTime t).poisoned = s.poisoned := (rfl)
@[simp] theorem State.atTime_rows : (s.atTime t).rows = s.rows := (rfl)
@[simp] theorem State.atTime_spares : (s.atTime t).spares = s.spares := (rfl)
@[simp] theorem State.atTime_repairLog : (s.atTime t).repairLog = s.repairLog := (rfl)
@[simp] theorem State.atTime_retired : (s.atTime t).retired = s.retired := (rfl)
@[simp] theorem State.atTime_chanOut : (s.atTime t).chanOut = s.chanOut := (rfl)
@[simp] theorem State.atTime_dead : (s.atTime t).dead = s.dead := (rfl)
@[simp] theorem State.atTime_tlbCore : (s.atTime t).tlbCore = s.tlbCore := (rfl)
@[simp] theorem State.atTime_tlbDie : (s.atTime t).tlbDie = s.tlbDie := (rfl)
@[simp] theorem State.atTime_tlbHost : (s.atTime t).tlbHost = s.tlbHost := (rfl)
@[simp] theorem State.atTime_inval : (s.atTime t).inval = s.inval := (rfl)
@[simp] theorem State.atTime_flushing : (s.atTime t).flushing = s.flushing := (rfl)
@[simp] theorem State.atTime_hostAbsent : (s.atTime t).hostAbsent = s.hostAbsent := (rfl)
@[simp] theorem State.atTime_atc : (s.atTime t).atc = s.atc := (rfl)
@[simp] theorem State.atTime_atsChanged : (s.atTime t).atsChanged = s.atsChanged := (rfl)
@[simp] theorem State.atTime_pageReqs : (s.atTime t).pageReqs = s.pageReqs := (rfl)
@[simp] theorem State.atTime_watch : (s.atTime t).watch = s.watch := (rfl)
@[simp] theorem State.atTime_spec : (s.atTime t).spec = s.spec := (rfl)
@[simp] theorem State.atTime_ports : (s.atTime t).ports = s.ports := (rfl)
@[simp] theorem State.atTime_dims : (s.atTime t).dims = s.dims := (rfl)
@[simp] theorem State.atTime_outReq : (s.atTime t).outReq = s.outReq := (rfl)
@[simp] theorem State.atTime_transit : (s.atTime t).transit = s.transit := (rfl)
@[simp] theorem State.atTime_inbox : (s.atTime t).inbox = s.inbox := (rfl)
@[simp] theorem State.atTime_noRoutes : (s.atTime t).noRoutes = s.noRoutes := (rfl)
@[simp] theorem State.atTime_kicks : (s.atTime t).kicks = s.kicks := (rfl)
@[simp] theorem State.atTime_lineReqs : (s.atTime t).lineReqs = s.lineReqs := (rfl)
@[simp] theorem State.atTime_ovhRem : (s.atTime t).ovhRem = s.ovhRem := (rfl)
@[simp] theorem State.atTime_reply : (s.atTime t).reply = s.reply := (rfl)
@[simp] theorem State.atTime_syncGood : (s.atTime t).syncGood = s.syncGood := (rfl)
@[simp] theorem State.atTime_rels : (s.atTime t).rels = s.rels := (rfl)
@[simp] theorem State.atTime_areas : (s.atTime t).areas = s.areas := (rfl)
@[simp] theorem State.atTime_lastSlot : (s.atTime t).lastSlot = s.lastSlot := (rfl)
@[simp] theorem State.atTime_flash : (s.atTime t).flash = s.flash := (rfl)
@[simp] theorem State.atTime_nvme : (s.atTime t).nvme = s.nvme := (rfl)
@[simp] theorem State.atTime_posted : (s.atTime t).posted = s.posted := (rfl)
@[simp] theorem State.atTime_heldReads : (s.atTime t).heldReads = s.heldReads := (rfl)
@[simp] theorem State.atTime_csetOrder : (s.atTime t).csetOrder = s.csetOrder := (rfl)
@[simp] theorem State.atTime_pcie : (s.atTime t).pcie = s.pcie := (rfl)
@[simp] theorem State.atTime_refLost : (s.atTime t).refLost = s.refLost := (rfl)
@[simp] theorem State.atTime_hangs : (s.atTime t).hangs = s.hangs := (rfl)
@[simp] theorem State.atTime_progress : (s.atTime t).progress = s.progress := (rfl)
@[simp] theorem State.atTime_esc : (s.atTime t).esc = s.esc := (rfl)
@[simp] theorem State.atTime_photoRun : (s.atTime t).photoRun = s.photoRun := (rfl)
@[simp] theorem State.atTime_resetDue : (s.atTime t).resetDue = s.resetDue := (rfl)
@[simp] theorem State.atTime_photo : (s.atTime t).photo = s.photo := (rfl)
@[simp] theorem State.atTime_photoSector : (s.atTime t).photoSector = s.photoSector := (rfl)
@[simp] theorem State.atTime_psc : (s.atTime t).psc = s.psc := (rfl)
@[simp] theorem State.atTime_recA : (s.atTime t).recA = s.recA := (rfl)
@[simp] theorem State.atTime_recB : (s.atTime t).recB = s.recB := (rfl)
@[simp] theorem State.atTime_curB : (s.atTime t).curB = s.curB := (rfl)
@[simp] theorem State.atTime_start : (s.atTime t).start = s.start := (rfl)
@[simp] theorem State.atTime_fuses : (s.atTime t).fuses = s.fuses := (rfl)
@[simp] theorem State.atTime_activation : (s.atTime t).activation = s.activation := (rfl)
@[simp] theorem State.atTime_crown : (s.atTime t).crown = s.crown := (rfl)
@[simp] theorem State.atTime_activeImage : (s.atTime t).activeImage = s.activeImage := (rfl)
@[simp] theorem State.atTime_stageBank : (s.atTime t).stageBank = s.stageBank := (rfl)
@[simp] theorem State.atTime_stgBuf : (s.atTime t).stgBuf = s.stgBuf := (rfl)
@[simp] theorem State.atTime_stgAt : (s.atTime t).stgAt = s.stgAt := (rfl)
@[simp] theorem State.atTime_gnt : (s.atTime t).gnt = s.gnt := (rfl)
@[simp] theorem State.atTime_retrainDue : (s.atTime t).retrainDue = s.retrainDue := (rfl)
@[simp] theorem State.atTime_pins : (s.atTime t).pins = s.pins := (rfl)
@[simp] theorem State.atTime_smbPtr : (s.atTime t).smbPtr = s.smbPtr := (rfl)
@[simp] theorem State.atTime_smbRefused : (s.atTime t).smbRefused = s.smbRefused := (rfl)
@[simp] theorem State.atTime_glbCopy : (s.atTime t).glbCopy = s.glbCopy := (rfl)
end

/-! ### Core.setSeq: changes `seqs` -/

section
variable (k : Core) (q : SeqId) (z : Seq)
@[simp] theorem Core.setSeq_ctx : (k.setSeq q z).ctx = k.ctx := (rfl)
@[simp] theorem Core.setSeq_seqs : (k.setSeq q z).seqs = vset k.seqs (seqIx q) z := (rfl)
@[simp] theorem Core.setSeq_store : (k.setSeq q z).store = k.store := (rfl)
@[simp] theorem Core.setSeq_wins : (k.setSeq q z).wins = k.wins := (rfl)
@[simp] theorem Core.setSeq_arr : (k.setSeq q z).arr = k.arr := (rfl)
@[simp] theorem Core.setSeq_rowQ : (k.setSeq q z).rowQ = k.rowQ := (rfl)
@[simp] theorem Core.setSeq_rowWaits : (k.setSeq q z).rowWaits = k.rowWaits := (rfl)
@[simp] theorem Core.setSeq_stats : (k.setSeq q z).stats = k.stats := (rfl)
@[simp] theorem Core.setSeq_aclk : (k.setSeq q z).aclk = k.aclk := (rfl)
@[simp] theorem Core.setSeq_own : (k.setSeq q z).own = k.own := (rfl)
@[simp] theorem Core.setSeq_str : (k.setSeq q z).str = k.str := (rfl)
@[simp] theorem Core.setSeq_gth : (k.setSeq q z).gth = k.gth := (rfl)
@[simp] theorem Core.setSeq_gthQ : (k.setSeq q z).gthQ = k.gthQ := (rfl)
@[simp] theorem Core.setSeq_strRot : (k.setSeq q z).strRot = k.strRot := (rfl)
@[simp] theorem Core.setSeq_gthRot : (k.setSeq q z).gthRot = k.gthRot := (rfl)
@[simp] theorem Core.setSeq_strTagRot : (k.setSeq q z).strTagRot = k.strTagRot := (rfl)
@[simp] theorem Core.setSeq_gthTagRot : (k.setSeq q z).gthTagRot = k.gthTagRot := (rfl)
@[simp] theorem Core.setSeq_stash : (k.setSeq q z).stash = k.stash := (rfl)
@[simp] theorem Core.setSeq_stashUid : (k.setSeq q z).stashUid = k.stashUid := (rfl)
@[simp] theorem Core.setSeq_stashOps : (k.setSeq q z).stashOps = k.stashOps := (rfl)
@[simp] theorem Core.setSeq_stashTags : (k.setSeq q z).stashTags = k.stashTags := (rfl)
@[simp] theorem Core.setSeq_stallAt : (k.setSeq q z).stallAt = k.stallAt := (rfl)
@[simp] theorem Core.setSeq_rowStallAt : (k.setSeq q z).rowStallAt = k.rowStallAt := (rfl)
@[simp] theorem Core.setSeq_gens : (k.setSeq q z).gens = k.gens := (rfl)
@[simp] theorem Core.setSeq_boundNs : (k.setSeq q z).boundNs = k.boundNs := (rfl)
@[simp] theorem Core.setSeq_boundAt : (k.setSeq q z).boundAt = k.boundAt := (rfl)
@[simp] theorem Core.setSeq_uops : (k.setSeq q z).uops = k.uops := (rfl)
@[simp] theorem Core.setSeq_lastCommit : (k.setSeq q z).lastCommit = k.lastCommit := (rfl)
end

/-! ### State.rouse: the watchdog of an engine begins to count, or counts on -/

/-- Work given to an engine leaves everything but its watchdog (R435). -/
theorem State.rouse_cases (s : State) (k n : Nat) (held : Bool) :
    (held = true ∧ s.rouse k n held = s) ∨ (held = false ∧ s.rouse k n held = s.beat k n) := by
  cases held
  · exact .inr ⟨rfl, rfl⟩
  · exact .inl ⟨rfl, rfl⟩

/-- As `rouse_cases`, as one update of `progress`. -/
theorem State.rouse_frame (s : State) (k n : Nat) (held : Bool) : s.rouse k n held = { s with progress := (s.rouse k n held).progress } := by
  cases held <;> rfl

end Sys2Proof.Machine

end
end

