-- ==== Sys2Proof/Laws/Tables.lean ====
section
/-! SUPPORT. The laws of sparse tables, memories and vectors of parts: what a write reads back, what it leaves, and that every
operation keeps the canonical form. -/

namespace Sys2Proof.Machine
open Sys2Proof

/-! ## Sparse tables -/

section
variable {α : Type} (d : Nat → α)

@[simp] theorem smGet_nil (k : Nat) : smGet d [] k = d k := rfl

theorem smGet_smErase (m : SMap α) (k j : Nat) : smGet d (smErase m k) j = if j = k then d j else smGet d m j := by
  induction m with
  | nil => simp [smErase]
  | cons p t ih =>
    obtain ⟨a, v⟩ := p
    simp only [smErase] at ih
    by_cases ha : a = k
    · subst ha
      by_cases hj : j = a <;> simp_all [smErase, smGet]
    · by_cases hj : j = a
      · subst hj; simp [smErase, smGet, ha]
      · simp [smErase, smGet, ha, hj, ih]

theorem smGet_smInsert (m : SMap α) (k : Nat) (v : α) (h : ∀ p ∈ m, p.1 ≠ k) (j : Nat) :
    smGet d (smInsert k v m) j = if j = k then v else smGet d m j := by
  induction m with
  | nil => simp [smInsert, smGet]
  | cons p t ih =>
    obtain ⟨a, w⟩ := p
    have ha : a ≠ k := h (a, w) (by simp)
    have ih := ih (fun q hq => h q (by simp [hq]))
    by_cases hlt : k < a
    · simp [smInsert, hlt, smGet]
    · by_cases hj : j = a
      · subst hj; simp [smInsert, hlt, smGet, ha]
      · simp [smInsert, hlt, smGet, hj, ih]

theorem smErase_ne (m : SMap α) (k : Nat) : ∀ p ∈ smErase m k, p.1 ≠ k := by
  intro p hp; simp [smErase] at hp; exact hp.2

/-- A write, without the case of an empty table apart. -/
theorem smSet_eq [DecidableEq α] (m : SMap α) (k : Nat) (v : α) :
    smSet d m k v = if v = d k then smErase m k else smInsert k v (smErase m k) := by
  cases m <;> rfl

/-- What a table reads as after a write, at every key. -/
theorem smGet_smSet [DecidableEq α] (m : SMap α) (k : Nat) (v : α) (j : Nat) :
    smGet d (smSet d m k v) j = if j = k then v else smGet d m j := by
  rw [smSet_eq]
  split
  · rename_i hv
    rw [smGet_smErase]; split
    · rename_i hj; rw [hv, hj]
    · rfl
  · rw [smGet_smInsert d _ k v (smErase_ne m k), smGet_smErase]
    split <;> simp_all

@[simp] theorem smGet_smSet_same [DecidableEq α] (m : SMap α) (k : Nat) (v : α) : smGet d (smSet d m k v) k = v := by
  simp [smGet_smSet]

theorem smGet_smSet_ne [DecidableEq α] (m : SMap α) {k j : Nat} (v : α) (h : j ≠ k) :
    smGet d (smSet d m k v) j = smGet d m j := by
  simp [smGet_smSet, h]

@[simp] theorem smWf_nil [DecidableEq α] : smWf d ([] : SMap α) := by simp [smWf]

theorem smWf_smErase [DecidableEq α] {m : SMap α} (h : smWf d m) (k : Nat) : smWf d (smErase m k) := by
  refine ⟨h.1.filter _, fun p hp => h.2 p ?_⟩
  simp [smErase] at hp; exact hp.1

theorem mem_smInsert (m : SMap α) (k : Nat) (v : α) (p : Nat × α) : p ∈ smInsert k v m ↔ p = (k, v) ∨ p ∈ m := by
  induction m with
  | nil => simp [smInsert]
  | cons q t ih =>
    obtain ⟨a, w⟩ := q
    by_cases hlt : k < a
    · simp [smInsert, hlt]
    · simp only [smInsert, hlt, if_false, List.mem_cons, ih]; exact or_left_comm

theorem smInsert_sorted {m : SMap α} (h : m.Pairwise (fun p q => p.1 < q.1)) (k : Nat) (v : α) (hk : ∀ p ∈ m, p.1 ≠ k) :
    (smInsert k v m).Pairwise (fun p q => p.1 < q.1) := by
  induction m with
  | nil => simp [smInsert]
  | cons q t ih =>
    obtain ⟨a, w⟩ := q
    rw [List.pairwise_cons] at h
    have ha : a ≠ k := hk (a, w) (by simp)
    by_cases hlt : k < a
    · simp only [smInsert, hlt, if_true, List.pairwise_cons]
      refine ⟨fun p hp => ?_, h⟩
      rcases List.mem_cons.1 hp with rfl | hp
      · exact hlt
      · exact Nat.lt_trans hlt (h.1 p hp)
    · simp only [smInsert, hlt, if_false, List.pairwise_cons]
      refine ⟨fun p hp => ?_, ih h.2 (fun p hp => hk p (by simp [hp]))⟩
      rcases (mem_smInsert t k v p).1 hp with rfl | hp
      · simp; omega
      · exact h.1 p hp

/-- A write keeps the canonical form. -/
theorem smWf_smSet [DecidableEq α] {m : SMap α} (h : smWf d m) (k : Nat) (v : α) : smWf d (smSet d m k v) := by
  rw [smSet_eq]
  split
  · exact smWf_smErase d h k
  · rename_i hv
    have he := smWf_smErase d h k
    refine ⟨smInsert_sorted he.1 k v (smErase_ne m k), fun p hp => ?_⟩
    rcases (mem_smInsert _ k v p).1 hp with rfl | hp
    · exact hv
    · exact he.2 p hp

end

/-! ## Memories -/

theorem byte_setByte (m : Mem) (a k : Nat) (b : Byte) : (m.setByte a b).byte k = if k = a then b else m.byte k :=
  smGet_smSet _ _ _ _ _

@[simp] theorem byte_setByte_same (m : Mem) (a : Nat) (b : Byte) : (m.setByte a b).byte a = b := by simp [byte_setByte]

theorem byte_setByte_ne (m : Mem) {a k : Nat} (b : Byte) (h : k ≠ a) : (m.setByte a b).byte k = m.byte k := by
  simp [byte_setByte, h]

theorem setByte_wf {m : Mem} (h : m.wf) (a : Nat) (b : Byte) : (m.setByte a b).wf := smWf_smSet _ h a b

theorem setBytes_wf (bs : List Byte) {m : Mem} (h : m.wf) (a : Nat) : (m.setBytes a bs).wf := by
  induction bs generalizing m a with
  | nil => exact h
  | cons b t ih => exact ih (setByte_wf h a b) (a + 1)

theorem writeN_wf (n : Nat) {m : Mem} (h : m.wf) (a v : Nat) : (Mem.writeN m a v n).wf := by
  induction n generalizing m a v with
  | zero => exact h
  | succ n ih => exact ih (setByte_wf h _ _) _ _

/-- Single bytes written one after another. -/
theorem foldl_setByte_wf {β : Type} (f : β → Nat) (g : β → Byte) (l : List β) {m : Mem} (h : m.wf) :
    Mem.wf (l.foldl (fun m b => Mem.setByte m (f b) (g b)) m) := by
  induction l generalizing m with
  | nil => exact h
  | cons b t ih => exact ih (setByte_wf h _ _)

theorem byte_foldl_setByte_out {β : Type} (f : β → Nat) (g : β → Byte) (l : List β) (m : Mem) (k : Nat) (h : ∀ b ∈ l, f b ≠ k) :
    Mem.byte (l.foldl (fun m b => Mem.setByte m (f b) (g b)) m) k = Mem.byte m k := by
  induction l generalizing m with
  | nil => rfl
  | cons b t ih =>
    rw [List.foldl_cons, ih _ (fun c hc => h c (List.mem_cons_of_mem _ hc))]
    exact byte_setByte_ne m _ (fun e => h b (List.mem_cons_self ..) e.symm)

/-- A write of a number as bytes leaves every other byte. -/
theorem byte_writeN_out (n : Nat) (m : Mem) (a v k : Nat) (h : k < a ∨ a + n ≤ k) : (Mem.writeN m a v n).byte k = m.byte k := by
  induction n generalizing m a v with
  | zero => rfl
  | succ n ih =>
    rw [Mem.writeN, ih _ _ _ (by omega), byte_setByte_ne _ _ (by omega)]

/-- A write of a number as bytes stores its bytes, least significant first. -/
theorem byte_writeN_in (n : Nat) (m : Mem) (a v i : Nat) (h : i < n) :
    (Mem.writeN m a v n).byte (a + i) = BitVec.ofNat 8 (v / 256 ^ i) := by
  induction n generalizing m a v i with
  | zero => omega
  | succ n ih =>
    rw [Mem.writeN]
    cases i with
    | zero => rw [byte_writeN_out _ _ _ _ _ (by omega)]; simp
    | succ i =>
      have := ih (m.setByte a (BitVec.ofNat 8 v)) (a + 1) (v / 256) i (by omega)
      rw [show a + (i + 1) = a + 1 + i by omega, this, Nat.div_div_eq_div_mul, Nat.pow_succ, Nat.mul_comm]

/-- Reading depends on the bytes read alone. -/
theorem readN_congr (n : Nat) (m m' : Mem) (a : Nat) (h : ∀ i : Nat, i < n → m.byte (a + i) = m'.byte (a + i)) :
    Mem.readN m a n = Mem.readN m' a n := by
  induction n generalizing a with
  | zero => rfl
  | succ n ih =>
    have h0 := h 0 (by omega)
    simp only [Nat.add_zero] at h0
    rw [Mem.readN, Mem.readN, h0, ih (a + 1) (fun i hi => by
      have := h (i + 1) (by omega); rwa [show a + (i + 1) = a + 1 + i by omega] at this)]

/-- A number of n bytes reads back. -/
theorem readN_writeN (n : Nat) (m : Mem) (a v : Nat) : Mem.readN (Mem.writeN m a v n) a n = v % 256 ^ n := by
  induction n generalizing m a v with
  | zero => simp [Mem.readN, Nat.mod_one]
  | succ n ih =>
    rw [Mem.writeN, Mem.readN, byte_writeN_out _ _ _ _ _ (by omega), byte_setByte_same, ih, Nat.pow_succ, Nat.mul_comm (256 ^ n),
      Nat.mod_mul]
    simp

/-- The memories of the state after reset are in canonical form. -/
theorem reset_memories_wf : Mem.wf State.reset.dram ∧ Mem.wf State.reset.host ∧ Mem.wf State.reset.flash
    ∧ smWf erased State.reset.activeImage ∧ smWf erased State.reset.stageBank ∧ ∀ c : CoreId, Mem.wf (State.reset.core c).store := by
  refine ⟨smWf_nil _, smWf_nil _, smWf_nil _, smWf_nil _, smWf_nil _, fun c => ?_⟩
  have h : (State.reset.core c).store = [] := by revert c; decide
  rw [h]; exact smWf_nil _

/-- The register tables of the state after reset are in canonical form. -/
theorem reset_registers_wf : smWf regReset State.reset.regs ∧ smWf regReset State.reset.shadow := by
  refine ⟨⟨by simp [State.reset], ?_⟩, smWf_nil _⟩
  intro p hp
  have : p = (0x1C, 0x40000000) := by simpa [State.reset] using hp
  subst this
  decide

/-! ## Vectors of parts -/

@[simp] theorem vget_vset_same {α : Type} {n : Nat} (v : Vector α n) (i : Fin n) (x : α) : vget (vset v i x) i = x := by
  simp [vget, vset]

theorem vget_vset_ne {α : Type} {n : Nat} (v : Vector α n) {i j : Fin n} (x : α) (h : j ≠ i) : vget (vset v i x) j = vget v j := by
  have : i.val ≠ j.val := fun e => h (Fin.ext e.symm)
  simp [vget, vset, this]

theorem vget_vset {α : Type} {n : Nat} (v : Vector α n) (i j : Fin n) (x : α) :
    vget (vset v i x) j = if j = i then x else vget v j := by
  by_cases h : j = i
  · subst h; simp
  · simp [h, vget_vset_ne]

@[simp] theorem vget_vmod_same {α : Type} {n : Nat} (v : Vector α n) (i : Fin n) (f : α → α) : vget (vmod v i f) i = f (vget v i) := by
  simp [vmod]

theorem vget_vmod_ne {α : Type} {n : Nat} (v : Vector α n) {i j : Fin n} (f : α → α) (h : j ≠ i) : vget (vmod v i f) j = vget v j :=
  vget_vset_ne v _ h

@[simp] theorem vget_replicate {α : Type} {n : Nat} (x : α) (i : Fin n) : vget (Vector.replicate n x) i = x := by simp [vget]

theorem seqIx_inj {p q : SeqId} (h : seqIx p = seqIx q) : p = q := by cases p <;> cases q <;> simp_all [seqIx]

end Sys2Proof.Machine
end

