-- ==== Sys2Proof/Laws/Parts.lean ====
section
/-! SUPPORT. Reads after updates: cores, sequencers, registers and their fields, hurdles, contexts, partitions and functions. -/

namespace Sys2Proof.Machine
open Sys2Proof

/-! ## Cores and sequencers -/

@[simp] theorem core_setCore_same (s : State) (c : CoreId) (k : Core) : (s.setCore c k).core c = k := by
  simp [State.core]

theorem core_setCore_ne (s : State) {c d : CoreId} (k : Core) (h : d ≠ c) : (s.setCore c k).core d = s.core d := by
  simp [State.core, vget_vset_ne _ _ h]

@[simp] theorem core_modCore_same (s : State) (c : CoreId) (f : Core → Core) : (s.modCore c f).core c = f (s.core c) :=
  core_setCore_same s c _

theorem core_modCore_ne (s : State) {c d : CoreId} (f : Core → Core) (h : d ≠ c) : (s.modCore c f).core d = s.core d :=
  core_setCore_ne s _ h

@[simp] theorem seq_setSeq_same (s : State) (c : CoreId) (q : SeqId) (z : Seq) : (s.setSeq c q z).seq c q = z := by
  simp [State.seq, State.setSeq]

theorem seq_setSeq_ne (s : State) {c d : CoreId} {q p : SeqId} (z : Seq) (h : ¬(d = c ∧ p = q)) :
    (s.setSeq c q z).seq d p = s.seq d p := by
  by_cases hd : d = c
  · subst hd
    have hp : seqIx p ≠ seqIx q := fun e => h ⟨rfl, seqIx_inj e⟩
    simp [State.seq, State.setSeq, vget_vset_ne _ _ hp]
  · simp [State.seq, State.setSeq, core_modCore_ne _ _ hd]

@[simp] theorem seq_modSeq_same (s : State) (c : CoreId) (q : SeqId) (f : Seq → Seq) : (s.modSeq c q f).seq c q = f (s.seq c q) :=
  seq_setSeq_same s c q _

theorem seq_modSeq_ne (s : State) {c d : CoreId} {q p : SeqId} (f : Seq → Seq) (h : ¬(d = c ∧ p = q)) :
    (s.modSeq c q f).seq d p = s.seq d p := seq_setSeq_ne s _ h

/-- A write of a sequencer leaves its core but for that sequencer. -/
theorem core_setSeq_same (s : State) (c : CoreId) (q : SeqId) (z : Seq) : (s.setSeq c q z).core c = (s.core c).setSeq q z :=
  core_modCore_same s c _

theorem core_setSeq_ne (s : State) {c d : CoreId} (q : SeqId) (z : Seq) (h : d ≠ c) : (s.setSeq c q z).core d = s.core d :=
  core_modCore_ne s _ h

@[simp] theorem setAct_core (s : State) (off : Nat) (v : W32) (c : CoreId) : (s.setAct off v).core c = s.core c := (rfl)
@[simp] theorem setAct_seq (s : State) (off : Nat) (v : W32) (c : CoreId) (q : SeqId) : (s.setAct off v).seq c q = s.seq c q := (rfl)
@[simp] theorem bump_core (s : State) (off n : Nat) (c : CoreId) : (s.bump off n).core c = s.core c := (rfl)
@[simp] theorem bump_seq (s : State) (off n : Nat) (c : CoreId) (q : SeqId) : (s.bump off n).seq c q = s.seq c q := (rfl)

/-! ## Registers -/

@[simp] theorem act_setAct_same (s : State) (off : Nat) (v : W32) : (s.setAct off v).act off = v := by simp [State.act]

theorem act_setAct_ne (s : State) {off k : Nat} (v : W32) (h : k ≠ off) : (s.setAct off v).act k = s.act k := by
  simp [State.act, smGet_smSet_ne _ _ _ h]

@[simp] theorem shad_setShad_same (s : State) (off : Nat) (v : W32) : (s.setShad off v).shad off = v := by simp [State.shad]

theorem shad_setShad_ne (s : State) {off k : Nat} (v : W32) (h : k ≠ off) : (s.setShad off v).shad k = s.shad k := by
  simp [State.shad, smGet_smSet_ne _ _ _ h]

@[simp] theorem shad_setAct (s : State) (off : Nat) (v : W32) (k : Nat) : (s.setAct off v).shad k = s.shad k := (rfl)
@[simp] theorem act_setShad (s : State) (off : Nat) (v : W32) (k : Nat) : (s.setShad off v).act k = s.act k := (rfl)
@[simp] theorem act_setCore (s : State) (c : CoreId) (x : Core) (k : Nat) : (s.setCore c x).act k = s.act k := (rfl)
@[simp] theorem act_modSeq (s : State) (c : CoreId) (q : SeqId) (f : Seq → Seq) (k : Nat) : (s.modSeq c q f).act k = s.act k := (rfl)

theorem act_bump_same (s : State) (off n : Nat) :
    (s.bump off n).act off = BitVec.ofNat 32 (min ((s.act off).toNat + n) 0xFFFFFFFF) := by simp [State.bump]

theorem act_bump_ne (s : State) {off k : Nat} (n : Nat) (h : k ≠ off) : (s.bump off n).act k = s.act k := act_setAct_ne s _ h

/-- A write keeps the canonical form of the register tables. -/
theorem setAct_regs_wf {s : State} (h : smWf regReset s.regs) (off : Nat) (v : W32) : smWf regReset (s.setAct off v).regs :=
  smWf_smSet _ h off v

theorem setShad_shadow_wf {s : State} (h : smWf regReset s.shadow) (off : Nat) (v : W32) : smWf regReset (s.setShad off v).shadow :=
  smWf_smSet _ h off v

/-! ### Fields of a register word -/

theorem bitsOf_testBit (w hi lo i : Nat) : (bitsOf w hi lo).testBit i = (decide (i < hi + 1 - lo) && w.testBit (lo + i)) := by
  rw [bitsOf, Nat.testBit_mod_two_pow, Nat.testBit_div_two_pow, Nat.add_comm i lo]

theorem maskOf_testBit (hi lo i : Nat) : (maskOf hi lo).testBit i = (decide (lo ≤ i) && decide (i - lo < hi + 1 - lo)) := by
  rw [maskOf, ← Nat.shiftLeft_eq, Nat.testBit_shiftLeft, Nat.testBit_two_pow_sub_one]

theorem withField_testBit (w : W32) (hi lo v i : Nat) (h : hi < 32) :
    (withField w hi lo v).toNat.testBit i
      = if lo ≤ i ∧ i ≤ hi then v.testBit (i - lo) else w.toNat.testBit i := by
  have e : ∀ x : Nat, ((x % 2 ^ (hi + 1 - lo)) * 2 ^ lo).testBit i
      = (decide (lo ≤ i) && (decide (i - lo < hi + 1 - lo) && x.testBit (i - lo))) := by
    intro x
    rw [← Nat.shiftLeft_eq, Nat.testBit_shiftLeft, Nat.testBit_mod_two_pow]
  by_cases hi32 : i < 32
  · simp only [withField, BitVec.toNat_or, BitVec.toNat_and, Nat.testBit_or, Nat.testBit_and, BitVec.toNat_ofNat,
      Nat.testBit_mod_two_pow, e, BitVec.testBit_toNat, BitVec.getLsbD_not, BitVec.getLsbD_ofNat, maskOf_testBit, hi32]
    by_cases h1 : lo ≤ i <;> by_cases h2 : i ≤ hi
    · have : i - lo < hi + 1 - lo := by omega
      simp [h1, h2, this]
    · have : ¬(i - lo < hi + 1 - lo) := by omega
      simp [h1, h2, this]
    · simp [h1]
    · simp [h1]
  · have z : ∀ x : W32, x.toNat.testBit i = false := fun x => by
      rw [BitVec.testBit_toNat]; exact BitVec.getLsbD_of_ge x i (by omega)
    have : ¬(lo ≤ i ∧ i ≤ hi) := by omega
    simp [z, this]

/-- A field reads back what is written to it, on its own bits. -/
theorem fieldOf_withField_same (w : W32) (hi lo v : Nat) (h : hi < 32) :
    fieldOf (withField w hi lo v) hi lo = v % 2 ^ (hi + 1 - lo) := by
  apply Nat.eq_of_testBit_eq
  intro i
  rw [fieldOf, bitsOf_testBit, withField_testBit _ _ _ _ _ h, Nat.testBit_mod_two_pow]
  by_cases hk : i < hi + 1 - lo
  · have : lo ≤ lo + i ∧ lo + i ≤ hi := by omega
    simp [hk, this]
  · simp [hk]

/-- A write of a field leaves a field that shares no bit with it. -/
theorem fieldOf_withField_ne (w : W32) (hi lo v hi' lo' : Nat) (h : hi < 32) (hd : hi' < lo ∨ hi < lo') :
    fieldOf (withField w hi lo v) hi' lo' = fieldOf w hi' lo' := by
  apply Nat.eq_of_testBit_eq
  intro i
  rw [fieldOf, fieldOf, bitsOf_testBit, bitsOf_testBit, withField_testBit _ _ _ _ _ h]
  by_cases hk : i < hi' + 1 - lo'
  · have : ¬(lo ≤ lo' + i ∧ lo' + i ≤ hi) := by omega
    simp [this]
  · simp [hk]

theorem fld_setFld_same (s : State) (off hi lo v : Nat) (h : hi < 32) : (s.setFld off hi lo v).fld off hi lo = v % 2 ^ (hi + 1 - lo) := by
  simp only [State.fld, State.setFld, act_setAct_same]
  exact fieldOf_withField_same _ _ _ _ h

theorem fld_setFld_other (s : State) (off hi lo v hi' lo' : Nat) (h : hi < 32) (hd : hi' < lo ∨ hi < lo') :
    (s.setFld off hi lo v).fld off hi' lo' = s.fld off hi' lo' := by
  simp only [State.fld, State.setFld, act_setAct_same]
  exact fieldOf_withField_ne _ _ _ _ _ _ h hd

theorem fld_setFld_ne (s : State) {off k : Nat} (hi lo v hi' lo' : Nat) (h : k ≠ off) :
    (s.setFld off hi lo v).fld k hi' lo' = s.fld k hi' lo' := by
  simp only [State.fld, State.setFld, act_setAct_ne _ _ h]

/-! ## Hurdles, contexts, partitions, functions, ports and relay engines -/

@[simp] theorem hurdle_setHurdle_same (s : State) (h : Hid) (x : Hurdle) : (s.setHurdle h x).hurdle h = x := by simp [State.hurdle]

theorem hurdle_setHurdle_ne (s : State) {h k : Hid} (x : Hurdle) (hk : k ≠ h) : (s.setHurdle h x).hurdle k = s.hurdle k := by
  have : k.toNat ≠ h.toNat := fun e => hk (BitVec.eq_of_toNat_eq e)
  simp [State.hurdle, smGet_smSet_ne _ _ _ this]

@[simp] theorem ctx_modCtx_same (s : State) (x : CtxId) (f : Ctx → Ctx) : (s.modCtx x f).ctx x = f (s.ctx x) := by simp [State.ctx]

theorem ctx_modCtx_ne (s : State) {x y : CtxId} (f : Ctx → Ctx) (h : y ≠ x) : (s.modCtx x f).ctx y = s.ctx y := by
  simp [State.ctx, vget_vmod_ne _ _ h]

@[simp] theorem part_modPart_same (s : State) (p : CoreId) (f : Part → Part) : (s.modPart p f).part p = f (s.part p) := by simp [State.part]

theorem part_modPart_ne (s : State) {p r : CoreId} (f : Part → Part) (h : r ≠ p) : (s.modPart p f).part r = s.part r := by
  simp [State.part, vget_vmod_ne _ _ h]

@[simp] theorem fn_modFn_same (s : State) (f : FnId) (g : Fn → Fn) : (s.modFn f g).fn f = g (s.fn f) := by simp [State.fn]

theorem fn_modFn_ne (s : State) {f k : FnId} (g : Fn → Fn) (h : k ≠ f) : (s.modFn f g).fn k = s.fn k := by
  simp [State.fn, vget_vmod_ne _ _ h]

@[simp] theorem queue_setQueue_same (s : State) (f : FnId) (q : Nat) (x : Option Queue) : (s.setQueue f q x).queue f q = x := by
  simp [State.queue, State.setQueue]

@[simp] theorem port_modPort_same (s : State) (p : PortId) (f : Port → Port) : vget (s.modPort p f).ports p = f (vget s.ports p) := by simp

theorem port_modPort_ne (s : State) {p r : PortId} (f : Port → Port) (h : r ≠ p) : vget (s.modPort p f).ports r = vget s.ports r := by
  simp [vget_vmod_ne _ _ h]

@[simp] theorem rel_modRel_same (s : State) (d : CoreId) (f : Rel → Rel) : vget (s.modRel d f).rels d = f (vget s.rels d) := by simp

theorem rel_modRel_ne (s : State) {d e : CoreId} (f : Rel → Rel) (h : e ≠ d) : vget (s.modRel d f).rels e = vget s.rels e := by
  simp [vget_vmod_ne _ _ h]

/-- Time never runs back, and reaches the instant unless the PTB is held (R36). -/
theorem atTime_le (s : State) (t : W64) :
    s.ptb.toNat ≤ (s.atTime t).ptb.toNat ∧ (s.psc.ahead = false → t.toNat ≤ (s.atTime t).ptb.toNat) := by
  rw [State.atTime_ptb]
  split
  · simp_all; omega
  · refine ⟨Nat.le_refl _, fun h => ?_⟩
    simp_all

end Sys2Proof.Machine
end

