-- ==== Sys2Proof/Laws/Records.lean ====
section
/-! SUPPORT. What raising an event or a fault record can change (R384 to R390, R397): host memory, the functions, the vectors sent, the
alert entries, and the registers that count dropped records. Nothing else. -/

section
set_option Elab.async false

namespace Sys2Proof.Machine
open Sys2Proof

/-- The state t is s after records have been raised. -/
structure State.Reports (s t : State) : Prop where
  frame : t = { s with regs := t.regs, host := t.host, fns := t.fns, msix := t.msix, alerts := t.alerts }
  act : ∀ k : Nat, (∀ f : FnId, k ≠ Reg.HIF_FN_EQ_DROP f) → k ≠ Reg.SMB_ALERT_DROP → t.act k = s.act k

namespace State.Reports

theorem refl (s : State) : s.Reports s := ⟨rfl, fun _ _ _ => rfl⟩

theorem trans {s t u : State} (h : s.Reports t) (g : t.Reports u) : s.Reports u := by
  refine ⟨?_, fun k hk hd => (g.act k hk hd).trans (h.act k hk hd)⟩
  rw [g.frame, h.frame]

theorem pending {s t : State} (h : s.Reports t) : t.pending = s.pending := by rw [h.frame]
theorem shadow {s t : State} (h : s.Reports t) : t.shadow = s.shadow := by rw [h.frame]
theorem ptb {s t : State} (h : s.Reports t) : t.ptb = s.ptb := by rw [h.frame]
theorem free {s t : State} (h : s.Reports t) : t.free = s.free := by rw [h.frame]
theorem cores {s t : State} (h : s.Reports t) : t.cores = s.cores := by rw [h.frame]
theorem hurdles {s t : State} (h : s.Reports t) : t.hurdles = s.hurdles := by rw [h.frame]
theorem arrivals {s t : State} (h : s.Reports t) : t.arrivals = s.arrivals := by rw [h.frame]
theorem ctxs {s t : State} (h : s.Reports t) : t.ctxs = s.ctxs := by rw [h.frame]
theorem parts {s t : State} (h : s.Reports t) : t.parts = s.parts := by rw [h.frame]
theorem dram {s t : State} (h : s.Reports t) : t.dram = s.dram := by rw [h.frame]
theorem buf {s t : State} (h : s.Reports t) : t.buf = s.buf := by rw [h.frame]
theorem poisoned {s t : State} (h : s.Reports t) : t.poisoned = s.poisoned := by rw [h.frame]
theorem rows {s t : State} (h : s.Reports t) : t.rows = s.rows := by rw [h.frame]
theorem spares {s t : State} (h : s.Reports t) : t.spares = s.spares := by rw [h.frame]
theorem repairLog {s t : State} (h : s.Reports t) : t.repairLog = s.repairLog := by rw [h.frame]
theorem retired {s t : State} (h : s.Reports t) : t.retired = s.retired := by rw [h.frame]
theorem chanOut {s t : State} (h : s.Reports t) : t.chanOut = s.chanOut := by rw [h.frame]
theorem dead {s t : State} (h : s.Reports t) : t.dead = s.dead := by rw [h.frame]
theorem tlbCore {s t : State} (h : s.Reports t) : t.tlbCore = s.tlbCore := by rw [h.frame]
theorem tlbDie {s t : State} (h : s.Reports t) : t.tlbDie = s.tlbDie := by rw [h.frame]
theorem tlbHost {s t : State} (h : s.Reports t) : t.tlbHost = s.tlbHost := by rw [h.frame]
theorem inval {s t : State} (h : s.Reports t) : t.inval = s.inval := by rw [h.frame]
theorem flushing {s t : State} (h : s.Reports t) : t.flushing = s.flushing := by rw [h.frame]
theorem hostAbsent {s t : State} (h : s.Reports t) : t.hostAbsent = s.hostAbsent := by rw [h.frame]
theorem atc {s t : State} (h : s.Reports t) : t.atc = s.atc := by rw [h.frame]
theorem atsChanged {s t : State} (h : s.Reports t) : t.atsChanged = s.atsChanged := by rw [h.frame]
theorem pageReqs {s t : State} (h : s.Reports t) : t.pageReqs = s.pageReqs := by rw [h.frame]
theorem watch {s t : State} (h : s.Reports t) : t.watch = s.watch := by rw [h.frame]
theorem spec {s t : State} (h : s.Reports t) : t.spec = s.spec := by rw [h.frame]
theorem ports {s t : State} (h : s.Reports t) : t.ports = s.ports := by rw [h.frame]
theorem dims {s t : State} (h : s.Reports t) : t.dims = s.dims := by rw [h.frame]
theorem outReq {s t : State} (h : s.Reports t) : t.outReq = s.outReq := by rw [h.frame]
theorem transit {s t : State} (h : s.Reports t) : t.transit = s.transit := by rw [h.frame]
theorem inbox {s t : State} (h : s.Reports t) : t.inbox = s.inbox := by rw [h.frame]
theorem noRoutes {s t : State} (h : s.Reports t) : t.noRoutes = s.noRoutes := by rw [h.frame]
theorem kicks {s t : State} (h : s.Reports t) : t.kicks = s.kicks := by rw [h.frame]
theorem lineReqs {s t : State} (h : s.Reports t) : t.lineReqs = s.lineReqs := by rw [h.frame]
theorem ovhRem {s t : State} (h : s.Reports t) : t.ovhRem = s.ovhRem := by rw [h.frame]
theorem reply {s t : State} (h : s.Reports t) : t.reply = s.reply := by rw [h.frame]
theorem syncGood {s t : State} (h : s.Reports t) : t.syncGood = s.syncGood := by rw [h.frame]
theorem rels {s t : State} (h : s.Reports t) : t.rels = s.rels := by rw [h.frame]
theorem areas {s t : State} (h : s.Reports t) : t.areas = s.areas := by rw [h.frame]
theorem lastSlot {s t : State} (h : s.Reports t) : t.lastSlot = s.lastSlot := by rw [h.frame]
theorem flash {s t : State} (h : s.Reports t) : t.flash = s.flash := by rw [h.frame]
theorem nvme {s t : State} (h : s.Reports t) : t.nvme = s.nvme := by rw [h.frame]
theorem posted {s t : State} (h : s.Reports t) : t.posted = s.posted := by rw [h.frame]
theorem heldReads {s t : State} (h : s.Reports t) : t.heldReads = s.heldReads := by rw [h.frame]
theorem csetOrder {s t : State} (h : s.Reports t) : t.csetOrder = s.csetOrder := by rw [h.frame]
theorem pcie {s t : State} (h : s.Reports t) : t.pcie = s.pcie := by rw [h.frame]
theorem refLost {s t : State} (h : s.Reports t) : t.refLost = s.refLost := by rw [h.frame]
theorem hangs {s t : State} (h : s.Reports t) : t.hangs = s.hangs := by rw [h.frame]
theorem progress {s t : State} (h : s.Reports t) : t.progress = s.progress := by rw [h.frame]
theorem esc {s t : State} (h : s.Reports t) : t.esc = s.esc := by rw [h.frame]
theorem photoRun {s t : State} (h : s.Reports t) : t.photoRun = s.photoRun := by rw [h.frame]
theorem resetDue {s t : State} (h : s.Reports t) : t.resetDue = s.resetDue := by rw [h.frame]
theorem photo {s t : State} (h : s.Reports t) : t.photo = s.photo := by rw [h.frame]
theorem photoSector {s t : State} (h : s.Reports t) : t.photoSector = s.photoSector := by rw [h.frame]
theorem psc {s t : State} (h : s.Reports t) : t.psc = s.psc := by rw [h.frame]
theorem recA {s t : State} (h : s.Reports t) : t.recA = s.recA := by rw [h.frame]
theorem recB {s t : State} (h : s.Reports t) : t.recB = s.recB := by rw [h.frame]
theorem curB {s t : State} (h : s.Reports t) : t.curB = s.curB := by rw [h.frame]
theorem start {s t : State} (h : s.Reports t) : t.start = s.start := by rw [h.frame]
theorem fuses {s t : State} (h : s.Reports t) : t.fuses = s.fuses := by rw [h.frame]
theorem activation {s t : State} (h : s.Reports t) : t.activation = s.activation := by rw [h.frame]
theorem crown {s t : State} (h : s.Reports t) : t.crown = s.crown := by rw [h.frame]
theorem activeImage {s t : State} (h : s.Reports t) : t.activeImage = s.activeImage := by rw [h.frame]
theorem stageBank {s t : State} (h : s.Reports t) : t.stageBank = s.stageBank := by rw [h.frame]
theorem stgBuf {s t : State} (h : s.Reports t) : t.stgBuf = s.stgBuf := by rw [h.frame]
theorem stgAt {s t : State} (h : s.Reports t) : t.stgAt = s.stgAt := by rw [h.frame]
theorem gnt {s t : State} (h : s.Reports t) : t.gnt = s.gnt := by rw [h.frame]
theorem retrainDue {s t : State} (h : s.Reports t) : t.retrainDue = s.retrainDue := by rw [h.frame]
theorem pins {s t : State} (h : s.Reports t) : t.pins = s.pins := by rw [h.frame]
theorem smbPtr {s t : State} (h : s.Reports t) : t.smbPtr = s.smbPtr := by rw [h.frame]
theorem smbRefused {s t : State} (h : s.Reports t) : t.smbRefused = s.smbRefused := by rw [h.frame]
theorem glbCopy {s t : State} (h : s.Reports t) : t.glbCopy = s.glbCopy := by rw [h.frame]

end State.Reports

theorem hostWords_reports (s : State) (a : Nat) (ws : List Nat) : s.Reports (s.hostWords a ws) := by
  induction ws generalizing s a with
  | nil => exact .refl s
  | cons w t ih =>
    have h : s.Reports { s with host := Mem.writeN s.host a w 8 } := ⟨rfl, fun _ _ _ => rfl⟩
    exact h.trans (ih _ _)

theorem modFn_reports (s : State) (f : FnId) (g : Fn → Fn) : s.Reports (s.modFn f g) := ⟨rfl, fun _ _ _ => rfl⟩

theorem drop_reports (s : State) (f : FnId) (v : W32) : s.Reports (s.setAct (Reg.HIF_FN_EQ_DROP f) v) :=
  ⟨rfl, fun _ hk _ => act_setAct_ne s _ (hk f)⟩

theorem sendVector_reports (s : State) (f : FnId) (v : Nat) : s.Reports (s.sendVector f v) := by
  unfold State.sendVector
  split
  · exact modFn_reports s f _
  · exact ⟨rfl, fun _ _ _ => rfl⟩

theorem sendVector0_reports (s : State) (f : FnId) : s.Reports (s.sendVector0 f) := by
  unfold State.sendVector0
  split
  · exact sendVector_reports s f 0
  · split
    · exact modFn_reports s f _
    · exact (sendVector_reports s f 0).trans (modFn_reports _ f _)

theorem eqPut_reports (s : State) (f : FnId) (ws : List Nat) : s.Reports (s.eqPut f ws) :=
  (hostWords_reports s _ _).trans (modFn_reports _ f _)

theorem smbAlert_reports (s : State) (e : EvName) : s.Reports (s.smbAlert e) := by
  unfold State.smbAlert
  split
  · split
    · exact ⟨rfl, fun _ _ _ => rfl⟩
    · exact ⟨rfl, fun _ _ hd => act_setAct_ne s _ hd⟩
  · exact .refl s

theorem overflowRec_reports (s : State) (f : FnId) : s.Reports (s.overflowRec f).2 :=
  (drop_reports s f 0).trans (smbAlert_reports _ _)

theorem eqTry_reports (s : State) (f : FnId) (ws : List Nat) : s.Reports (s.eqTry f ws).1 := by
  unfold State.eqTry
  split
  · exact eqPut_reports s f ws
  · exact drop_reports s f _

theorem eqFlushPf_reports (s : State) : s.Reports s.eqFlushPf := by
  unfold State.eqFlushPf
  split
  · exact .refl s
  · simp only
    split
    · exact overflowRec_reports s 0
    · exact ((overflowRec_reports s 0).trans (eqPut_reports _ 0 _)).trans (sendVector0_reports _ 0)

theorem toPf_reports (s : State) (e : EvName) (ws : List Nat) : s.Reports (s.toPf e ws) := by
  have h := (eqFlushPf_reports s).trans (eqTry_reports s.eqFlushPf 0 ws)
  unfold State.toPf
  split
  · exact .refl s
  · simp only
    split
    · exact h.trans (sendVector0_reports _ 0)
    · exact h

theorem eqFlush_reports (s : State) (f : FnId) : s.Reports (s.eqFlush f) := by
  unfold State.eqFlush
  split
  · exact eqFlushPf_reports s
  · split
    · exact .refl s
    · exact (((overflowRec_reports s f).trans (eqPut_reports _ f _)).trans (sendVector0_reports _ f)).trans (toPf_reports _ _ _)

theorem eqOffer_reports (s : State) (f : FnId) (ws : List Nat) : s.Reports (s.eqOffer f ws).1 :=
  (eqFlush_reports s f).trans (eqTry_reports _ f ws)

theorem raiseRec_reports (s : State) (e : EvName) (fault : Bool) (sub : Subject) (vf : Nat) (is : List Item) :
    s.Reports (s.raiseRec e fault sub vf is) := by
  have h := (smbAlert_reports s e).trans (toPf_reports _ e (recordWords e fault sub vf s.ptb is))
  unfold State.raiseRec
  simp only
  split
  · exact h
  · refine h.trans ?_
    split
    · split
      · exact (eqOffer_reports _ _ _).trans (sendVector_reports _ _ _)
      · exact (eqOffer_reports _ _ _).trans (sendVector0_reports _ _)
    · exact eqOffer_reports _ _ _

theorem event_reports (s : State) (e : EvName) (is : List Item) : s.Reports (s.event e is) := raiseRec_reports _ _ _ _ _ _
theorem ctxEvent_reports (s : State) (e : EvName) (x : CtxId) (is : List Item) : s.Reports (s.ctxEvent e x is) := raiseRec_reports _ _ _ _ _ _
theorem coreEvent_reports (s : State) (e : EvName) (c : CoreId) (q : Option SeqId) (is : List Item) : s.Reports (s.coreEvent e c q is) :=
  raiseRec_reports _ _ _ _ _ _
theorem hifEvent_reports (s : State) (e : EvName) (f : FnId) (is : List Item) : s.Reports (s.hifEvent e f is) := raiseRec_reports _ _ _ _ _ _

section
variable (s : State) (e : EvName) (is : List Item)
@[simp] theorem State.raiseRec_pending (fault : Bool) (sub : Subject) (vf : Nat) : (s.raiseRec e fault sub vf is).pending = s.pending := (raiseRec_reports s e fault sub vf is).pending
@[simp] theorem State.raiseRec_shadow (fault : Bool) (sub : Subject) (vf : Nat) : (s.raiseRec e fault sub vf is).shadow = s.shadow := (raiseRec_reports s e fault sub vf is).shadow
@[simp] theorem State.raiseRec_ptb (fault : Bool) (sub : Subject) (vf : Nat) : (s.raiseRec e fault sub vf is).ptb = s.ptb := (raiseRec_reports s e fault sub vf is).ptb
@[simp] theorem State.raiseRec_free (fault : Bool) (sub : Subject) (vf : Nat) : (s.raiseRec e fault sub vf is).free = s.free := (raiseRec_reports s e fault sub vf is).free
@[simp] theorem State.raiseRec_cores (fault : Bool) (sub : Subject) (vf : Nat) : (s.raiseRec e fault sub vf is).cores = s.cores := (raiseRec_reports s e fault sub vf is).cores
@[simp] theorem State.raiseRec_hurdles (fault : Bool) (sub : Subject) (vf : Nat) : (s.raiseRec e fault sub vf is).hurdles = s.hurdles := (raiseRec_reports s e fault sub vf is).hurdles
@[simp] theorem State.raiseRec_arrivals (fault : Bool) (sub : Subject) (vf : Nat) : (s.raiseRec e fault sub vf is).arrivals = s.arrivals := (raiseRec_reports s e fault sub vf is).arrivals
@[simp] theorem State.raiseRec_ctxs (fault : Bool) (sub : Subject) (vf : Nat) : (s.raiseRec e fault sub vf is).ctxs = s.ctxs := (raiseRec_reports s e fault sub vf is).ctxs
@[simp] theorem State.raiseRec_parts (fault : Bool) (sub : Subject) (vf : Nat) : (s.raiseRec e fault sub vf is).parts = s.parts := (raiseRec_reports s e fault sub vf is).parts
@[simp] theorem State.raiseRec_dram (fault : Bool) (sub : Subject) (vf : Nat) : (s.raiseRec e fault sub vf is).dram = s.dram := (raiseRec_reports s e fault sub vf is).dram
@[simp] theorem State.raiseRec_buf (fault : Bool) (sub : Subject) (vf : Nat) : (s.raiseRec e fault sub vf is).buf = s.buf := (raiseRec_reports s e fault sub vf is).buf
@[simp] theorem State.raiseRec_poisoned (fault : Bool) (sub : Subject) (vf : Nat) : (s.raiseRec e fault sub vf is).poisoned = s.poisoned := (raiseRec_reports s e fault sub vf is).poisoned
@[simp] theorem State.raiseRec_rows (fault : Bool) (sub : Subject) (vf : Nat) : (s.raiseRec e fault sub vf is).rows = s.rows := (raiseRec_reports s e fault sub vf is).rows
@[simp] theorem State.raiseRec_spares (fault : Bool) (sub : Subject) (vf : Nat) : (s.raiseRec e fault sub vf is).spares = s.spares := (raiseRec_reports s e fault sub vf is).spares
@[simp] theorem State.raiseRec_repairLog (fault : Bool) (sub : Subject) (vf : Nat) : (s.raiseRec e fault sub vf is).repairLog = s.repairLog := (raiseRec_reports s e fault sub vf is).repairLog
@[simp] theorem State.raiseRec_retired (fault : Bool) (sub : Subject) (vf : Nat) : (s.raiseRec e fault sub vf is).retired = s.retired := (raiseRec_reports s e fault sub vf is).retired
@[simp] theorem State.raiseRec_chanOut (fault : Bool) (sub : Subject) (vf : Nat) : (s.raiseRec e fault sub vf is).chanOut = s.chanOut := (raiseRec_reports s e fault sub vf is).chanOut
@[simp] theorem State.raiseRec_dead (fault : Bool) (sub : Subject) (vf : Nat) : (s.raiseRec e fault sub vf is).dead = s.dead := (raiseRec_reports s e fault sub vf is).dead
@[simp] theorem State.raiseRec_tlbCore (fault : Bool) (sub : Subject) (vf : Nat) : (s.raiseRec e fault sub vf is).tlbCore = s.tlbCore := (raiseRec_reports s e fault sub vf is).tlbCore
@[simp] theorem State.raiseRec_tlbDie (fault : Bool) (sub : Subject) (vf : Nat) : (s.raiseRec e fault sub vf is).tlbDie = s.tlbDie := (raiseRec_reports s e fault sub vf is).tlbDie
@[simp] theorem State.raiseRec_tlbHost (fault : Bool) (sub : Subject) (vf : Nat) : (s.raiseRec e fault sub vf is).tlbHost = s.tlbHost := (raiseRec_reports s e fault sub vf is).tlbHost
@[simp] theorem State.raiseRec_inval (fault : Bool) (sub : Subject) (vf : Nat) : (s.raiseRec e fault sub vf is).inval = s.inval := (raiseRec_reports s e fault sub vf is).inval
@[simp] theorem State.raiseRec_flushing (fault : Bool) (sub : Subject) (vf : Nat) : (s.raiseRec e fault sub vf is).flushing = s.flushing := (raiseRec_reports s e fault sub vf is).flushing
@[simp] theorem State.raiseRec_hostAbsent (fault : Bool) (sub : Subject) (vf : Nat) : (s.raiseRec e fault sub vf is).hostAbsent = s.hostAbsent := (raiseRec_reports s e fault sub vf is).hostAbsent
@[simp] theorem State.raiseRec_atc (fault : Bool) (sub : Subject) (vf : Nat) : (s.raiseRec e fault sub vf is).atc = s.atc := (raiseRec_reports s e fault sub vf is).atc
@[simp] theorem State.raiseRec_atsChanged (fault : Bool) (sub : Subject) (vf : Nat) : (s.raiseRec e fault sub vf is).atsChanged = s.atsChanged := (raiseRec_reports s e fault sub vf is).atsChanged
@[simp] theorem State.raiseRec_pageReqs (fault : Bool) (sub : Subject) (vf : Nat) : (s.raiseRec e fault sub vf is).pageReqs = s.pageReqs := (raiseRec_reports s e fault sub vf is).pageReqs
@[simp] theorem State.raiseRec_watch (fault : Bool) (sub : Subject) (vf : Nat) : (s.raiseRec e fault sub vf is).watch = s.watch := (raiseRec_reports s e fault sub vf is).watch
@[simp] theorem State.raiseRec_spec (fault : Bool) (sub : Subject) (vf : Nat) : (s.raiseRec e fault sub vf is).spec = s.spec := (raiseRec_reports s e fault sub vf is).spec
@[simp] theorem State.raiseRec_ports (fault : Bool) (sub : Subject) (vf : Nat) : (s.raiseRec e fault sub vf is).ports = s.ports := (raiseRec_reports s e fault sub vf is).ports
@[simp] theorem State.raiseRec_dims (fault : Bool) (sub : Subject) (vf : Nat) : (s.raiseRec e fault sub vf is).dims = s.dims := (raiseRec_reports s e fault sub vf is).dims
@[simp] theorem State.raiseRec_outReq (fault : Bool) (sub : Subject) (vf : Nat) : (s.raiseRec e fault sub vf is).outReq = s.outReq := (raiseRec_reports s e fault sub vf is).outReq
@[simp] theorem State.raiseRec_transit (fault : Bool) (sub : Subject) (vf : Nat) : (s.raiseRec e fault sub vf is).transit = s.transit := (raiseRec_reports s e fault sub vf is).transit
@[simp] theorem State.raiseRec_inbox (fault : Bool) (sub : Subject) (vf : Nat) : (s.raiseRec e fault sub vf is).inbox = s.inbox := (raiseRec_reports s e fault sub vf is).inbox
@[simp] theorem State.raiseRec_noRoutes (fault : Bool) (sub : Subject) (vf : Nat) : (s.raiseRec e fault sub vf is).noRoutes = s.noRoutes := (raiseRec_reports s e fault sub vf is).noRoutes
@[simp] theorem State.raiseRec_kicks (fault : Bool) (sub : Subject) (vf : Nat) : (s.raiseRec e fault sub vf is).kicks = s.kicks := (raiseRec_reports s e fault sub vf is).kicks
@[simp] theorem State.raiseRec_lineReqs (fault : Bool) (sub : Subject) (vf : Nat) : (s.raiseRec e fault sub vf is).lineReqs = s.lineReqs := (raiseRec_reports s e fault sub vf is).lineReqs
@[simp] theorem State.raiseRec_ovhRem (fault : Bool) (sub : Subject) (vf : Nat) : (s.raiseRec e fault sub vf is).ovhRem = s.ovhRem := (raiseRec_reports s e fault sub vf is).ovhRem
@[simp] theorem State.raiseRec_reply (fault : Bool) (sub : Subject) (vf : Nat) : (s.raiseRec e fault sub vf is).reply = s.reply := (raiseRec_reports s e fault sub vf is).reply
@[simp] theorem State.raiseRec_syncGood (fault : Bool) (sub : Subject) (vf : Nat) : (s.raiseRec e fault sub vf is).syncGood = s.syncGood := (raiseRec_reports s e fault sub vf is).syncGood
@[simp] theorem State.raiseRec_rels (fault : Bool) (sub : Subject) (vf : Nat) : (s.raiseRec e fault sub vf is).rels = s.rels := (raiseRec_reports s e fault sub vf is).rels
@[simp] theorem State.raiseRec_areas (fault : Bool) (sub : Subject) (vf : Nat) : (s.raiseRec e fault sub vf is).areas = s.areas := (raiseRec_reports s e fault sub vf is).areas
@[simp] theorem State.raiseRec_lastSlot (fault : Bool) (sub : Subject) (vf : Nat) : (s.raiseRec e fault sub vf is).lastSlot = s.lastSlot := (raiseRec_reports s e fault sub vf is).lastSlot
@[simp] theorem State.raiseRec_flash (fault : Bool) (sub : Subject) (vf : Nat) : (s.raiseRec e fault sub vf is).flash = s.flash := (raiseRec_reports s e fault sub vf is).flash
@[simp] theorem State.raiseRec_nvme (fault : Bool) (sub : Subject) (vf : Nat) : (s.raiseRec e fault sub vf is).nvme = s.nvme := (raiseRec_reports s e fault sub vf is).nvme
@[simp] theorem State.raiseRec_posted (fault : Bool) (sub : Subject) (vf : Nat) : (s.raiseRec e fault sub vf is).posted = s.posted := (raiseRec_reports s e fault sub vf is).posted
@[simp] theorem State.raiseRec_heldReads (fault : Bool) (sub : Subject) (vf : Nat) : (s.raiseRec e fault sub vf is).heldReads = s.heldReads := (raiseRec_reports s e fault sub vf is).heldReads
@[simp] theorem State.raiseRec_csetOrder (fault : Bool) (sub : Subject) (vf : Nat) : (s.raiseRec e fault sub vf is).csetOrder = s.csetOrder := (raiseRec_reports s e fault sub vf is).csetOrder
@[simp] theorem State.raiseRec_pcie (fault : Bool) (sub : Subject) (vf : Nat) : (s.raiseRec e fault sub vf is).pcie = s.pcie := (raiseRec_reports s e fault sub vf is).pcie
@[simp] theorem State.raiseRec_refLost (fault : Bool) (sub : Subject) (vf : Nat) : (s.raiseRec e fault sub vf is).refLost = s.refLost := (raiseRec_reports s e fault sub vf is).refLost
@[simp] theorem State.raiseRec_hangs (fault : Bool) (sub : Subject) (vf : Nat) : (s.raiseRec e fault sub vf is).hangs = s.hangs := (raiseRec_reports s e fault sub vf is).hangs
@[simp] theorem State.raiseRec_progress (fault : Bool) (sub : Subject) (vf : Nat) : (s.raiseRec e fault sub vf is).progress = s.progress := (raiseRec_reports s e fault sub vf is).progress
@[simp] theorem State.raiseRec_esc (fault : Bool) (sub : Subject) (vf : Nat) : (s.raiseRec e fault sub vf is).esc = s.esc := (raiseRec_reports s e fault sub vf is).esc
@[simp] theorem State.raiseRec_photoRun (fault : Bool) (sub : Subject) (vf : Nat) : (s.raiseRec e fault sub vf is).photoRun = s.photoRun := (raiseRec_reports s e fault sub vf is).photoRun
@[simp] theorem State.raiseRec_resetDue (fault : Bool) (sub : Subject) (vf : Nat) : (s.raiseRec e fault sub vf is).resetDue = s.resetDue := (raiseRec_reports s e fault sub vf is).resetDue
@[simp] theorem State.raiseRec_photo (fault : Bool) (sub : Subject) (vf : Nat) : (s.raiseRec e fault sub vf is).photo = s.photo := (raiseRec_reports s e fault sub vf is).photo
@[simp] theorem State.raiseRec_photoSector (fault : Bool) (sub : Subject) (vf : Nat) : (s.raiseRec e fault sub vf is).photoSector = s.photoSector := (raiseRec_reports s e fault sub vf is).photoSector
@[simp] theorem State.raiseRec_psc (fault : Bool) (sub : Subject) (vf : Nat) : (s.raiseRec e fault sub vf is).psc = s.psc := (raiseRec_reports s e fault sub vf is).psc
@[simp] theorem State.raiseRec_recA (fault : Bool) (sub : Subject) (vf : Nat) : (s.raiseRec e fault sub vf is).recA = s.recA := (raiseRec_reports s e fault sub vf is).recA
@[simp] theorem State.raiseRec_recB (fault : Bool) (sub : Subject) (vf : Nat) : (s.raiseRec e fault sub vf is).recB = s.recB := (raiseRec_reports s e fault sub vf is).recB
@[simp] theorem State.raiseRec_curB (fault : Bool) (sub : Subject) (vf : Nat) : (s.raiseRec e fault sub vf is).curB = s.curB := (raiseRec_reports s e fault sub vf is).curB
@[simp] theorem State.raiseRec_start (fault : Bool) (sub : Subject) (vf : Nat) : (s.raiseRec e fault sub vf is).start = s.start := (raiseRec_reports s e fault sub vf is).start
@[simp] theorem State.raiseRec_fuses (fault : Bool) (sub : Subject) (vf : Nat) : (s.raiseRec e fault sub vf is).fuses = s.fuses := (raiseRec_reports s e fault sub vf is).fuses
@[simp] theorem State.raiseRec_activation (fault : Bool) (sub : Subject) (vf : Nat) : (s.raiseRec e fault sub vf is).activation = s.activation := (raiseRec_reports s e fault sub vf is).activation
@[simp] theorem State.raiseRec_crown (fault : Bool) (sub : Subject) (vf : Nat) : (s.raiseRec e fault sub vf is).crown = s.crown := (raiseRec_reports s e fault sub vf is).crown
@[simp] theorem State.raiseRec_activeImage (fault : Bool) (sub : Subject) (vf : Nat) : (s.raiseRec e fault sub vf is).activeImage = s.activeImage := (raiseRec_reports s e fault sub vf is).activeImage
@[simp] theorem State.raiseRec_stageBank (fault : Bool) (sub : Subject) (vf : Nat) : (s.raiseRec e fault sub vf is).stageBank = s.stageBank := (raiseRec_reports s e fault sub vf is).stageBank
@[simp] theorem State.raiseRec_stgBuf (fault : Bool) (sub : Subject) (vf : Nat) : (s.raiseRec e fault sub vf is).stgBuf = s.stgBuf := (raiseRec_reports s e fault sub vf is).stgBuf
@[simp] theorem State.raiseRec_stgAt (fault : Bool) (sub : Subject) (vf : Nat) : (s.raiseRec e fault sub vf is).stgAt = s.stgAt := (raiseRec_reports s e fault sub vf is).stgAt
@[simp] theorem State.raiseRec_gnt (fault : Bool) (sub : Subject) (vf : Nat) : (s.raiseRec e fault sub vf is).gnt = s.gnt := (raiseRec_reports s e fault sub vf is).gnt
@[simp] theorem State.raiseRec_retrainDue (fault : Bool) (sub : Subject) (vf : Nat) : (s.raiseRec e fault sub vf is).retrainDue = s.retrainDue := (raiseRec_reports s e fault sub vf is).retrainDue
@[simp] theorem State.raiseRec_pins (fault : Bool) (sub : Subject) (vf : Nat) : (s.raiseRec e fault sub vf is).pins = s.pins := (raiseRec_reports s e fault sub vf is).pins
@[simp] theorem State.raiseRec_smbPtr (fault : Bool) (sub : Subject) (vf : Nat) : (s.raiseRec e fault sub vf is).smbPtr = s.smbPtr := (raiseRec_reports s e fault sub vf is).smbPtr
@[simp] theorem State.raiseRec_smbRefused (fault : Bool) (sub : Subject) (vf : Nat) : (s.raiseRec e fault sub vf is).smbRefused = s.smbRefused := (raiseRec_reports s e fault sub vf is).smbRefused
@[simp] theorem State.raiseRec_glbCopy (fault : Bool) (sub : Subject) (vf : Nat) : (s.raiseRec e fault sub vf is).glbCopy = s.glbCopy := (raiseRec_reports s e fault sub vf is).glbCopy
@[simp] theorem State.event_pending  : (s.event e is).pending = s.pending := (event_reports s e is).pending
@[simp] theorem State.event_shadow  : (s.event e is).shadow = s.shadow := (event_reports s e is).shadow
@[simp] theorem State.event_ptb  : (s.event e is).ptb = s.ptb := (event_reports s e is).ptb
@[simp] theorem State.event_free  : (s.event e is).free = s.free := (event_reports s e is).free
@[simp] theorem State.event_cores  : (s.event e is).cores = s.cores := (event_reports s e is).cores
@[simp] theorem State.event_hurdles  : (s.event e is).hurdles = s.hurdles := (event_reports s e is).hurdles
@[simp] theorem State.event_arrivals  : (s.event e is).arrivals = s.arrivals := (event_reports s e is).arrivals
@[simp] theorem State.event_ctxs  : (s.event e is).ctxs = s.ctxs := (event_reports s e is).ctxs
@[simp] theorem State.event_parts  : (s.event e is).parts = s.parts := (event_reports s e is).parts
@[simp] theorem State.event_dram  : (s.event e is).dram = s.dram := (event_reports s e is).dram
@[simp] theorem State.event_buf  : (s.event e is).buf = s.buf := (event_reports s e is).buf
@[simp] theorem State.event_poisoned  : (s.event e is).poisoned = s.poisoned := (event_reports s e is).poisoned
@[simp] theorem State.event_rows  : (s.event e is).rows = s.rows := (event_reports s e is).rows
@[simp] theorem State.event_spares  : (s.event e is).spares = s.spares := (event_reports s e is).spares
@[simp] theorem State.event_repairLog  : (s.event e is).repairLog = s.repairLog := (event_reports s e is).repairLog
@[simp] theorem State.event_retired  : (s.event e is).retired = s.retired := (event_reports s e is).retired
@[simp] theorem State.event_chanOut  : (s.event e is).chanOut = s.chanOut := (event_reports s e is).chanOut
@[simp] theorem State.event_dead  : (s.event e is).dead = s.dead := (event_reports s e is).dead
@[simp] theorem State.event_tlbCore  : (s.event e is).tlbCore = s.tlbCore := (event_reports s e is).tlbCore
@[simp] theorem State.event_tlbDie  : (s.event e is).tlbDie = s.tlbDie := (event_reports s e is).tlbDie
@[simp] theorem State.event_tlbHost  : (s.event e is).tlbHost = s.tlbHost := (event_reports s e is).tlbHost
@[simp] theorem State.event_inval  : (s.event e is).inval = s.inval := (event_reports s e is).inval
@[simp] theorem State.event_flushing  : (s.event e is).flushing = s.flushing := (event_reports s e is).flushing
@[simp] theorem State.event_hostAbsent  : (s.event e is).hostAbsent = s.hostAbsent := (event_reports s e is).hostAbsent
@[simp] theorem State.event_atc  : (s.event e is).atc = s.atc := (event_reports s e is).atc
@[simp] theorem State.event_atsChanged  : (s.event e is).atsChanged = s.atsChanged := (event_reports s e is).atsChanged
@[simp] theorem State.event_pageReqs  : (s.event e is).pageReqs = s.pageReqs := (event_reports s e is).pageReqs
@[simp] theorem State.event_watch  : (s.event e is).watch = s.watch := (event_reports s e is).watch
@[simp] theorem State.event_spec  : (s.event e is).spec = s.spec := (event_reports s e is).spec
@[simp] theorem State.event_ports  : (s.event e is).ports = s.ports := (event_reports s e is).ports
@[simp] theorem State.event_dims  : (s.event e is).dims = s.dims := (event_reports s e is).dims
@[simp] theorem State.event_outReq  : (s.event e is).outReq = s.outReq := (event_reports s e is).outReq
@[simp] theorem State.event_transit  : (s.event e is).transit = s.transit := (event_reports s e is).transit
@[simp] theorem State.event_inbox  : (s.event e is).inbox = s.inbox := (event_reports s e is).inbox
@[simp] theorem State.event_noRoutes  : (s.event e is).noRoutes = s.noRoutes := (event_reports s e is).noRoutes
@[simp] theorem State.event_kicks  : (s.event e is).kicks = s.kicks := (event_reports s e is).kicks
@[simp] theorem State.event_lineReqs  : (s.event e is).lineReqs = s.lineReqs := (event_reports s e is).lineReqs
@[simp] theorem State.event_ovhRem  : (s.event e is).ovhRem = s.ovhRem := (event_reports s e is).ovhRem
@[simp] theorem State.event_reply  : (s.event e is).reply = s.reply := (event_reports s e is).reply
@[simp] theorem State.event_syncGood  : (s.event e is).syncGood = s.syncGood := (event_reports s e is).syncGood
@[simp] theorem State.event_rels  : (s.event e is).rels = s.rels := (event_reports s e is).rels
@[simp] theorem State.event_areas  : (s.event e is).areas = s.areas := (event_reports s e is).areas
@[simp] theorem State.event_lastSlot  : (s.event e is).lastSlot = s.lastSlot := (event_reports s e is).lastSlot
@[simp] theorem State.event_flash  : (s.event e is).flash = s.flash := (event_reports s e is).flash
@[simp] theorem State.event_nvme  : (s.event e is).nvme = s.nvme := (event_reports s e is).nvme
@[simp] theorem State.event_posted  : (s.event e is).posted = s.posted := (event_reports s e is).posted
@[simp] theorem State.event_heldReads  : (s.event e is).heldReads = s.heldReads := (event_reports s e is).heldReads
@[simp] theorem State.event_csetOrder  : (s.event e is).csetOrder = s.csetOrder := (event_reports s e is).csetOrder
@[simp] theorem State.event_pcie  : (s.event e is).pcie = s.pcie := (event_reports s e is).pcie
@[simp] theorem State.event_refLost  : (s.event e is).refLost = s.refLost := (event_reports s e is).refLost
@[simp] theorem State.event_hangs  : (s.event e is).hangs = s.hangs := (event_reports s e is).hangs
@[simp] theorem State.event_progress  : (s.event e is).progress = s.progress := (event_reports s e is).progress
@[simp] theorem State.event_esc  : (s.event e is).esc = s.esc := (event_reports s e is).esc
@[simp] theorem State.event_photoRun  : (s.event e is).photoRun = s.photoRun := (event_reports s e is).photoRun
@[simp] theorem State.event_resetDue  : (s.event e is).resetDue = s.resetDue := (event_reports s e is).resetDue
@[simp] theorem State.event_photo  : (s.event e is).photo = s.photo := (event_reports s e is).photo
@[simp] theorem State.event_photoSector  : (s.event e is).photoSector = s.photoSector := (event_reports s e is).photoSector
@[simp] theorem State.event_psc  : (s.event e is).psc = s.psc := (event_reports s e is).psc
@[simp] theorem State.event_recA  : (s.event e is).recA = s.recA := (event_reports s e is).recA
@[simp] theorem State.event_recB  : (s.event e is).recB = s.recB := (event_reports s e is).recB
@[simp] theorem State.event_curB  : (s.event e is).curB = s.curB := (event_reports s e is).curB
@[simp] theorem State.event_start  : (s.event e is).start = s.start := (event_reports s e is).start
@[simp] theorem State.event_fuses  : (s.event e is).fuses = s.fuses := (event_reports s e is).fuses
@[simp] theorem State.event_activation  : (s.event e is).activation = s.activation := (event_reports s e is).activation
@[simp] theorem State.event_crown  : (s.event e is).crown = s.crown := (event_reports s e is).crown
@[simp] theorem State.event_activeImage  : (s.event e is).activeImage = s.activeImage := (event_reports s e is).activeImage
@[simp] theorem State.event_stageBank  : (s.event e is).stageBank = s.stageBank := (event_reports s e is).stageBank
@[simp] theorem State.event_stgBuf  : (s.event e is).stgBuf = s.stgBuf := (event_reports s e is).stgBuf
@[simp] theorem State.event_stgAt  : (s.event e is).stgAt = s.stgAt := (event_reports s e is).stgAt
@[simp] theorem State.event_gnt  : (s.event e is).gnt = s.gnt := (event_reports s e is).gnt
@[simp] theorem State.event_retrainDue  : (s.event e is).retrainDue = s.retrainDue := (event_reports s e is).retrainDue
@[simp] theorem State.event_pins  : (s.event e is).pins = s.pins := (event_reports s e is).pins
@[simp] theorem State.event_smbPtr  : (s.event e is).smbPtr = s.smbPtr := (event_reports s e is).smbPtr
@[simp] theorem State.event_smbRefused  : (s.event e is).smbRefused = s.smbRefused := (event_reports s e is).smbRefused
@[simp] theorem State.event_glbCopy  : (s.event e is).glbCopy = s.glbCopy := (event_reports s e is).glbCopy
@[simp] theorem State.ctxEvent_pending (x : CtxId) : (s.ctxEvent e x is).pending = s.pending := (ctxEvent_reports s e x is).pending
@[simp] theorem State.ctxEvent_shadow (x : CtxId) : (s.ctxEvent e x is).shadow = s.shadow := (ctxEvent_reports s e x is).shadow
@[simp] theorem State.ctxEvent_ptb (x : CtxId) : (s.ctxEvent e x is).ptb = s.ptb := (ctxEvent_reports s e x is).ptb
@[simp] theorem State.ctxEvent_free (x : CtxId) : (s.ctxEvent e x is).free = s.free := (ctxEvent_reports s e x is).free
@[simp] theorem State.ctxEvent_cores (x : CtxId) : (s.ctxEvent e x is).cores = s.cores := (ctxEvent_reports s e x is).cores
@[simp] theorem State.ctxEvent_hurdles (x : CtxId) : (s.ctxEvent e x is).hurdles = s.hurdles := (ctxEvent_reports s e x is).hurdles
@[simp] theorem State.ctxEvent_arrivals (x : CtxId) : (s.ctxEvent e x is).arrivals = s.arrivals := (ctxEvent_reports s e x is).arrivals
@[simp] theorem State.ctxEvent_ctxs (x : CtxId) : (s.ctxEvent e x is).ctxs = s.ctxs := (ctxEvent_reports s e x is).ctxs
@[simp] theorem State.ctxEvent_parts (x : CtxId) : (s.ctxEvent e x is).parts = s.parts := (ctxEvent_reports s e x is).parts
@[simp] theorem State.ctxEvent_dram (x : CtxId) : (s.ctxEvent e x is).dram = s.dram := (ctxEvent_reports s e x is).dram
@[simp] theorem State.ctxEvent_buf (x : CtxId) : (s.ctxEvent e x is).buf = s.buf := (ctxEvent_reports s e x is).buf
@[simp] theorem State.ctxEvent_poisoned (x : CtxId) : (s.ctxEvent e x is).poisoned = s.poisoned := (ctxEvent_reports s e x is).poisoned
@[simp] theorem State.ctxEvent_rows (x : CtxId) : (s.ctxEvent e x is).rows = s.rows := (ctxEvent_reports s e x is).rows
@[simp] theorem State.ctxEvent_spares (x : CtxId) : (s.ctxEvent e x is).spares = s.spares := (ctxEvent_reports s e x is).spares
@[simp] theorem State.ctxEvent_repairLog (x : CtxId) : (s.ctxEvent e x is).repairLog = s.repairLog := (ctxEvent_reports s e x is).repairLog
@[simp] theorem State.ctxEvent_retired (x : CtxId) : (s.ctxEvent e x is).retired = s.retired := (ctxEvent_reports s e x is).retired
@[simp] theorem State.ctxEvent_chanOut (x : CtxId) : (s.ctxEvent e x is).chanOut = s.chanOut := (ctxEvent_reports s e x is).chanOut
@[simp] theorem State.ctxEvent_dead (x : CtxId) : (s.ctxEvent e x is).dead = s.dead := (ctxEvent_reports s e x is).dead
@[simp] theorem State.ctxEvent_tlbCore (x : CtxId) : (s.ctxEvent e x is).tlbCore = s.tlbCore := (ctxEvent_reports s e x is).tlbCore
@[simp] theorem State.ctxEvent_tlbDie (x : CtxId) : (s.ctxEvent e x is).tlbDie = s.tlbDie := (ctxEvent_reports s e x is).tlbDie
@[simp] theorem State.ctxEvent_tlbHost (x : CtxId) : (s.ctxEvent e x is).tlbHost = s.tlbHost := (ctxEvent_reports s e x is).tlbHost
@[simp] theorem State.ctxEvent_inval (x : CtxId) : (s.ctxEvent e x is).inval = s.inval := (ctxEvent_reports s e x is).inval
@[simp] theorem State.ctxEvent_flushing (x : CtxId) : (s.ctxEvent e x is).flushing = s.flushing := (ctxEvent_reports s e x is).flushing
@[simp] theorem State.ctxEvent_hostAbsent (x : CtxId) : (s.ctxEvent e x is).hostAbsent = s.hostAbsent := (ctxEvent_reports s e x is).hostAbsent
@[simp] theorem State.ctxEvent_atc (x : CtxId) : (s.ctxEvent e x is).atc = s.atc := (ctxEvent_reports s e x is).atc
@[simp] theorem State.ctxEvent_atsChanged (x : CtxId) : (s.ctxEvent e x is).atsChanged = s.atsChanged := (ctxEvent_reports s e x is).atsChanged
@[simp] theorem State.ctxEvent_pageReqs (x : CtxId) : (s.ctxEvent e x is).pageReqs = s.pageReqs := (ctxEvent_reports s e x is).pageReqs
@[simp] theorem State.ctxEvent_watch (x : CtxId) : (s.ctxEvent e x is).watch = s.watch := (ctxEvent_reports s e x is).watch
@[simp] theorem State.ctxEvent_spec (x : CtxId) : (s.ctxEvent e x is).spec = s.spec := (ctxEvent_reports s e x is).spec
@[simp] theorem State.ctxEvent_ports (x : CtxId) : (s.ctxEvent e x is).ports = s.ports := (ctxEvent_reports s e x is).ports
@[simp] theorem State.ctxEvent_dims (x : CtxId) : (s.ctxEvent e x is).dims = s.dims := (ctxEvent_reports s e x is).dims
@[simp] theorem State.ctxEvent_outReq (x : CtxId) : (s.ctxEvent e x is).outReq = s.outReq := (ctxEvent_reports s e x is).outReq
@[simp] theorem State.ctxEvent_transit (x : CtxId) : (s.ctxEvent e x is).transit = s.transit := (ctxEvent_reports s e x is).transit
@[simp] theorem State.ctxEvent_inbox (x : CtxId) : (s.ctxEvent e x is).inbox = s.inbox := (ctxEvent_reports s e x is).inbox
@[simp] theorem State.ctxEvent_noRoutes (x : CtxId) : (s.ctxEvent e x is).noRoutes = s.noRoutes := (ctxEvent_reports s e x is).noRoutes
@[simp] theorem State.ctxEvent_kicks (x : CtxId) : (s.ctxEvent e x is).kicks = s.kicks := (ctxEvent_reports s e x is).kicks
@[simp] theorem State.ctxEvent_lineReqs (x : CtxId) : (s.ctxEvent e x is).lineReqs = s.lineReqs := (ctxEvent_reports s e x is).lineReqs
@[simp] theorem State.ctxEvent_ovhRem (x : CtxId) : (s.ctxEvent e x is).ovhRem = s.ovhRem := (ctxEvent_reports s e x is).ovhRem
@[simp] theorem State.ctxEvent_reply (x : CtxId) : (s.ctxEvent e x is).reply = s.reply := (ctxEvent_reports s e x is).reply
@[simp] theorem State.ctxEvent_syncGood (x : CtxId) : (s.ctxEvent e x is).syncGood = s.syncGood := (ctxEvent_reports s e x is).syncGood
@[simp] theorem State.ctxEvent_rels (x : CtxId) : (s.ctxEvent e x is).rels = s.rels := (ctxEvent_reports s e x is).rels
@[simp] theorem State.ctxEvent_areas (x : CtxId) : (s.ctxEvent e x is).areas = s.areas := (ctxEvent_reports s e x is).areas
@[simp] theorem State.ctxEvent_lastSlot (x : CtxId) : (s.ctxEvent e x is).lastSlot = s.lastSlot := (ctxEvent_reports s e x is).lastSlot
@[simp] theorem State.ctxEvent_flash (x : CtxId) : (s.ctxEvent e x is).flash = s.flash := (ctxEvent_reports s e x is).flash
@[simp] theorem State.ctxEvent_nvme (x : CtxId) : (s.ctxEvent e x is).nvme = s.nvme := (ctxEvent_reports s e x is).nvme
@[simp] theorem State.ctxEvent_posted (x : CtxId) : (s.ctxEvent e x is).posted = s.posted := (ctxEvent_reports s e x is).posted
@[simp] theorem State.ctxEvent_heldReads (x : CtxId) : (s.ctxEvent e x is).heldReads = s.heldReads := (ctxEvent_reports s e x is).heldReads
@[simp] theorem State.ctxEvent_csetOrder (x : CtxId) : (s.ctxEvent e x is).csetOrder = s.csetOrder := (ctxEvent_reports s e x is).csetOrder
@[simp] theorem State.ctxEvent_pcie (x : CtxId) : (s.ctxEvent e x is).pcie = s.pcie := (ctxEvent_reports s e x is).pcie
@[simp] theorem State.ctxEvent_refLost (x : CtxId) : (s.ctxEvent e x is).refLost = s.refLost := (ctxEvent_reports s e x is).refLost
@[simp] theorem State.ctxEvent_hangs (x : CtxId) : (s.ctxEvent e x is).hangs = s.hangs := (ctxEvent_reports s e x is).hangs
@[simp] theorem State.ctxEvent_progress (x : CtxId) : (s.ctxEvent e x is).progress = s.progress := (ctxEvent_reports s e x is).progress
@[simp] theorem State.ctxEvent_esc (x : CtxId) : (s.ctxEvent e x is).esc = s.esc := (ctxEvent_reports s e x is).esc
@[simp] theorem State.ctxEvent_photoRun (x : CtxId) : (s.ctxEvent e x is).photoRun = s.photoRun := (ctxEvent_reports s e x is).photoRun
@[simp] theorem State.ctxEvent_resetDue (x : CtxId) : (s.ctxEvent e x is).resetDue = s.resetDue := (ctxEvent_reports s e x is).resetDue
@[simp] theorem State.ctxEvent_photo (x : CtxId) : (s.ctxEvent e x is).photo = s.photo := (ctxEvent_reports s e x is).photo
@[simp] theorem State.ctxEvent_photoSector (x : CtxId) : (s.ctxEvent e x is).photoSector = s.photoSector := (ctxEvent_reports s e x is).photoSector
@[simp] theorem State.ctxEvent_psc (x : CtxId) : (s.ctxEvent e x is).psc = s.psc := (ctxEvent_reports s e x is).psc
@[simp] theorem State.ctxEvent_recA (x : CtxId) : (s.ctxEvent e x is).recA = s.recA := (ctxEvent_reports s e x is).recA
@[simp] theorem State.ctxEvent_recB (x : CtxId) : (s.ctxEvent e x is).recB = s.recB := (ctxEvent_reports s e x is).recB
@[simp] theorem State.ctxEvent_curB (x : CtxId) : (s.ctxEvent e x is).curB = s.curB := (ctxEvent_reports s e x is).curB
@[simp] theorem State.ctxEvent_start (x : CtxId) : (s.ctxEvent e x is).start = s.start := (ctxEvent_reports s e x is).start
@[simp] theorem State.ctxEvent_fuses (x : CtxId) : (s.ctxEvent e x is).fuses = s.fuses := (ctxEvent_reports s e x is).fuses
@[simp] theorem State.ctxEvent_activation (x : CtxId) : (s.ctxEvent e x is).activation = s.activation := (ctxEvent_reports s e x is).activation
@[simp] theorem State.ctxEvent_crown (x : CtxId) : (s.ctxEvent e x is).crown = s.crown := (ctxEvent_reports s e x is).crown
@[simp] theorem State.ctxEvent_activeImage (x : CtxId) : (s.ctxEvent e x is).activeImage = s.activeImage := (ctxEvent_reports s e x is).activeImage
@[simp] theorem State.ctxEvent_stageBank (x : CtxId) : (s.ctxEvent e x is).stageBank = s.stageBank := (ctxEvent_reports s e x is).stageBank
@[simp] theorem State.ctxEvent_stgBuf (x : CtxId) : (s.ctxEvent e x is).stgBuf = s.stgBuf := (ctxEvent_reports s e x is).stgBuf
@[simp] theorem State.ctxEvent_stgAt (x : CtxId) : (s.ctxEvent e x is).stgAt = s.stgAt := (ctxEvent_reports s e x is).stgAt
@[simp] theorem State.ctxEvent_gnt (x : CtxId) : (s.ctxEvent e x is).gnt = s.gnt := (ctxEvent_reports s e x is).gnt
@[simp] theorem State.ctxEvent_retrainDue (x : CtxId) : (s.ctxEvent e x is).retrainDue = s.retrainDue := (ctxEvent_reports s e x is).retrainDue
@[simp] theorem State.ctxEvent_pins (x : CtxId) : (s.ctxEvent e x is).pins = s.pins := (ctxEvent_reports s e x is).pins
@[simp] theorem State.ctxEvent_smbPtr (x : CtxId) : (s.ctxEvent e x is).smbPtr = s.smbPtr := (ctxEvent_reports s e x is).smbPtr
@[simp] theorem State.ctxEvent_smbRefused (x : CtxId) : (s.ctxEvent e x is).smbRefused = s.smbRefused := (ctxEvent_reports s e x is).smbRefused
@[simp] theorem State.ctxEvent_glbCopy (x : CtxId) : (s.ctxEvent e x is).glbCopy = s.glbCopy := (ctxEvent_reports s e x is).glbCopy
@[simp] theorem State.coreEvent_pending (c : CoreId) (q : Option SeqId) : (s.coreEvent e c q is).pending = s.pending := (coreEvent_reports s e c q is).pending
@[simp] theorem State.coreEvent_shadow (c : CoreId) (q : Option SeqId) : (s.coreEvent e c q is).shadow = s.shadow := (coreEvent_reports s e c q is).shadow
@[simp] theorem State.coreEvent_ptb (c : CoreId) (q : Option SeqId) : (s.coreEvent e c q is).ptb = s.ptb := (coreEvent_reports s e c q is).ptb
@[simp] theorem State.coreEvent_free (c : CoreId) (q : Option SeqId) : (s.coreEvent e c q is).free = s.free := (coreEvent_reports s e c q is).free
@[simp] theorem State.coreEvent_cores (c : CoreId) (q : Option SeqId) : (s.coreEvent e c q is).cores = s.cores := (coreEvent_reports s e c q is).cores
@[simp] theorem State.coreEvent_hurdles (c : CoreId) (q : Option SeqId) : (s.coreEvent e c q is).hurdles = s.hurdles := (coreEvent_reports s e c q is).hurdles
@[simp] theorem State.coreEvent_arrivals (c : CoreId) (q : Option SeqId) : (s.coreEvent e c q is).arrivals = s.arrivals := (coreEvent_reports s e c q is).arrivals
@[simp] theorem State.coreEvent_ctxs (c : CoreId) (q : Option SeqId) : (s.coreEvent e c q is).ctxs = s.ctxs := (coreEvent_reports s e c q is).ctxs
@[simp] theorem State.coreEvent_parts (c : CoreId) (q : Option SeqId) : (s.coreEvent e c q is).parts = s.parts := (coreEvent_reports s e c q is).parts
@[simp] theorem State.coreEvent_dram (c : CoreId) (q : Option SeqId) : (s.coreEvent e c q is).dram = s.dram := (coreEvent_reports s e c q is).dram
@[simp] theorem State.coreEvent_buf (c : CoreId) (q : Option SeqId) : (s.coreEvent e c q is).buf = s.buf := (coreEvent_reports s e c q is).buf
@[simp] theorem State.coreEvent_poisoned (c : CoreId) (q : Option SeqId) : (s.coreEvent e c q is).poisoned = s.poisoned := (coreEvent_reports s e c q is).poisoned
@[simp] theorem State.coreEvent_rows (c : CoreId) (q : Option SeqId) : (s.coreEvent e c q is).rows = s.rows := (coreEvent_reports s e c q is).rows
@[simp] theorem State.coreEvent_spares (c : CoreId) (q : Option SeqId) : (s.coreEvent e c q is).spares = s.spares := (coreEvent_reports s e c q is).spares
@[simp] theorem State.coreEvent_repairLog (c : CoreId) (q : Option SeqId) : (s.coreEvent e c q is).repairLog = s.repairLog := (coreEvent_reports s e c q is).repairLog
@[simp] theorem State.coreEvent_retired (c : CoreId) (q : Option SeqId) : (s.coreEvent e c q is).retired = s.retired := (coreEvent_reports s e c q is).retired
@[simp] theorem State.coreEvent_chanOut (c : CoreId) (q : Option SeqId) : (s.coreEvent e c q is).chanOut = s.chanOut := (coreEvent_reports s e c q is).chanOut
@[simp] theorem State.coreEvent_dead (c : CoreId) (q : Option SeqId) : (s.coreEvent e c q is).dead = s.dead := (coreEvent_reports s e c q is).dead
@[simp] theorem State.coreEvent_tlbCore (c : CoreId) (q : Option SeqId) : (s.coreEvent e c q is).tlbCore = s.tlbCore := (coreEvent_reports s e c q is).tlbCore
@[simp] theorem State.coreEvent_tlbDie (c : CoreId) (q : Option SeqId) : (s.coreEvent e c q is).tlbDie = s.tlbDie := (coreEvent_reports s e c q is).tlbDie
@[simp] theorem State.coreEvent_tlbHost (c : CoreId) (q : Option SeqId) : (s.coreEvent e c q is).tlbHost = s.tlbHost := (coreEvent_reports s e c q is).tlbHost
@[simp] theorem State.coreEvent_inval (c : CoreId) (q : Option SeqId) : (s.coreEvent e c q is).inval = s.inval := (coreEvent_reports s e c q is).inval
@[simp] theorem State.coreEvent_flushing (c : CoreId) (q : Option SeqId) : (s.coreEvent e c q is).flushing = s.flushing := (coreEvent_reports s e c q is).flushing
@[simp] theorem State.coreEvent_hostAbsent (c : CoreId) (q : Option SeqId) : (s.coreEvent e c q is).hostAbsent = s.hostAbsent := (coreEvent_reports s e c q is).hostAbsent
@[simp] theorem State.coreEvent_atc (c : CoreId) (q : Option SeqId) : (s.coreEvent e c q is).atc = s.atc := (coreEvent_reports s e c q is).atc
@[simp] theorem State.coreEvent_atsChanged (c : CoreId) (q : Option SeqId) : (s.coreEvent e c q is).atsChanged = s.atsChanged := (coreEvent_reports s e c q is).atsChanged
@[simp] theorem State.coreEvent_pageReqs (c : CoreId) (q : Option SeqId) : (s.coreEvent e c q is).pageReqs = s.pageReqs := (coreEvent_reports s e c q is).pageReqs
@[simp] theorem State.coreEvent_watch (c : CoreId) (q : Option SeqId) : (s.coreEvent e c q is).watch = s.watch := (coreEvent_reports s e c q is).watch
@[simp] theorem State.coreEvent_spec (c : CoreId) (q : Option SeqId) : (s.coreEvent e c q is).spec = s.spec := (coreEvent_reports s e c q is).spec
@[simp] theorem State.coreEvent_ports (c : CoreId) (q : Option SeqId) : (s.coreEvent e c q is).ports = s.ports := (coreEvent_reports s e c q is).ports
@[simp] theorem State.coreEvent_dims (c : CoreId) (q : Option SeqId) : (s.coreEvent e c q is).dims = s.dims := (coreEvent_reports s e c q is).dims
@[simp] theorem State.coreEvent_outReq (c : CoreId) (q : Option SeqId) : (s.coreEvent e c q is).outReq = s.outReq := (coreEvent_reports s e c q is).outReq
@[simp] theorem State.coreEvent_transit (c : CoreId) (q : Option SeqId) : (s.coreEvent e c q is).transit = s.transit := (coreEvent_reports s e c q is).transit
@[simp] theorem State.coreEvent_inbox (c : CoreId) (q : Option SeqId) : (s.coreEvent e c q is).inbox = s.inbox := (coreEvent_reports s e c q is).inbox
@[simp] theorem State.coreEvent_noRoutes (c : CoreId) (q : Option SeqId) : (s.coreEvent e c q is).noRoutes = s.noRoutes := (coreEvent_reports s e c q is).noRoutes
@[simp] theorem State.coreEvent_kicks (c : CoreId) (q : Option SeqId) : (s.coreEvent e c q is).kicks = s.kicks := (coreEvent_reports s e c q is).kicks
@[simp] theorem State.coreEvent_lineReqs (c : CoreId) (q : Option SeqId) : (s.coreEvent e c q is).lineReqs = s.lineReqs := (coreEvent_reports s e c q is).lineReqs
@[simp] theorem State.coreEvent_ovhRem (c : CoreId) (q : Option SeqId) : (s.coreEvent e c q is).ovhRem = s.ovhRem := (coreEvent_reports s e c q is).ovhRem
@[simp] theorem State.coreEvent_reply (c : CoreId) (q : Option SeqId) : (s.coreEvent e c q is).reply = s.reply := (coreEvent_reports s e c q is).reply
@[simp] theorem State.coreEvent_syncGood (c : CoreId) (q : Option SeqId) : (s.coreEvent e c q is).syncGood = s.syncGood := (coreEvent_reports s e c q is).syncGood
@[simp] theorem State.coreEvent_rels (c : CoreId) (q : Option SeqId) : (s.coreEvent e c q is).rels = s.rels := (coreEvent_reports s e c q is).rels
@[simp] theorem State.coreEvent_areas (c : CoreId) (q : Option SeqId) : (s.coreEvent e c q is).areas = s.areas := (coreEvent_reports s e c q is).areas
@[simp] theorem State.coreEvent_lastSlot (c : CoreId) (q : Option SeqId) : (s.coreEvent e c q is).lastSlot = s.lastSlot := (coreEvent_reports s e c q is).lastSlot
@[simp] theorem State.coreEvent_flash (c : CoreId) (q : Option SeqId) : (s.coreEvent e c q is).flash = s.flash := (coreEvent_reports s e c q is).flash
@[simp] theorem State.coreEvent_nvme (c : CoreId) (q : Option SeqId) : (s.coreEvent e c q is).nvme = s.nvme := (coreEvent_reports s e c q is).nvme
@[simp] theorem State.coreEvent_posted (c : CoreId) (q : Option SeqId) : (s.coreEvent e c q is).posted = s.posted := (coreEvent_reports s e c q is).posted
@[simp] theorem State.coreEvent_heldReads (c : CoreId) (q : Option SeqId) : (s.coreEvent e c q is).heldReads = s.heldReads := (coreEvent_reports s e c q is).heldReads
@[simp] theorem State.coreEvent_csetOrder (c : CoreId) (q : Option SeqId) : (s.coreEvent e c q is).csetOrder = s.csetOrder := (coreEvent_reports s e c q is).csetOrder
@[simp] theorem State.coreEvent_pcie (c : CoreId) (q : Option SeqId) : (s.coreEvent e c q is).pcie = s.pcie := (coreEvent_reports s e c q is).pcie
@[simp] theorem State.coreEvent_refLost (c : CoreId) (q : Option SeqId) : (s.coreEvent e c q is).refLost = s.refLost := (coreEvent_reports s e c q is).refLost
@[simp] theorem State.coreEvent_hangs (c : CoreId) (q : Option SeqId) : (s.coreEvent e c q is).hangs = s.hangs := (coreEvent_reports s e c q is).hangs
@[simp] theorem State.coreEvent_progress (c : CoreId) (q : Option SeqId) : (s.coreEvent e c q is).progress = s.progress := (coreEvent_reports s e c q is).progress
@[simp] theorem State.coreEvent_esc (c : CoreId) (q : Option SeqId) : (s.coreEvent e c q is).esc = s.esc := (coreEvent_reports s e c q is).esc
@[simp] theorem State.coreEvent_photoRun (c : CoreId) (q : Option SeqId) : (s.coreEvent e c q is).photoRun = s.photoRun := (coreEvent_reports s e c q is).photoRun
@[simp] theorem State.coreEvent_resetDue (c : CoreId) (q : Option SeqId) : (s.coreEvent e c q is).resetDue = s.resetDue := (coreEvent_reports s e c q is).resetDue
@[simp] theorem State.coreEvent_photo (c : CoreId) (q : Option SeqId) : (s.coreEvent e c q is).photo = s.photo := (coreEvent_reports s e c q is).photo
@[simp] theorem State.coreEvent_photoSector (c : CoreId) (q : Option SeqId) : (s.coreEvent e c q is).photoSector = s.photoSector := (coreEvent_reports s e c q is).photoSector
@[simp] theorem State.coreEvent_psc (c : CoreId) (q : Option SeqId) : (s.coreEvent e c q is).psc = s.psc := (coreEvent_reports s e c q is).psc
@[simp] theorem State.coreEvent_recA (c : CoreId) (q : Option SeqId) : (s.coreEvent e c q is).recA = s.recA := (coreEvent_reports s e c q is).recA
@[simp] theorem State.coreEvent_recB (c : CoreId) (q : Option SeqId) : (s.coreEvent e c q is).recB = s.recB := (coreEvent_reports s e c q is).recB
@[simp] theorem State.coreEvent_curB (c : CoreId) (q : Option SeqId) : (s.coreEvent e c q is).curB = s.curB := (coreEvent_reports s e c q is).curB
@[simp] theorem State.coreEvent_start (c : CoreId) (q : Option SeqId) : (s.coreEvent e c q is).start = s.start := (coreEvent_reports s e c q is).start
@[simp] theorem State.coreEvent_fuses (c : CoreId) (q : Option SeqId) : (s.coreEvent e c q is).fuses = s.fuses := (coreEvent_reports s e c q is).fuses
@[simp] theorem State.coreEvent_activation (c : CoreId) (q : Option SeqId) : (s.coreEvent e c q is).activation = s.activation := (coreEvent_reports s e c q is).activation
@[simp] theorem State.coreEvent_crown (c : CoreId) (q : Option SeqId) : (s.coreEvent e c q is).crown = s.crown := (coreEvent_reports s e c q is).crown
@[simp] theorem State.coreEvent_activeImage (c : CoreId) (q : Option SeqId) : (s.coreEvent e c q is).activeImage = s.activeImage := (coreEvent_reports s e c q is).activeImage
@[simp] theorem State.coreEvent_stageBank (c : CoreId) (q : Option SeqId) : (s.coreEvent e c q is).stageBank = s.stageBank := (coreEvent_reports s e c q is).stageBank
@[simp] theorem State.coreEvent_stgBuf (c : CoreId) (q : Option SeqId) : (s.coreEvent e c q is).stgBuf = s.stgBuf := (coreEvent_reports s e c q is).stgBuf
@[simp] theorem State.coreEvent_stgAt (c : CoreId) (q : Option SeqId) : (s.coreEvent e c q is).stgAt = s.stgAt := (coreEvent_reports s e c q is).stgAt
@[simp] theorem State.coreEvent_gnt (c : CoreId) (q : Option SeqId) : (s.coreEvent e c q is).gnt = s.gnt := (coreEvent_reports s e c q is).gnt
@[simp] theorem State.coreEvent_retrainDue (c : CoreId) (q : Option SeqId) : (s.coreEvent e c q is).retrainDue = s.retrainDue := (coreEvent_reports s e c q is).retrainDue
@[simp] theorem State.coreEvent_pins (c : CoreId) (q : Option SeqId) : (s.coreEvent e c q is).pins = s.pins := (coreEvent_reports s e c q is).pins
@[simp] theorem State.coreEvent_smbPtr (c : CoreId) (q : Option SeqId) : (s.coreEvent e c q is).smbPtr = s.smbPtr := (coreEvent_reports s e c q is).smbPtr
@[simp] theorem State.coreEvent_smbRefused (c : CoreId) (q : Option SeqId) : (s.coreEvent e c q is).smbRefused = s.smbRefused := (coreEvent_reports s e c q is).smbRefused
@[simp] theorem State.coreEvent_glbCopy (c : CoreId) (q : Option SeqId) : (s.coreEvent e c q is).glbCopy = s.glbCopy := (coreEvent_reports s e c q is).glbCopy
@[simp] theorem State.hifEvent_pending (f : FnId) : (s.hifEvent e f is).pending = s.pending := (hifEvent_reports s e f is).pending
@[simp] theorem State.hifEvent_shadow (f : FnId) : (s.hifEvent e f is).shadow = s.shadow := (hifEvent_reports s e f is).shadow
@[simp] theorem State.hifEvent_ptb (f : FnId) : (s.hifEvent e f is).ptb = s.ptb := (hifEvent_reports s e f is).ptb
@[simp] theorem State.hifEvent_free (f : FnId) : (s.hifEvent e f is).free = s.free := (hifEvent_reports s e f is).free
@[simp] theorem State.hifEvent_cores (f : FnId) : (s.hifEvent e f is).cores = s.cores := (hifEvent_reports s e f is).cores
@[simp] theorem State.hifEvent_hurdles (f : FnId) : (s.hifEvent e f is).hurdles = s.hurdles := (hifEvent_reports s e f is).hurdles
@[simp] theorem State.hifEvent_arrivals (f : FnId) : (s.hifEvent e f is).arrivals = s.arrivals := (hifEvent_reports s e f is).arrivals
@[simp] theorem State.hifEvent_ctxs (f : FnId) : (s.hifEvent e f is).ctxs = s.ctxs := (hifEvent_reports s e f is).ctxs
@[simp] theorem State.hifEvent_parts (f : FnId) : (s.hifEvent e f is).parts = s.parts := (hifEvent_reports s e f is).parts
@[simp] theorem State.hifEvent_dram (f : FnId) : (s.hifEvent e f is).dram = s.dram := (hifEvent_reports s e f is).dram
@[simp] theorem State.hifEvent_buf (f : FnId) : (s.hifEvent e f is).buf = s.buf := (hifEvent_reports s e f is).buf
@[simp] theorem State.hifEvent_poisoned (f : FnId) : (s.hifEvent e f is).poisoned = s.poisoned := (hifEvent_reports s e f is).poisoned
@[simp] theorem State.hifEvent_rows (f : FnId) : (s.hifEvent e f is).rows = s.rows := (hifEvent_reports s e f is).rows
@[simp] theorem State.hifEvent_spares (f : FnId) : (s.hifEvent e f is).spares = s.spares := (hifEvent_reports s e f is).spares
@[simp] theorem State.hifEvent_repairLog (f : FnId) : (s.hifEvent e f is).repairLog = s.repairLog := (hifEvent_reports s e f is).repairLog
@[simp] theorem State.hifEvent_retired (f : FnId) : (s.hifEvent e f is).retired = s.retired := (hifEvent_reports s e f is).retired
@[simp] theorem State.hifEvent_chanOut (f : FnId) : (s.hifEvent e f is).chanOut = s.chanOut := (hifEvent_reports s e f is).chanOut
@[simp] theorem State.hifEvent_dead (f : FnId) : (s.hifEvent e f is).dead = s.dead := (hifEvent_reports s e f is).dead
@[simp] theorem State.hifEvent_tlbCore (f : FnId) : (s.hifEvent e f is).tlbCore = s.tlbCore := (hifEvent_reports s e f is).tlbCore
@[simp] theorem State.hifEvent_tlbDie (f : FnId) : (s.hifEvent e f is).tlbDie = s.tlbDie := (hifEvent_reports s e f is).tlbDie
@[simp] theorem State.hifEvent_tlbHost (f : FnId) : (s.hifEvent e f is).tlbHost = s.tlbHost := (hifEvent_reports s e f is).tlbHost
@[simp] theorem State.hifEvent_inval (f : FnId) : (s.hifEvent e f is).inval = s.inval := (hifEvent_reports s e f is).inval
@[simp] theorem State.hifEvent_flushing (f : FnId) : (s.hifEvent e f is).flushing = s.flushing := (hifEvent_reports s e f is).flushing
@[simp] theorem State.hifEvent_hostAbsent (f : FnId) : (s.hifEvent e f is).hostAbsent = s.hostAbsent := (hifEvent_reports s e f is).hostAbsent
@[simp] theorem State.hifEvent_atc (f : FnId) : (s.hifEvent e f is).atc = s.atc := (hifEvent_reports s e f is).atc
@[simp] theorem State.hifEvent_atsChanged (f : FnId) : (s.hifEvent e f is).atsChanged = s.atsChanged := (hifEvent_reports s e f is).atsChanged
@[simp] theorem State.hifEvent_pageReqs (f : FnId) : (s.hifEvent e f is).pageReqs = s.pageReqs := (hifEvent_reports s e f is).pageReqs
@[simp] theorem State.hifEvent_watch (f : FnId) : (s.hifEvent e f is).watch = s.watch := (hifEvent_reports s e f is).watch
@[simp] theorem State.hifEvent_spec (f : FnId) : (s.hifEvent e f is).spec = s.spec := (hifEvent_reports s e f is).spec
@[simp] theorem State.hifEvent_ports (f : FnId) : (s.hifEvent e f is).ports = s.ports := (hifEvent_reports s e f is).ports
@[simp] theorem State.hifEvent_dims (f : FnId) : (s.hifEvent e f is).dims = s.dims := (hifEvent_reports s e f is).dims
@[simp] theorem State.hifEvent_outReq (f : FnId) : (s.hifEvent e f is).outReq = s.outReq := (hifEvent_reports s e f is).outReq
@[simp] theorem State.hifEvent_transit (f : FnId) : (s.hifEvent e f is).transit = s.transit := (hifEvent_reports s e f is).transit
@[simp] theorem State.hifEvent_inbox (f : FnId) : (s.hifEvent e f is).inbox = s.inbox := (hifEvent_reports s e f is).inbox
@[simp] theorem State.hifEvent_noRoutes (f : FnId) : (s.hifEvent e f is).noRoutes = s.noRoutes := (hifEvent_reports s e f is).noRoutes
@[simp] theorem State.hifEvent_kicks (f : FnId) : (s.hifEvent e f is).kicks = s.kicks := (hifEvent_reports s e f is).kicks
@[simp] theorem State.hifEvent_lineReqs (f : FnId) : (s.hifEvent e f is).lineReqs = s.lineReqs := (hifEvent_reports s e f is).lineReqs
@[simp] theorem State.hifEvent_ovhRem (f : FnId) : (s.hifEvent e f is).ovhRem = s.ovhRem := (hifEvent_reports s e f is).ovhRem
@[simp] theorem State.hifEvent_reply (f : FnId) : (s.hifEvent e f is).reply = s.reply := (hifEvent_reports s e f is).reply
@[simp] theorem State.hifEvent_syncGood (f : FnId) : (s.hifEvent e f is).syncGood = s.syncGood := (hifEvent_reports s e f is).syncGood
@[simp] theorem State.hifEvent_rels (f : FnId) : (s.hifEvent e f is).rels = s.rels := (hifEvent_reports s e f is).rels
@[simp] theorem State.hifEvent_areas (f : FnId) : (s.hifEvent e f is).areas = s.areas := (hifEvent_reports s e f is).areas
@[simp] theorem State.hifEvent_lastSlot (f : FnId) : (s.hifEvent e f is).lastSlot = s.lastSlot := (hifEvent_reports s e f is).lastSlot
@[simp] theorem State.hifEvent_flash (f : FnId) : (s.hifEvent e f is).flash = s.flash := (hifEvent_reports s e f is).flash
@[simp] theorem State.hifEvent_nvme (f : FnId) : (s.hifEvent e f is).nvme = s.nvme := (hifEvent_reports s e f is).nvme
@[simp] theorem State.hifEvent_posted (f : FnId) : (s.hifEvent e f is).posted = s.posted := (hifEvent_reports s e f is).posted
@[simp] theorem State.hifEvent_heldReads (f : FnId) : (s.hifEvent e f is).heldReads = s.heldReads := (hifEvent_reports s e f is).heldReads
@[simp] theorem State.hifEvent_csetOrder (f : FnId) : (s.hifEvent e f is).csetOrder = s.csetOrder := (hifEvent_reports s e f is).csetOrder
@[simp] theorem State.hifEvent_pcie (f : FnId) : (s.hifEvent e f is).pcie = s.pcie := (hifEvent_reports s e f is).pcie
@[simp] theorem State.hifEvent_refLost (f : FnId) : (s.hifEvent e f is).refLost = s.refLost := (hifEvent_reports s e f is).refLost
@[simp] theorem State.hifEvent_hangs (f : FnId) : (s.hifEvent e f is).hangs = s.hangs := (hifEvent_reports s e f is).hangs
@[simp] theorem State.hifEvent_progress (f : FnId) : (s.hifEvent e f is).progress = s.progress := (hifEvent_reports s e f is).progress
@[simp] theorem State.hifEvent_esc (f : FnId) : (s.hifEvent e f is).esc = s.esc := (hifEvent_reports s e f is).esc
@[simp] theorem State.hifEvent_photoRun (f : FnId) : (s.hifEvent e f is).photoRun = s.photoRun := (hifEvent_reports s e f is).photoRun
@[simp] theorem State.hifEvent_resetDue (f : FnId) : (s.hifEvent e f is).resetDue = s.resetDue := (hifEvent_reports s e f is).resetDue
@[simp] theorem State.hifEvent_photo (f : FnId) : (s.hifEvent e f is).photo = s.photo := (hifEvent_reports s e f is).photo
@[simp] theorem State.hifEvent_photoSector (f : FnId) : (s.hifEvent e f is).photoSector = s.photoSector := (hifEvent_reports s e f is).photoSector
@[simp] theorem State.hifEvent_psc (f : FnId) : (s.hifEvent e f is).psc = s.psc := (hifEvent_reports s e f is).psc
@[simp] theorem State.hifEvent_recA (f : FnId) : (s.hifEvent e f is).recA = s.recA := (hifEvent_reports s e f is).recA
@[simp] theorem State.hifEvent_recB (f : FnId) : (s.hifEvent e f is).recB = s.recB := (hifEvent_reports s e f is).recB
@[simp] theorem State.hifEvent_curB (f : FnId) : (s.hifEvent e f is).curB = s.curB := (hifEvent_reports s e f is).curB
@[simp] theorem State.hifEvent_start (f : FnId) : (s.hifEvent e f is).start = s.start := (hifEvent_reports s e f is).start
@[simp] theorem State.hifEvent_fuses (f : FnId) : (s.hifEvent e f is).fuses = s.fuses := (hifEvent_reports s e f is).fuses
@[simp] theorem State.hifEvent_activation (f : FnId) : (s.hifEvent e f is).activation = s.activation := (hifEvent_reports s e f is).activation
@[simp] theorem State.hifEvent_crown (f : FnId) : (s.hifEvent e f is).crown = s.crown := (hifEvent_reports s e f is).crown
@[simp] theorem State.hifEvent_activeImage (f : FnId) : (s.hifEvent e f is).activeImage = s.activeImage := (hifEvent_reports s e f is).activeImage
@[simp] theorem State.hifEvent_stageBank (f : FnId) : (s.hifEvent e f is).stageBank = s.stageBank := (hifEvent_reports s e f is).stageBank
@[simp] theorem State.hifEvent_stgBuf (f : FnId) : (s.hifEvent e f is).stgBuf = s.stgBuf := (hifEvent_reports s e f is).stgBuf
@[simp] theorem State.hifEvent_stgAt (f : FnId) : (s.hifEvent e f is).stgAt = s.stgAt := (hifEvent_reports s e f is).stgAt
@[simp] theorem State.hifEvent_gnt (f : FnId) : (s.hifEvent e f is).gnt = s.gnt := (hifEvent_reports s e f is).gnt
@[simp] theorem State.hifEvent_retrainDue (f : FnId) : (s.hifEvent e f is).retrainDue = s.retrainDue := (hifEvent_reports s e f is).retrainDue
@[simp] theorem State.hifEvent_pins (f : FnId) : (s.hifEvent e f is).pins = s.pins := (hifEvent_reports s e f is).pins
@[simp] theorem State.hifEvent_smbPtr (f : FnId) : (s.hifEvent e f is).smbPtr = s.smbPtr := (hifEvent_reports s e f is).smbPtr
@[simp] theorem State.hifEvent_smbRefused (f : FnId) : (s.hifEvent e f is).smbRefused = s.smbRefused := (hifEvent_reports s e f is).smbRefused
@[simp] theorem State.hifEvent_glbCopy (f : FnId) : (s.hifEvent e f is).glbCopy = s.glbCopy := (hifEvent_reports s e f is).glbCopy
end

end Sys2Proof.Machine

end
end

