-- ==== Sys2Proof/Laws/Issue.lean ====
section
/-! SUPPORT. What issue does where an instruction may issue (R126, R127, R168, R170), what its predicate and its reserved bits do, and
what retirement and a fault can change. -/

namespace Sys2Proof.Machine
open Sys2Proof

/-! ## Issue -/

/-- Issue always answers a next state. -/
theorem issue_next (s : State) (c : CoreId) (q : SeqId) (pn : Bool) (pr : BitVec 3) (illegal : Bool) (body : State → CtxId → Issued) :
    ∃ t, s.issue c q pn pr illegal body = .next t := by
  unfold State.issue
  split
  · exact ⟨_, rfl⟩
  · simp only
    split
    · exact ⟨_, rfl⟩
    · split
      · exact ⟨_, rfl⟩
      · split
        · exact ⟨_, rfl⟩
        · split
          · exact ⟨_, rfl⟩
          · split <;> exact ⟨_, rfl⟩

/-- Issue with its checks passed and the word legal: the body decides. -/
theorem issue_of_mayIssue {s : State} {c : CoreId} {q : SeqId} {x : CtxId} {pn : Bool} {pr : BitVec 3} (h : s.mayIssue c q x pn pr = true)
    (body : State → CtxId → Issued) :
    s.issue c q pn pr false body =
      match body (s.landSst c q) x with
      | .retire t => .next (t.retireTo c q (((s.landSst c q).seq c q).pc + 8))
      | .jump t target => .next (t.retireTo c q target)
      | .wait t => .next t
      | .fault e is => .next (((s.landSst c q).bump (Reg.SEQ_ISSUED c q) 1).seqFault ((s.landSst c q).origin c q x) e is) := by
  simp only [State.mayIssue, Bool.and_eq_true, decide_eq_true_eq] at h
  obtain ⟨⟨⟨hc, hi⟩, hp⟩, hx⟩ := h
  have hn : ((s.landSst c q).permitted c q .exec ((s.landSst c q).seq c q).pc.toNat 8).isNone = false := by
    cases hq : (s.landSst c q).permitted c q .exec ((s.landSst c q).seq c q).pc.toNat 8 <;> simp_all
  cases hb : body (s.landSst c q) x <;>
    simp only [State.issue, hc, hi, Bool.not_true, Bool.false_eq_true, if_false, hn, hx, hb, reduceCtorEq]

/-- Issue with its checks passed and a word that R170 refuses: the instruction is counted and faults with X_ILLEGAL. -/
theorem issue_illegal {s : State} {c : CoreId} {q : SeqId} {x : CtxId} {pn : Bool} {pr : BitVec 3} (h : s.mayIssue c q x pn pr = true)
    (body : State → CtxId → Issued) :
    s.issue c q pn pr true body =
      .next (((s.landSst c q).bump (Reg.SEQ_ISSUED c q) 1).seqFault ((s.landSst c q).origin c q x) .xIllegal []) := by
  simp only [State.mayIssue, Bool.and_eq_true, decide_eq_true_eq] at h
  obtain ⟨⟨⟨hc, hi⟩, hp⟩, hx⟩ := h
  have hn : ((s.landSst c q).permitted c q .exec ((s.landSst c q).seq c q).pc.toNat 8).isNone = false := by
    cases hq : (s.landSst c q).permitted c q .exec ((s.landSst c q).seq c q).pc.toNat 8 <;> simp_all
  simp only [State.issue, hc, hi, Bool.not_true, Bool.false_eq_true, if_false, hn, hx, reduceCtorEq, if_true]

/-- Issue with its checks passed but the predicate false: the program counter alone advances. -/
theorem issue_false_predicate {s : State} {c : CoreId} {q : SeqId} {x : CtxId} {pn : Bool} {pr : BitVec 3}
    (h : s.mayIssue c q x (!pn) pr = true) (illegal : Bool) (body : State → CtxId → Issued) :
    s.issue c q pn pr illegal body = .next ((s.landSst c q).modSeq c q (fun z => z.goTo (z.pc + 8))) := by
  simp only [State.mayIssue, Bool.and_eq_true, decide_eq_true_eq] at h
  obtain ⟨⟨⟨hc, hi⟩, hp⟩, hx⟩ := h
  have hn : ((s.landSst c q).permitted c q .exec ((s.landSst c q).seq c q).pc.toNat 8).isNone = false := by
    cases hq : (s.landSst c q).permitted c q .exec ((s.landSst c q).seq c q).pc.toNat 8 <;> simp_all
  have hf : xor (((s.landSst c q).seq c q).rp pr) pn = false := by
    cases h1 : ((s.landSst c q).seq c q).rp pr <;> cases pn <;> simp_all
  simp only [State.issue, hc, hi, Bool.not_true, Bool.false_eq_true, if_false, hn, hf, if_true]; rfl

/-! ## Landing of stores, and retirement -/

/-- Writing the pending SSTs leaves every other core. -/
theorem landSst_core_ne (s : State) {c d : CoreId} (q : SeqId) (h : d ≠ c) : (s.landSst c q).core d = s.core d := by
  simp only [State.landSst, core_setSeq_ne _ _ _ h, State.modStore, core_modCore_ne _ _ h]

theorem landSst_seq_same (s : State) (c : CoreId) (q : SeqId) : (s.landSst c q).seq c q = { s.seq c q with sst := [] } := by
  simp [State.landSst]

theorem landSst_seq_ne (s : State) {c d : CoreId} {q p : SeqId} (h : ¬(d = c ∧ p = q)) : (s.landSst c q).seq d p = s.seq d p := by
  simp only [State.landSst, seq_setSeq_ne _ _ h]
  by_cases hd : d = c
  · subst hd; simp [State.seq, State.modStore]
  · simp [State.seq, State.modStore, core_modCore_ne _ _ hd]

/-- Bytes outside every pending store are left by their writing. -/
theorem byte_foldl_writes (l : List (Nat × W64)) (m : Mem) (a : Nat) (h : ∀ e ∈ l, ¬(e.1 ≤ a ∧ a < e.1 + 8)) :
    Mem.byte (l.foldl (fun m e => Mem.writeN m e.1 e.2.toNat 8) m) a = Mem.byte m a := by
  induction l generalizing m with
  | nil => rfl
  | cons e t ih =>
    rw [List.foldl_cons, ih _ (fun f hf => h f (List.mem_cons_of_mem _ hf))]
    exact byte_writeN_out 8 m _ _ _ (by have := h e (List.mem_cons_self ..); omega)

theorem foldl_writes_wf (l : List (Nat × W64)) {m : Mem} (h : m.wf) :
    Mem.wf (l.foldl (fun m e => Mem.writeN m e.1 e.2.toNat 8) m) := by
  induction l generalizing m with
  | nil => exact h
  | cons e t ih => exact ih (writeN_wf 8 h _ _)

/-- A register form of the S class that may issue retires with its result in s[D] (R175). -/
theorem rrr_of_mayIssue {s : State} {c : CoreId} {q : SeqId} {x : CtxId} {w : SR} (h : s.mayIssue c q x w.pn w.pr = true) (hz : w.zero = 0)
    (f : W64 → W64 → W64) : s.rrr c q w f = .next (s.retiresWith c q (fun z => z.ws w.d (f (z.rs w.a) (z.rs w.b)))) := by
  simp only [State.rrr, State.issueSR, hz, bne_self_eq_false, Bool.or_false]
  rw [issue_of_mayIssue h]
  simp only [retireSeq, State.retiresWith, State.retires, landSst_seq_same]

/-- Its immediate form, with IMM sign-extended. -/
theorem rri_of_mayIssue {s : State} {c : CoreId} {q : SeqId} {x : CtxId} {w : SI} (h : s.mayIssue c q x w.pn w.pr = true) (hz : w.zero = 0)
    (f : W64 → W64 → W64) : s.rri c q w f = .next (s.retiresWith c q (fun z => z.ws w.d (f (z.rs w.a) (immS w.imm)))) := by
  simp only [State.rri, State.issueSI, hz, bne_self_eq_false, Bool.or_false]
  rw [issue_of_mayIssue h]
  simp only [retireSeq, State.retiresWith, State.retires, landSst_seq_same]

theorem retireTo_seq_same (s : State) (c : CoreId) (q : SeqId) (p : Off) : (s.retireTo c q p).seq c q = (s.seq c q).goTo p := by
  rw [State.retireTo, seq_modSeq_same, bump_seq]

theorem retireTo_seq_ne (s : State) {c d : CoreId} {q r : SeqId} (p : Off) (h : ¬(d = c ∧ r = q)) :
    (s.retireTo c q p).seq d r = s.seq d r := by
  rw [State.retireTo, seq_modSeq_ne _ _ h, bump_seq]

theorem retireTo_core_ne (s : State) {c d : CoreId} (q : SeqId) (p : Off) (h : d ≠ c) : (s.retireTo c q p).core d = s.core d := by
  rw [State.retireTo, State.modSeq, core_setSeq_ne _ _ _ h, bump_core]

theorem retireTo_act (s : State) (c : CoreId) (q : SeqId) (p : Off) (k : Nat) : (s.retireTo c q p).act k = (s.bump (Reg.SEQ_ISSUED c q) 1).act k :=
  act_modSeq _ _ _ _ _

/-! ## Faults -/

/-- The state t is s after issue has stopped with a fault: memories other than host memory, hurdles, arrivals, the PTB, the links, the
relay engines and the queue of commands are as they were, with all that is not named here. -/
structure State.FaultFrame (s t : State) : Prop where
  frame : t = { s with cores := t.cores, regs := t.regs, host := t.host, fns := t.fns, msix := t.msix, alerts := t.alerts, ctxs := t.ctxs, parts := t.parts }

theorem State.FaultFrame.trans {s t u : State} (h : s.FaultFrame t) (g : t.FaultFrame u) : s.FaultFrame u := by
  exact ⟨by rw [g.frame, h.frame]⟩

theorem State.Reports.faultFrame {s t : State} (h : s.Reports t) : s.FaultFrame t := by
  exact ⟨by rw [h.frame]⟩

theorem foldl_faultFrame {β : Type} (f : State → β → State) (hf : ∀ (s : State) (b : β), s.FaultFrame (f s b)) (l : List β) (s : State) :
    s.FaultFrame (l.foldl f s) := by
  induction l generalizing s with
  | nil => exact ⟨rfl⟩
  | cons b t ih => exact (hf s b).trans (ih _)

theorem modSeq_faultFrame (s : State) (c : CoreId) (q : SeqId) (f : Seq → Seq) : s.FaultFrame (s.modSeq c q f) := ⟨rfl⟩
theorem setAct_faultFrame (s : State) (off : Nat) (v : W32) : s.FaultFrame (s.setAct off v) := ⟨rfl⟩
theorem modCtx_faultFrame (s : State) (x : CtxId) (f : Ctx → Ctx) : s.FaultFrame (s.modCtx x f) := ⟨rfl⟩

theorem landSst_faultFrame (s : State) (c : CoreId) (q : SeqId) : s.FaultFrame (s.landSst c q) := ⟨rfl⟩

theorem stopIssue_faultFrame (s : State) (x : CtxId) : s.FaultFrame (s.stopIssue x) :=
  foldl_faultFrame _ (fun u _ => foldl_faultFrame _ (fun v _ => (landSst_faultFrame v _ _).trans (modSeq_faultFrame _ _ _ _)) _ u) _ s

theorem endTurn_faultFrame (s : State) (p : CoreId) : s.FaultFrame (s.endTurn p) := by
  unfold State.endTurn
  simp only
  split <;> exact ⟨rfl⟩

theorem cmdStatus_faultFrame (s : State) (f : FnId) (q : Nat) (i : W32) (st : BitVec 8) : s.FaultFrame (s.cmdStatus f q i st) := by
  unfold State.cmdStatus State.modQueue
  split <;> exact ⟨rfl⟩

theorem abortSuspends_faultFrame (s : State) (x : CtxId) : s.FaultFrame (s.abortSuspends x) :=
  State.FaultFrame.trans (foldl_faultFrame _ (fun u (a : FnId × Nat × W32) => cmdStatus_faultFrame u a.1 a.2.1 a.2.2 stAborted) _ s) (modCtx_faultFrame _ x _)

theorem faultedContext_faultFrame (u : State) (x : CtxId) : u.FaultFrame
    (match (u.ctx x).state with
    | .running | .stopping =>
      ((u.endTurn (u.ctx x).part).modCtx x (fun k => { k with state := .faulted, stopFor := .none, saving := false })).abortSuspends x
    | _ => u) := by
  split
  · exact ((endTurn_faultFrame u _).trans (modCtx_faultFrame _ x _)).trans (abortSuspends_faultFrame _ x)
  · exact ((endTurn_faultFrame u _).trans (modCtx_faultFrame _ x _)).trans (abortSuspends_faultFrame _ x)
  · exact ⟨rfl⟩

/-- A fault changes nothing outside its frame (R166). -/
theorem seqFault_faultFrame (s : State) (o : Origin) (e : EvName) (is : List Item) : s.FaultFrame (s.seqFault o e is) := by
  have h1 : ∀ (u : State) (a b : Nat) (v w : W32), u.FaultFrame ((u.setAct a v).setAct b w) := fun u a b v w =>
    (setAct_faultFrame u a v).trans (setAct_faultFrame _ b w)
  unfold State.seqFault
  simp only
  generalize Reg.SEQ_FAULT o.core o.seq = a
  generalize Reg.SEQ_FAULT_CODE o.core o.seq = b
  generalize e.code.setWidth 32 = w
  have h2 := ((stopIssue_faultFrame s o.ctx).trans (h1 _ a b (o.pc.setWidth 32) w)).trans
    (raiseRec_reports _ e true ⟨some o.ctx, some o.core, some o.seq⟩ 0 (.word o.pc.toNat :: is)).faultFrame
  exact h2.trans (faultedContext_faultFrame _ o.ctx)

end Sys2Proof.Machine
end

