-- ==== Sys2Proof/Laws/Lines.lean ====
section
/-! SUPPORT. What reads and writes of lines of HBM can change (R265 to R267, R243, R271), and that they keep the canonical form of DRAM. -/

namespace Sys2Proof.Machine
open Sys2Proof

/-! ## The buffer -/

theorem writeBack_dram_wf {s : State} (h : Mem.wf s.dram) (e : BufEntry) : Mem.wf (s.writeBack e).dram := by
  unfold State.writeBack
  simp only
  split
  · exact h
  · split <;> exact foldl_setByte_wf _ _ _ h

/-- A write-back leaves every byte outside the valid bytes of the entry. -/
theorem writeBack_byte_out (s : State) (e : BufEntry) (k : Nat) (h : ∀ b ∈ e.bytes, e.line * 256 + b.1 ≠ k) :
    Mem.byte (s.writeBack e).dram k = Mem.byte s.dram k := by
  have g := byte_foldl_setByte_out (f := fun b : Nat × Byte => e.line * 256 + b.1) (g := fun b : Nat × Byte => b.2) e.bytes s.dram k h
  unfold State.writeBack
  simp only
  split
  · rfl
  · split <;> exact g

/-- The state t is s with other contents of DRAM and of the buffers, with what a write-back leaves besides. -/
structure State.BufFrame (s t : State) : Prop where
  frame : t = { s with dram := t.dram, buf := t.buf, poisoned := t.poisoned, regs := t.regs }
  wf : Mem.wf s.dram → Mem.wf t.dram

theorem State.BufFrame.refl (s : State) : s.BufFrame s := ⟨rfl, id⟩

theorem State.BufFrame.trans {s t u : State} (h : s.BufFrame t) (g : t.BufFrame u) : s.BufFrame u :=
  ⟨by rw [g.frame, h.frame], fun w => g.wf (h.wf w)⟩

theorem writeBack_bufFrame (s : State) (e : BufEntry) : s.BufFrame (s.writeBack e) := by
  refine ⟨?_, fun h => writeBack_dram_wf h e⟩
  unfold State.writeBack
  simp only
  split
  · rfl
  · split <;> rfl

theorem dropEntry_bufFrame (s : State) (n : Nat) : s.BufFrame (s.dropEntry n) := ⟨rfl, id⟩

theorem dramLine_bufFrame (s : State) (n : Nat) (bs : List (Nat × Byte)) : s.BufFrame (s.dramLine n bs) :=
  (writeBack_bufFrame s _).trans (dropEntry_bufFrame _ n)

theorem putEntry_bufFrame (s : State) (e : BufEntry) : s.BufFrame (s.putEntry e) := by
  have h : s.BufFrame { (s.dropEntry e.line) with buf := (s.dropEntry e.line).buf ++ [e] } := ⟨rfl, id⟩
  have v : ∀ (u : State) (f : BufEntry), u.BufFrame ((if f.dirty then u.writeBack f else u).dropEntry f.line) := by
    intro u f
    split
    · exact (writeBack_bufFrame u f).trans (dropEntry_bufFrame _ _)
    · exact dropEntry_bufFrame _ _
  unfold State.putEntry
  simp only
  split
  · exact h
  · split
    · exact h
    · exact h.trans (v _ _)

/-- A read of a line changes the buffers and DRAM alone, and answers the line as it stood (R266). -/
theorem lineRead_spec (s : State) (pa : Nat) (cached : Bool) (hint : Nat) :
    (s.lineRead pa cached hint).1 = s.lineNow pa ∧ (s.lineRead pa cached hint).2.1 = s.isPoisoned pa
      ∧ s.BufFrame (s.lineRead pa cached hint).2.2 := by
  refine ⟨rfl, rfl, ?_⟩
  unfold State.lineRead
  simp only
  split
  · exact .refl s
  · split
    · split
      · exact dropEntry_bufFrame _ _
      · exact putEntry_bufFrame _ _
    · split
      · exact putEntry_bufFrame _ _
      · exact .refl s

/-! ## Writes -/

/-- The state t is s after lines of HBM have been written: DRAM, the buffers, the poisoned marks, the run flags of streams, and what
records change. -/
structure State.LineFrame (s t : State) : Prop where
  frame : t = { s with dram := t.dram, buf := t.buf, poisoned := t.poisoned, cores := t.cores, regs := t.regs, host := t.host, fns := t.fns, msix := t.msix, alerts := t.alerts }
  wf : Mem.wf s.dram → Mem.wf t.dram

theorem State.LineFrame.trans {s t u : State} (h : s.LineFrame t) (g : t.LineFrame u) : s.LineFrame u :=
  ⟨by rw [g.frame, h.frame], fun w => g.wf (h.wf w)⟩

theorem State.BufFrame.line {s t : State} (h : s.BufFrame t) : s.LineFrame t := ⟨by rw [h.frame], h.wf⟩
theorem State.Reports.line {s t : State} (h : s.Reports t) : s.LineFrame t := ⟨by rw [h.frame], fun w => by rw [h.dram]; exact w⟩

theorem bump_lineFrame (s : State) (off n : Nat) : s.LineFrame (s.bump off n) := ⟨rfl, id⟩
theorem modCore_lineFrame (s : State) (c : CoreId) (f : Core → Core) : s.LineFrame (s.modCore c f) := ⟨rfl, id⟩
theorem markPoison_lineFrame (s : State) (pa : Nat) (b : Bool) : s.LineFrame (s.markPoison pa b) := ⟨rfl, id⟩

theorem foldl_lineFrame {β : Type} (f : State → β → State) (hf : ∀ (s : State) (b : β), s.LineFrame (f s b)) (l : List β) (s : State) :
    s.LineFrame (l.foldl f s) := by
  induction l generalizing s with
  | nil => exact ⟨rfl, id⟩
  | cons b t ih => exact (hf s b).trans (ih _)

theorem noteWrite_lineFrame (s : State) (pa unit : Nat) : s.LineFrame (s.noteWrite pa unit) := by
  refine foldl_lineFrame _ (fun u e => ?_) _ s
  have h := bump_lineFrame u (Reg.STR_STALE e.core) 1
  have g : ∀ (v : State) (is : List Item) (f : Core → Core),
      v.LineFrame ((v.raiseRec .strStalePrefetch false ⟨some e.ctx, some e.core, none⟩ 0 is).modCore e.core f) :=
    fun v is f => (raiseRec_reports v _ _ _ _ is).line.trans (modCore_lineFrame _ _ _)
  simp only
  split
  · split
    · exact h
    · exact h.trans (g _ _ _)
  · split
    · exact h
    · exact h.trans (g _ _ _)

/-- A write of bytes of a line changes nothing outside its frame (R243, R265 to R267, R271). -/
theorem lineWrite_lineFrame (s : State) (pa : Nat) (cached : Bool) (hint : Nat) (bs : List (Nat × Byte)) (unit : Nat) :
    s.LineFrame (s.lineWrite pa cached hint bs unit) := by
  have nil : s.LineFrame s := ⟨rfl, id⟩
  have mark : ∀ (u : State) (b : Bool), u.LineFrame (if b then u.markPoison pa false else u) := by
    intro u b
    split
    · exact markPoison_lineFrame u pa false
    · exact ⟨rfl, id⟩
  have put : ∀ (u : State) (e : BufEntry), u.LineFrame (u.putEntry e) := fun u e => (putEntry_bufFrame u e).line
  have dl : ∀ (u : State) (n : Nat) (l : List (Nat × Byte)), u.LineFrame (u.dramLine n l) := fun u n l => (dramLine_bufFrame u n l).line
  have pre := (noteWrite_lineFrame s pa unit).trans (mark _ ((List.range 256).all (fun i => bs.any (fun b => b.1 = i))))
  have tail : ∀ (u : State) (whole : Bool), u.LineFrame (
      let old := u.buf.find? (fun e => e.line = pa / 256)
      if cached && old.isSome then
        match old with
        | some e => u.putEntry { e with bytes := mergeBytes e.bytes bs, dirty := true }
        | none => u
      else if cached && hint = 1 then u.putEntry ⟨pa / 256, bs, true, true⟩
      else if whole then u.dramLine (pa / 256) bs
      else
        let e : BufEntry := match old with | some e => { e with bytes := mergeBytes e.bytes bs, dirty := true } | none => ⟨pa / 256, bs, true, false⟩
        if e.bytes.length = 256 || u.fld Reg.MEM_CFG 9 0 = 0 then u.dramLine (pa / 256) e.bytes else u.putEntry e) := by
    intro u whole
    simp only
    split
    · split
      · exact put _ _
      · exact ⟨rfl, id⟩
    · split
      · exact put _ _
      · split
        · exact dl _ _ _
        · split <;> split
          · exact dl _ _ _
          · exact put _ _
          · exact dl _ _ _
          · exact put _ _
  unfold State.lineWrite
  split
  · exact nil
  · simp only
    split
    · exact bump_lineFrame _ _ _
    · exact pre.trans (tail _ _)

end Sys2Proof.Machine
end

