-- ==== Sys2Proof/Tests/Slice0.lean ====
section
/-! SUPPORT. Tests of the model on fixed values, and witnesses of the hypotheses of the obligations. Values come from the worked
examples of the spec where a test names one. -/

section
set_option Elab.async false

namespace Sys2Proof.Tests
open Sys2Proof Sys2Proof.Machine

/-! ## Small states -/

def withRegs (s : State) (l : List (Nat × W32)) : State := l.foldl (fun s e => s.setAct e.1 e.2) s
/-- In service: the start record is published, at stage 8, in the life-cycle state Provisioned. -/
def svc : State := State.reset.setAct Reg.GLB_STATUS 0x42000008
/-- Context 0 runs on core 0, with region 0 CODE and region 1 DATA for every sequencer, and one sequencer running. -/
def issueState (q : SeqId) : State :=
  let s := withRegs svc [(Reg.STORE_SIZE 0 0, 1), (Reg.STORE_ATTR 0 0, 0x100001FF), (Reg.STORE_BASE 0 1, 1), (Reg.STORE_SIZE 0 1, 1), (Reg.STORE_ATTR 0 1, 0x200001FF)]
  let s := s.modCore 0 (fun k => { k with ctx := some 0 })
  let s := s.modCtx 0 (fun k => { k with state := .running })
  s.modSeq 0 q (fun z => { z with state := .run })
def okE {ε α : Type} (e : Except ε α) : Bool := match e with | .ok _ => true | .error _ => false
def okIs {ε α : Type} [DecidableEq α] (e : Except ε α) (a : α) : Bool := match e with | .ok b => b == a | .error _ => false
def nextIs (o : Host.Outcome State Fault Refusal) (p : State → Bool) : Bool := match o with | .next t => p t | _ => false
def srw (d a b : BitVec 5) (fn : BitVec 4) : SR := ⟨false, 0, d, a, b, 0, 0, fn⟩
def siw (d a : BitVec 5) (imm : BitVec 32) : SI := ⟨false, 0, d, a, 0, 0, imm⟩
def ctw (d a : BitVec 5) (imm : BitVec 32) : CT := ⟨false, 0, d, a, false, 0, imm⟩
def hfw (sa sb : BitVec 5) (hid : BitVec 12) : HF := ⟨false, 0, sa, sb, false, hid, false, 0⟩
def efw (xf : BitVec 5) (doff : BitVec 24) : EF := ⟨false, 0, 0, 0, false, 0, xf, doff⟩
def eaw (xf : BitVec 5) (doff : BitVec 20) : EA := ⟨false, 0, 0, 0, false, 0, xf, 0, doff⟩

/-! ## Values that the spec works out -/

theorem test_reset_idle : step State.reset = .next State.reset := rfl

/-- Chapter 02: the STR block of core 5 and the MEM block of stack 11. -/
theorem test_block_offsets : Reg.STR_CFG 5 = 0x01A40000 ∧ Reg.MEM_CE 11 = 0x022C0000 + 8 := by decide

/-- Chapter 06: the word of the glove pass, field by field. -/
theorem test_mpass_word : decodeWord 0 .F 0 0x42019202A0000000 = some (.mpass 0 .F ⟨false, 0, 3, 4, true, 0x015, 0, 0⟩) := by decide
/-- SADD s5 := s6 + s7 if not p2: opcode 0x01, PN 1, PR 2, D 5, A 6, B 7. -/
theorem test_sadd_word : decodeWord 1 .B 0
    (BitVec.ofNat 64 (0x01 * 2 ^ 56 + 2 ^ 55 + 2 * 2 ^ 52 + 5 * 2 ^ 47 + 6 * 2 ^ 42 + 7 * 2 ^ 37)) = some (.sadd 1 .B ⟨true, 2, 5, 6, 7, 0, 0, 0⟩) := by decide
/-- Opcode 0 spells nothing, and the last word of the table does. -/
theorem test_reserved_opcode : decodeWord 0 .F 0 0 = none ∧ (decodeWord 0 .F 0 (BitVec.ofNat 64 (0xA6 * 2 ^ 56))) = none := by decide

/-- Chapter 08: the cell of 0x0012_3456_7800, with nothing mapped out, and with channel 7 of M9. -/
theorem test_map_line : (let x := cellOfPa [] 0x001234567800
    (x.slot, x.stack.val, x.chan % 32, x.bg, x.bank, x.sid, x.row)) = (0x24E, 9, 7, 1, 3, 0, 1165) := by decide +kernel
theorem test_map_line_out : (let x := cellOfPa [590, 591] 0x001234567800
    (x.slot, x.stack.val, x.chan % 32, x.bg, x.bank, x.sid, x.row)) = (698, 10, 29, 3, 3, 1, 16354) := by decide +kernel

/-- Chapter 12: codes of three events, and the ring slots of entries 300 and 301 of VF 3's queue 5. -/
theorem test_event_codes : EvName.arrFormat.code = 0x0104 ∧ EvName.strStalePrefetch.code = 0x0206 ∧ EvName.lnkPortLost.code = 0x0802 := by decide
theorem test_ring_slots : (let x : Queue := ⟨0x4210000000, 8, 0, 300, 300, 300, 300, [], [], [], false, false⟩
    (x.entryAt 300, x.entryAt 301)) = (0x4210000B00, 0x4210000B40) := by decide
theorem test_hurdle_home : homeDie 0x215 = 1 ∧ homeDie 0x015 = 0 := by decide

/-- Chapter 09: momentum of signs with a dead band gives 16, 30, 43, 54, 64, 72, and its first code of +1 in step 6. -/
def momentum : List Nat :=
  [0x00010C0101000000, 0, 0, 0, 0, 0, 0, 0, 0x0110000000000000, 0x0220000000000000, 0x0832000000000003, 0x0622300000000000,
   0x0711000000000010, 0x0522100000000000, 0x0300200000000000, 0x0C42000000000000, 0x0D50000000000040, 0x0B64500000000000,
   0x0A72060000000000, 0x0E07000000000000]
theorem test_update_program : (upProg momentum).map (fun p => (List.range 6).foldl (fun (a : List (Int × Int) × List Int) _ =>
    let r := p.run (fun _ => false) a.2
    (a.1 ++ [(r.2.headD 0, r.1)], r.2)) ([], [0])) = some ([(16, 0), (30, 0), (43, 0), (54, 0), (64, 0), (72, 1)], [72]) := by decide +kernel
theorem test_update_program_rejected : upProg (momentum.set 8 0x0111000000000000) = none ∧ upProg (momentum.take 19) = none := by decide +kernel

/-- Chapter 11: the shards of W1 over 16 packages, and the segments of step 0. -/
theorem test_shards : shardSize 67108864 16 = 4194304 ∧ shardLen 67108864 16 15 = 4194304 := by decide +kernel

/-- Chapter 14: the interval after the first seal, after 100 h, and after a restore (τ rounded as log 23 says). -/
def splitFleet : State := withRegs svc [(Reg.SPL_FLEET 0, BitVec.ofNat 32 (40 * 65536 + 24))]
theorem test_split_interval :
    splitFleet.mtbf 0 ⟨1, [], 0, none, 0, none⟩ = (144000 * 24, 24)
    ∧ splitFleet.mtbf 0 ⟨1, [], 360000 * 1000000000, none, 0, none⟩ = (744000 * 24, 24)
    ∧ (splitFleet.mtbf 0 ⟨1, [], 360000 * 1000000000, none, 1, none⟩).1 / (splitFleet.mtbf 0 ⟨1, [], 360000 * 1000000000, none, 1, none⟩).2 = 279000 := by
  decide +kernel
theorem test_split_tau : isqrt 16502 = 128 ∧ isqrt 85262 = 291 ∧ isqrt 31973 = 178 := by decide +kernel

/-- Chapter 16: a core at 600 MHz with 48 of 64 edges off sends PACE 55; a period over the cap at 600 MHz adds 4 to D. -/
def pacedCore : State := ((withRegs svc [(Reg.PSC_STATUS, 48 * 65536)]).modCore 0 (fun k => { k with own := 600, aclk := 600 }))
theorem test_pace : pacedCore.pace 0 = 55 := by decide +kernel

/-- Chapter 06: the descriptor of the glove pass, and the stride program of chapter 07. -/
theorem test_pass_descriptor : passDesc [0x0200400000002000, 0x4480000044000000, 0x0580000045000000, 0]
    = ⟨1024, 1024, 0, 0x2000, true, 0x04800000, 32, 0x04000000, false, 0x05800000, 32, 0x05000000⟩ := by decide +kernel
theorem test_stride_program : progOk [⟨0x1000000000002000, 0x0000001000000010⟩, ⟨0x3000000000000400, 0⟩, ⟨0x2000000000000000, 0⟩, ⟨0, 0⟩] = true
    ∧ progOk [⟨0x1000000000002000, 0x0000001000000010⟩, ⟨0x3000000000000400, 0⟩, ⟨0, 0⟩] = false := by decide +kernel

/-! ## Ill-formed commands: one for each check -/

theorem test_wf_slot : (Instr.lineComplete 0 true 8 0).ok = false ∧ (Instr.prgResponse 0 false 32 true).ok = false ∧ (Instr.hbmWrite 0 true 8 0).ok = false
    ∧ (Instr.hbmRead 0 false 32 0 .clean).ok = false ∧ (Instr.lineComplete 0 false 31 0).ok = true := by decide
theorem test_wf_line : (MsgBody.rdRsp []).ok = false ∧ (MsgBody.wr 0 [(256, 0)]).ok = false ∧ (MsgBody.wr 0 [(0, 0), (0, 1)]).ok = false
    ∧ (MsgBody.wr 0 [(0, 0), (255, 1)]).ok = true := by decide
theorem test_wf_bar2 : (Instr.bar2Read 0 254 4).ok = false ∧ (Instr.bar2Write 0 255 [0, 0]).ok = false ∧ (Instr.bar2Read 0 252 4).ok = true := by decide
theorem test_wf_bar0 : (Instr.registerRead 0 0x4000000 false).ok = false ∧ (Instr.registerWrite 1 0x2000000 0 false true).ok = false
    ∧ (Instr.registerReadTimeout 1 0x2000000).ok = false ∧ (Instr.commitTimeout 0 0x4000000).ok = false ∧ (Instr.registerRead 0 0x3FFFFFC false).ok = true := by decide
theorem test_wf_samples : (Instr.energySample 0 [] [] 0).ok = false ∧ (Instr.controlPeriod [] 0 [] [] [] 0).ok = false ∧ (Instr.photoComplete [] 0).ok = false
    ∧ (Instr.photoUnitTimeout 130 false 0).ok = false ∧ (Instr.gauntletStage []).ok = false := by decide
theorem test_wf_address : (Instr.scrub (2 ^ 40) .clean).ok = false ∧ (Instr.softRepairComplete (2 ^ 40)).ok = false ∧ (Instr.wcbIdleWriteback (2 ^ 32)).ok = false := by decide
theorem test_wf_flit : (Instr.dataFlit 0 ⟨true, 0, 0, 0, 0, false, Vector.replicate 4 0⟩ 0 0 [⟨0, 0, 0, 0, .rdRsp []⟩]).ok = false := by decide

/-! ## Witnesses of the hypotheses of the obligations -/

theorem witness_StepRunsFrontCommand : ({ svc with pending := [.sadd 0 .F (srw 1 2 3 0)] } : State).pending = .sadd 0 .F (srw 1 2 3 0) :: [] ∧ svc.pending = [] :=
  ⟨rfl, rfl⟩
theorem witness_InstructionWordRoundTrip : encodeWord (.sadd 0 .F (srw 31 31 31 0)) = some (0, .F, 0, 0x010FFFE000000000) := by decide +kernel
theorem witness_UnlistedOpcodesSpellNone : (decodeWord 0 .F 0 (BitVec.ofNat 64 (0xA5 * 2 ^ 56))).isSome = true ∧ (decodeWord 0 .F 0 (BitVec.ofNat 64 (0x0E * 2 ^ 56))).isSome = false := by
  decide +kernel
theorem witness_TablesKeepTheirForm : ([(0, 1), (255, 2)] : Mem).Pairwise (fun p q => p.1 < q.1) ∧ (∀ p ∈ ([(0, 1), (255, 2)] : Mem), p.2 ≠ emptyByte p.1)
    ∧ svc.regs.Pairwise (fun p q => p.1 < q.1) ∧ ∀ p ∈ svc.regs, p.2 ≠ regReset p.1 := by decide +kernel
theorem witness_RetirementFrame : ((issueState .B).seq 0 .B).sst = [] ∧ (0 : CoreId) ≠ 1 ∧ SeqId.F ≠ SeqId.B := by decide +kernel
theorem witness_IntegerResults : ∀ q ∈ [SeqId.F, .B, .U], (issueState q).mayIssue 0 q 0 false 0 = true ∧ (srw 31 0 31 0).zero = 0 ∧ (siw 31 0 0x80000000).zero = 0 := by
  decide +kernel
theorem witness_FalsePredicateRetires : (issueState .F).mayIssue 0 .F 0 (!false) 1 = true ∧ (issueState .U).mayIssue 0 .U 0 (!true) 0 = true := by decide +kernel
theorem witness_IllegalWordFaults : (issueState .F).mayIssue 0 .F 0 false 0 = true ∧ ({ srw 0 0 0 0 with zero := 1 } : SR).zero ≠ 0
    ∧ 16 ≤ (srw 16 16 0 0).d.toNat ∧ 16 ≤ (srw 16 16 0 0).a.toNat ∧ 8 ≤ (srw 8 0 0 0).d.toNat ∧ 10 ≤ (srw 0 0 0 10).fn.toNat ∧ 4 ≤ (srw 0 0 0 4).fn.toNat := by decide +kernel
theorem witness_AddressRegisterResults : (issueState .F).mayIssue 0 .F 0 false 0 = true ∧ (srw 15 15 31 0).d.toNat < 16 ∧ (srw 15 15 31 0).a.toNat < 16
    ∧ (siw 15 15 0xFFFFFFFF).d.toNat < 16 := by decide +kernel
theorem witness_PredicateResults : (issueState .F).mayIssue 0 .F 0 false 0 = true ∧ (srw 7 7 7 9).d.toNat < 8 ∧ (srw 7 7 7 9).fn.toNat < 10 ∧ (srw 7 7 7 3).fn.toNat < 4
    ∧ (srw 7 7 7 3).a.toNat < 8 ∧ ((0x7F800001 : W64).setWidth 31).toNat > 0x7F800000 ∧ ¬((0x7F800000 : W64).setWidth 31).toNat > 0x7F800000 := by decide +kernel
theorem test_conditions : condition 6 0x80000000 0 = false ∧ condition 8 0x80000000 0 = true ∧ condition 2 0xFFFFFFFFFFFFFFFF 0 = true ∧ condition 4 0xFFFFFFFFFFFFFFFF 0 = false
    ∧ condition 9 0x7FC00000 0 = true ∧ condition 7 0xBF800000 0x3F800000 = true := by decide +kernel
theorem witness_FloatResults : (issueState .F).mayIssue 0 .F 0 false 0 = true ∧ ((0x7FC00000 : W32).setWidth 31).toNat > 0x7F800000 := by decide +kernel
theorem test_fp32 : fAdd 0x3F800000 0x3F800000 = 0x40000000 ∧ fMul 0x40400000 0x40000000 = 0x40C00000 ∧ fToInt 0xC0600000 = 0xFFFFFFFFFFFFFFFD
    ∧ intToF 0xFFFFFFFFFFFFFFFF = 0xBF800000 ∧ fToInt 0x7F800000 = 0x7FFFFFFFFFFFFFFF := by decide +kernel

/-- SLD at offset 0x10000 of the DATA region, at its last 8 bytes, below zero, beyond 2^30 and misaligned. -/
def dataState : State := (issueState .F).modSeq 0 .F (fun z => (z.ws 1 0x10000).ws 2 0x3FFFFFFF)
theorem witness_LoadsAndStores : dataState.mayIssue 0 .F 0 false 0 = true
    ∧ okE (dataState.access 0 .F (dataState.issueWin 0 .F) .read 0x10000 8) = true ∧ okE (dataState.access 0 .F (dataState.issueWin 0 .F) .write 0x1FFF8 8) = true
    ∧ okE (dataState.access 0 .F (dataState.issueWin 0 .F) .read 0x20000 8) = false ∧ okE (dataState.access 0 .F (dataState.issueWin 0 .F) .write 0 8) = false
    ∧ (siw 0 0 5).imm.toNat < 6 ∧ 6 ≤ (siw 0 0 6).imm.toNat ∧ (((0 : Nat) : Int) + (siw 0 0 0xFFFFFFF8).imm.toInt < 0)
    ∧ (2 : Int) ^ 30 ≤ ((0x3FFFFFFF : Nat) : Int) + (siw 0 2 1).imm.toInt ∧ ((4 : Nat) : Int) % 8 ≠ 0 := by decide +kernel
theorem test_sst_then_sld : nextIs (exec (.sst 0 .F (siw 1 1 8)) dataState) (fun t => nextIs (exec (.sld 0 .F (siw 3 1 8)) t) (fun u => (u.seq 0 .F).rs 3 == 0x10000)) = true := by
  decide +kernel
theorem witness_ControlResults : (issueState .F).mayIssue 0 .F 0 false 0 = true ∧ ((issueState .F).seq 0 .F).state = .run ∧ ((issueState .F).ctx 0).stopFor = .none
    ∧ (((issueState .F).seq 0 .F).pc + ((ctw 0 0 0xFFFFFFF8).imm.signExtend 64).setWidth 30).toNat % 8 = 0
    ∧ (((issueState .F).seq 0 .F).pc + ((ctw 0 0 4).imm.signExtend 64).setWidth 30).toNat % 8 ≠ 0 ∧ (((dataState.seq 0 .F).rs 2).setWidth 30 : Off).toNat % 8 ≠ 0 := by
  decide +kernel

/-! ### Hurdles -/

/-- Hurdle 0x015 of context 0, ARMED for 2, not AUTO, HOST_OK, every port. -/
def armedState : State := (issueState .F).setHurdle 0x015 { Hurdle.reset with state := .armed, expect := 2, hostOk := true, ports := 0xFFFF }
theorem witness_HurdleInstructions : (issueState .F).mayIssue 0 .F 0 false 0 = true ∧ (issueState .F).issueWin 0 .F = none
    ∧ (let cfg := ((issueState .F).seq 0 .F).rs 0
       bitsOf cfg.toNat 63 48 = 0 ∧ bitsOf cfg.toNat 31 20 = 0 ∧ bitsOf cfg.toNat 19 18 ≠ 3)
    ∧ (armedState.hurdle 0x015).owner = 0 ∧ ((armedState.hurdle 0x015).releases - 0).toNat < 2 ^ 31 ∧ 2 ^ 31 ≤ ((armedState.hurdle 0x015).releases - 1).toNat
    ∧ (armedState.hurdle 0x015).state ≠ .poisoned ∧ bitsOf (0x000C0000 : Nat) 19 18 = 3
    ∧ (((issueState .F).setHurdle 0xFFF { Hurdle.reset with owner := 63 }).hurdle 0xFFF).owner ≠ 0 := by decide +kernel
/-- HARRIVE to package 1, on a port that is UP. -/
def remoteState : State := (withRegs ((issueState .F).modSeq 0 .F (fun z => z.ws 1 1)) [(Reg.LNK_PORTMAP 0, 0x10)]).setPortState 0 3
theorem witness_HurdleInstructions_remote : ((remoteState.seq 0 .F).rs 1).setWidth 16 ≠ remoteState.pkg
    ∧ (remoteState.sendMsg vcHctl ⟨1, remoteState.pkg, 0, 0, .arrive 0x015 0⟩ (some 0)).2 = true := by decide +kernel
theorem witness_HurdleCounting : 0 < ({ Hurdle.reset with expect := 1 } : Hurdle).expect.toNat ∧ (0 : Nat) < 2 ^ 16 ∧ Hurdle.reset.count.toNat < 2 ^ 16
    ∧ (65535 : Nat) < 2 ^ 16 ∧ (1023 : Nat) < 2 ^ 10 := by decide +kernel
theorem test_count_arrivals : (countArrivals { Hurdle.reset with state := .armed, expect := 3, count := 2, auto := true } 4).1.count = 3
    ∧ (countArrivals { Hurdle.reset with state := .armed, expect := 3, count := 2, auto := true } 3).2 = (true, false)
    ∧ (countArrivals { Hurdle.reset with state := .armed, expect := 3, count := 2, auto := true } 4).2 = (true, true)
    ∧ (countArrivals { Hurdle.reset with state := .armed, expect := 3 } 4).1.state = .poisoned := by decide +kernel
def harmState : State := (issueState .F).modSeq 0 .F (fun z => { z with harm := some ⟨0x015, 0xFFFF_0003_0001⟩ })
def arrivalsState : State := { armedState with arrivals := [⟨0x015, 0, .ctx 0 none (.feed 0)⟩, ⟨0x015, 0, .ctx 0 none (.feed 0)⟩] }
def strayState : State := { armedState with arrivals := [⟨0x015, 0, .ctx 5 none (.feed 0)⟩] }
theorem witness_HurdleUnitEvents : (harmState.seq 0 .F).harm = some ⟨0x015, 0xFFFF_0003_0001⟩ ∧ (harmState.core 0).ctx = some 0 ∧ (harmState.hurdle 0x015).owner = 0
    ∧ (harmState.hurdle 0x015).state = .idle ∧ ((0xFFFF_0003_0001 : W64).setWidth 16 : BitVec 16) ≠ 0
    ∧ (let mine := (splitArrivals 0x015 2 [] arrivalsState.arrivals).1
       (arrivalsState.hurdle 0x015).state = .armed ∧ mine ≠ [] ∧ (∀ a ∈ mine, arrivalsState.accepts (arrivalsState.hurdle 0x015) a.src = true)
       ∧ (arrivalsState.hurdle 0x015).count.toNat + mine.length = (arrivalsState.hurdle 0x015).expect.toNat)
    ∧ (arrivalsState.hurdle 0x015).count.toNat + 1 < (arrivalsState.hurdle 0x015).expect.toNat
    ∧ (∀ e ∈ arrivalsState.hurdles, e.2.state ≠ .poisoned)
    ∧ strayState.accepts (strayState.hurdle 0x015) (.ctx 5 none (.feed 0)) = false ∧ svc.inService = true ∧ svc.writeAhead (Reg.HRD_CTL 0 0x015) = false ∧ fieldOf 0x40000001 31 30 = 1
    ∧ (armedState.hurdle 0x015).count.toNat < fieldOf 0x40000001 15 0 ∧ armedState.inService = true ∧ armedState.writeAhead (Reg.HRD_CTL 0 0x015) = false
    ∧ (armedState.hurdle 0x015).count.toNat = fieldOf 0x40000000 15 0 ∧ (0x40000000 : W32).getLsbD 29 = false ∧ (∀ e ∈ armedState.hurdles, e.2.state ≠ .poisoned) := by decide +kernel

/-! ### The array -/

/-- The origin of commands of these states; `hv`: with a completion hurdle. -/
def org0 (q : SeqId) (hv : Bool) : Origin := ⟨0, 0, q, 0, none, hv, 0x015, 5, 12⟩
def withArr (f : Arr → Arr) : State := (issueState .F).modArr 0 f
def inBank (b : Bank) : State := withArr (fun a => { a with bank := vset a.bank 0 b })
def passCmd : ArrCmd := ⟨.pass true, 0, [0x0200400000002000, 0x4480000044000000, 0x0580000045000000, 0], org0 .F true⟩
def preCmd : ArrCmd := ⟨.pre 0, 1, [], org0 .F false⟩
def drainCmd (clear : Bool) : ArrCmd := ⟨.drain clear false, 0, List.replicate 8 0, org0 .F false⟩

theorem witness_ArrayInstructions : (issueState .F).mayIssue 0 .F 0 false 0 = true ∧ ((issueState .F).core 0).arr.xing.length < 16
    ∧ (issueState .F).arbiter 0 .array .F = some .F ∧ (issueState .F).bankFree 0 .F 0 = true ∧ (issueState .F).bankFree 0 .F 1 = true
    ∧ (efw 3 0).xf.toNat < 4 ∧ (efw 0 0).xf.toNat % 4 = 0 ∧ (efw 12 0).xf.toNat / 4 % 4 = 3 ∧ (efw 4 0).xf.toNat / 4 % 4 = 1 ∧ (efw 8 0).xf.toNat % 8 = 0
    ∧ okIs ((issueState .F).takeDesc 0 .F none 0 8) [0] = true ∧ zeroBits [0] [(0, 63, 48), (0, 31, 30)] = true
    ∧ (let e := preExtent 1 ((issueState .F).projFeed 0).shape [0]
       okE ((issueState .F).access 0 .F none .read e.1 e.2) = true)
    ∧ okIs ((issueState .F).takeDesc 0 .F none 0 64) (List.replicate 8 0) = true ∧ okE ((issueState .F).checkDrain 0 .F none 0 (List.replicate 8 0)) = true
    ∧ okIs ((issueState .F).takeDesc 0 .F none 0 32) (List.replicate 4 0) = true ∧ okE ((issueState .F).checkPass 0 .F none (List.replicate 4 0)) = true := by decide +kernel

theorem witness_ArrayCommands : (issueState .F).coreIdle 0 = false ∧ (withArr (fun a => { a with queue := [passCmd] })).coreHeld 0 = false ∧ arrFault ((withArr (fun a => { a with xing := [preCmd] })).projArr 0) preCmd = none
    ∧ ((withArr (fun a => { a with queue := [⟨.shape 3, 0, [], org0 .F false⟩] })).core 0).arr.passes = []
    ∧ (∀ b : Fin 2, ((issueState .F).bank 0 b).state ≠ .active) ∧ ((issueState .F).bank 0 preCmd.bank).state = .empty
    ∧ ((inBank { Bank.reset with state := .loading, cmd := some { preCmd with bank := 0 } }).bank 0 0).state = .loading
    ∧ (let s := withArr (fun a => { a with queue := [passCmd], bank := vset a.bank 0 { Bank.reset with state := .loaded, anyShape := true } })
       (s.core 0).arr.queue = [passCmd] ∧ ((pairing (passDesc passCmd.desc).pair).map (·.cplx)) = some false ∧ (s.bank 0 passCmd.bank).state = .loaded
         ∧ (passDesc passCmd.desc).k ≠ 0 ∧ (passDesc passCmd.desc).m ≠ 0 ∧ (passDesc passCmd.desc).n ≠ 0)
    ∧ (let s := withArr (fun a => { a with passes := [passCmd], bank := vset a.bank 0 { Bank.reset with state := .active } })
       (s.core 0).arr.passes = [passCmd] ∧ wbits passCmd.desc 0 35 32 ≠ 7 ∧ (s.bank 0 0).state = .active ∧ passCmd.org.hv = true ∧ passCmd.org.win = none)
    ∧ ((withArr (fun a => { a with queue := [drainCmd true], bank := vset a.bank 0 { Bank.reset with state := .full } })).bank 0 0).state = .full
    ∧ ((inBank { Bank.reset with state := .draining, cmd := some (drainCmd false) }).bank 0 0).cmd = some (drainCmd false) := by decide +kernel

/-! ### Streams and gathers -/

def strSlot (z : Slot) : State := (issueState .F).setSlot 0 false 0 z
def gthSlot (z : Slot) : State := (issueState .F).setSlot 0 true 0 z
def rearm0 : Rearm := ⟨List.replicate 8 0, 0, org0 .F false, none, [], []⟩
/-- An XRCHECK descriptor at 0x1000 whose result goes to the DATA region. -/
def xrState : State := (issueState .F).modCore 0 (fun k => { k with store := Mem.writeN k.store 0x1018 0x10000 8 })
theorem witness_StreamInstructions : (issueState .F).issueWin 0 .F = none ∧ (issueState .F).mayIssue 0 .F 0 false 0 = true
    ∧ okIs ((issueState .F).takeDesc 0 .F none 0 64) (List.replicate 8 0) = true ∧ checkStream (List.replicate 8 0) 0 = none
    ∧ ((issueState .F).slotsOf 0 .F false).length < (issueState .F).slotQuota 0 .F false ∧ ((issueState .F).slot 0 false 0).state = .idle
    ∧ ((strSlot { Slot.reset with state := .running, holder := some .F }).slot 0 false 0).holder = some .F
    ∧ ((strSlot { Slot.reset with state := .done, holder := some .F }).slot 0 false 0).state = .done
    ∧ okE ((issueState .F).checkGather 0 .F none (List.replicate 8 0)) = true ∧ ((issueState .F).slotsOf 0 .F true).length < (issueState .F).slotQuota 0 .F true
    ∧ ((issueState .F).core 0).gthQ.length < 16 ∧ okIs (xrState.takeDesc 0 .F none 0x1000 32) [0, 0, 0, 0x10000] = true ∧ okE (xrState.checkXr 0 .F none [0, 0, 0, 0x10000]) = true
    ∧ ((issueState .F).setAct (Reg.SEQ_QUOTA 0) 0).slotQuota 0 .F false = 0 ∧ Slot.reset.tags < 2 ^ 13 := by decide +kernel

/-- A store program of END alone in the CODE region. -/
theorem witness_EngineArming : (let s := strSlot { Slot.reset with state := .armed, cur := rearm0 }
      let z := s.slot 0 false 0
      z.state = .armed ∧ z.prog = [] ∧ okIs ((s.asIssued 0 z.cur).readProg 0 .F none 0 16 0) [⟨0, 0⟩] = true ∧ progOk [⟨0, 0⟩] = true ∧ s.gateOpen z = true ∧ s.coreHeld 0 = false
        ∧ (s.ctx z.cur.org.ctx).state = .running)
    ∧ progOk [⟨0x2000000000000000, 0⟩, ⟨0, 0⟩] = false
    ∧ (let s := (gthSlot { Slot.reset with state := .armed }).modCore 0 (fun k => { k with gthQ := [.gather 0] })
       (s.core 0).gthQ = .gather 0 :: [] ∧ (s.slot 0 true 0).state = .armed ∧ s.coreHeld 0 = false) := by decide +kernel
/-- The word at the program counter is a TSTREAM, whose descriptor is read ahead. -/
def aheadState : State := (issueState .F).modCore 0 (fun k => { k with store := Mem.writeN k.store 0 (0x50 * 2 ^ 56) 8 })
theorem witness_EngineArming_ahead : (aheadState.core 0).ctx.isSome = true ∧ (aheadState.seq 0 .F).state = .run ∧ (aheadState.seq 0 .F).ahead = none ∧ (aheadState.seq 0 .F).sst = []
    ∧ (match aheadState.scanAhead 0 .F (aheadState.seq 0 .F).pc (aheadState.issueWin 0 .F) [] 256 with
       | some (w, _, win, u) => descSize w == some 64 && okE (u.readDesc 0 .F win (descOff (aheadState.seq 0 .F) ((w >>> 47).setWidth 5) (descDoff w)) 64)
       | none => false) = true := by decide +kernel

/-- A HOST window of partition 0 at address 0, whose first page ATS has cached. -/
def hostWin (s : State) : State := { withRegs s [(Reg.MEM_WIN_SIZE 0, 0x1000), (Reg.MEM_WIN_ATTR 0, 0x80030000)] with atc := [⟨0, 0, 0⟩] }
def req0 (st : ReqState) : LineReq := ⟨0, 0, 0, .hbm 0, false, 0, [⟨0, 64, .lin 0x10000, 0⟩], GenPos.start, [], st⟩
def genState : State := hostWin (gthSlot { Slot.reset with state := .running, cur := rearm0 })
theorem witness_LineGeneration : (0 : Nat) = (31 + 1) % slotCount false ∧ (((gthSlot { Slot.reset with state := .running }).slot 0 true 0).reqs.filter (fun r => r.st = .window)).length ≤ 8
    ∧ (genState.translate (.core 0) 0 0 false).2 = .at_ (.host 0) false
    ∧ (let z := genState.slot 0 true 0
       z.cur.org.win = none ∧ okIs ((genState.asIssued 0 z.cur).specAddr 0 0 none z.isStore 0) 0 = true)
    ∧ ({ Slot.reset with reqs := [req0 .window], next := 1 } : Slot).reqs = [] ++ [req0 .window] ∧ (req0 .window).n + 1 = 1 ∧ (req0 .served).st ≠ .window := by decide +kernel
theorem witness_LineGeneration_one : ((gthSlot { Slot.reset with state := .running, cur := rearm0 }).genOne 0 true 0).2 = .stopped
    ∧ ((hostWin (strSlot { Slot.reset with state := .running, cur := ⟨[0, 0, 0x10000, 0, 0, 0, 0, 0], 0, org0 .F false, none, [], []⟩, prog := [⟨0x3000000000000100, 0⟩, ⟨0, 0⟩] })).genOne 0 false 0).2 = .produced := by decide +kernel

def served (z : Slot) : State := (issueState .F).setSlot 0 false 1 z
theorem witness_LineService : (0 + 1) % slotCount false = 1
    ∧ (let s := served { Slot.reset with state := .running, holder := some .F, cur := rearm0, reqs := [req0 .window], next := 1 }
       ((s.eligible 0 false (s.slot 0 false 1)).map (·.n)) = some 0 ∧ s.fld (Reg.STR_CFG 0) 0 0 = 0 ∧ s.coreHeld 0 = false ∧ s.allEnded 0 = false)
    ∧ (let s := served { Slot.reset with state := .running, cur := rearm0, reqs := [req0 .sent], next := 1 }
       (((s.slot 0 false 1).toServe 0).map (·.place)) = some (.hbm 0) ∧ (s.row (s.cell 0).rowKey).copying = false ∧ (s.slot 0 false 1).isStore = false)
    ∧ ({ Slot.reset with cur := ⟨[0x4000000000000000, 0, 0, 0, 0, 0, 0, 0], 0, org0 .F false, none, [], []⟩ } : Slot).isStore = true
    ∧ (let z : Slot := { Slot.reset with state := .running, cur := rearm0, reqs := [req0 .served], next := 1 }
       (z.reqs.find? (fun y => y.n = 0)) = some (req0 .served) ∧ z.bad = none ∧ (req0 .served).pieces = [⟨0, 64, .lin 0x10000, 0⟩] ∧ 1 < slotCount false) := by decide +kernel

theorem witness_HaltedSlots : svc.inService = true ∧ svc.writeAhead (Reg.STR_RESUME 0) = false ∧ svc.writeAhead (Reg.GTH_RESUME 0) = false ∧ svc.psc.ahead = false ∧ ((1 <<< 31 : W32)).getLsbD 31 = true
    ∧ (let s := strSlot { Slot.reset with state := .halted, cur := rearm0, prg := true }
       (s.slot 0 false 0).state = .halted ∧ (s.slot 0 false 0).bad = none ∧ (s.slot 0 false 0).lost = false ∧ (s.slot 0 false 0).reqs = []
         ∧ (s.ctx (s.slot 0 false 0).cur.org.ctx).state = .running ∧ s.inService = true ∧ s.allEnded 0 = false ∧ s.writeAhead (Reg.STR_RESUME 0) = false)
    ∧ (let s := gthSlot { Slot.reset with state := .halted, cur := rearm0, prg := true }
       (s.slot 0 true 0).state = .halted ∧ s.inService = true ∧ s.writeAhead (Reg.GTH_RESUME 0) = false)
    ∧ (let s := xrState.modCore 0 (fun k => { k with gthQ := [.xrcheck [0, 0, 1, 0x10000] (org0 .F false)] })
       (s.core 0).gthQ = .xrcheck [0, 0, 1, 0x10000] (org0 .F false) :: [] ∧ wbits [0, 0, 1, 0x10000] 2 31 0 < 2 ^ 32) := by decide +kernel

/-! ### The row engine, speculation and the stash -/

def rowCmd (op : RowOp) (d : List W64) : RowCmd := ⟨op, d, org0 .F false⟩
def rowState (op : RowOp) (d : List W64) : State := (issueState .F).modCore 0 (fun k => { k with rowQ := [rowCmd op d] })
/-- One row of one element. -/
def row1 : List W64 := [0, 0, 0, 0, 0x0000000001000001, 0, 0, 0]
theorem witness_RowInstructions : (issueState .F).mayIssue 0 .F 0 false 0 = true ∧ (efw 0 0).xf = 0 ∧ okIs ((issueState .F).takeDesc 0 .F none 0 64) (List.replicate 8 0) = true
    ∧ ((issueState .F).core 0).rowQ.length < 16 ∧ (issueState .F).arbiter 0 .row .F = some .F
    ∧ okE ((issueState .F).checkRow 0 .F none .norm (List.replicate 8 0)) = true ∧ (issueState .F).issueWin 0 .F = none
    ∧ okE ((issueState .F).checkRow 0 .F none .norm (List.replicate 8 0xFFFFFFFFFFFFFFFF)) = false := by decide +kernel
theorem witness_RowCommands : ((rowState .norm (List.replicate 8 0)).core 0).rowQ = rowCmd .norm (List.replicate 8 0) :: []
    ∧ ((rowState .norm (List.replicate 8 0)).ctx (rowCmd .norm []).org.ctx).state = .running ∧ (rowCmd .norm []).org.hv = false ∧ (rowDesc (List.replicate 8 0)).rows = 0
    ∧ (rowDesc row1).rows ≠ 0 ∧ (rowDesc row1).len ≠ 0 ∧ (∀ e ∈ ((rowState .normB row1).core 0).stats, (rowCmd .normB row1).isKey 0 e = false)
    ∧ ((0x7F800001 : W32).setWidth 31).toNat > 0x7F800000 ∧ (0x80000000 : W32).msb = true ∧ 0 < (1 : W32).toNat ∧ some (0x7FC00000 : W32) ∈ [none, some 0x7FC00000] := by
  decide +kernel

/-- Region 2 is the SHADOW of the DATA region for window 0, and region 3 a STASH region with a quota of one page. -/
def specRegions : State := withRegs (issueState .F) [(Reg.STORE_BASE 0 2, 2), (Reg.STORE_SIZE 0 2, 1), (Reg.STORE_ATTR 0 2, 0x40010000),
  (Reg.STORE_BASE 0 3, 3), (Reg.STORE_SIZE 0 3, 1), (Reg.STORE_ATTR 0 3, 0x300001FF), (Reg.STORE_STASH 0, 1)]
def winState (f : Win → Win) : State := specRegions.modWin 0 0 f
theorem witness_SpeculationWindows : specRegions.mayIssue 0 .F 0 false 0 = true ∧ (ctw 0 0 8).zero = 0 ∧ (0 + ((8 : BitVec 32).signExtend 64).setWidth 30 : Off).toNat % 8 = 0
    ∧ specRegions.hasShadow 0 0 0 = true ∧ (specRegions.win 0 0).state = .closed ∧ (specRegions.win 0 0).discarding = false
    ∧ ((winState (fun w => { w with state := .open_ })).win 0 0).state = .open_ ∧ (ctw 0 0 0).d = 0 ∧ (ctw 0 0 0).a = 0 ∧ (ctw 0 0 0).imm = 0
    ∧ ((winState (fun w => { w with state := .commitPending })).win 0 0).state = .commitPending
    ∧ (winState (fun w => { w with state := .open_ })).mayIssue 0 .F 0 false 0 = true
    ∧ (let s := winState (fun w => { w with state := .committing })
       (s.core 0).ctx = some 0 ∧ (s.ctx 0).state = .running ∧ (s.win 0 0).state = .committing ∧ (s.core 0).winBusy 0 = false)
    ∧ (let s := winState (fun w => { w with discarding := true })
       (s.win 0 0).discarding = true ∧ (s.seq 0 .F).harm = none ∧ (s.seq 0 .F).state ≠ .ended) := by decide +kernel

def key0 (st : StashState) : StashKey := ⟨7, 0, 0, 0, 0, 0, st, 1, [48], [], false, none, org0 .F false⟩
/-- The descriptor of one unit of 64 bytes at offset 0 of the CODE region, or of the DATA region. -/
def stashDesc (s : State) (off : Nat) : State := s.modCore 0 (fun k => { k with store := Mem.writeN k.store 0x1000 (0x40000000 + off) 8 })
def withKey (q : SeqId) (ks : List StashKey) : State := (stashDesc (issueState q) 0x10000).modCore 0 (fun k => { k with stash := ks })
theorem witness_StashKeys_place : (let s := stashDesc specRegions 0
      s.mayIssue 0 .F 0 false 0 = true ∧ okIs (s.takeDesc 0 .F none 0x1000 16) [0x40000000, 0] = true ∧ zeroBits [0x40000000, 0] [(0, 63, 55), (1, 63, 32)] = true
        ∧ wbits [0x40000000, 0] 0 29 0 % 64 = 0 ∧ s.issueWin 0 .F = none ∧ okIs (s.access 0 .F none .read 0 64) 0 = true
        ∧ (s.core 0).findKey (org0 .F false) [0x40000000, 0] = none ∧ (s.core 0).keyOf (s.core 0).stashUid = none ∧ (s.core 0).stash.length < 8192 ∧ wbits [0x40000000, 0] 0 53 30 = 1 ∧ (s.storeRoom 0 0 none (pagesOf 1)).isSome = true) := by decide +kernel
/-- A copy between the tensor of key0 and 0x10000. -/
def op0 (isRecall : Bool) (pages src : List Nat) : StashOp := ⟨7, isRecall, 0x10000, 1, org0 .B false, 1, pages, [], src, []⟩
def withOp (a : StashOp) (ks : List StashKey) : State := (withKey .B ks).modCore 0 (fun k => { k with stashOps := [a] })
theorem witness_StashKeys : (withKey .B [key0 .store]).mayIssue 0 .B 0 false 0 = true
    ∧ okIs ((withKey .B [key0 .store]).takeDesc 0 .B none 0x1000 16) [0x40010000, 0] = true ∧ zeroBits [0x40010000, 0] [(0, 63, 54), (1, 63, 32)] = true
    ∧ (efw 7 0).xf.toNat < 8 ∧ (efw 7 0).xf ≠ 0 ∧ okIs ((withKey .B []).access 0 .B none .write 0x10000 64) 0x10000 = true
    ∧ ((withKey .B [key0 .store]).core 0).findKey ((withKey .B []).originE 0 .B 0 false 0 0) [0x40010000, 0] = some (key0 .store)
    ∧ ((withKey .B []).core 0).findKey ((withKey .B []).originE 0 .B 0 false 0 0) [0x40010000, 0] = none ∧ (key0 .store).len ≠ 0 ∧ (key0 .store).state ≠ .dropped
    ∧ ((withKey .B [key0 .store]).core 0).keyOf (key0 .store).uid = some (key0 .store)
    ∧ (let s := withOp (op0 false [48] []) [key0 .store]
       s.allEnded 0 = false ∧ (op0 false [48] []).org.hv = false ∧ (s.ctx 0).state = .running ∧ (op0 false [48] []).waits.any (s.core 0).isMoving = false
         ∧ (s.core 0).pagesBusy 7 [48] = false ∧ (s.core 0).copyWanted (op0 false [48] []) = true ∧ (op0 false [48] []).src = [])
    ∧ (op0 true [48] []).len = (op0 true [48] []).keyLen ∧ ({ op0 true [48] [] with keyLen := 2 } : StashOp).len ≠ 2
    ∧ (let s := withKey .B [{ key0 .moving with hpages := [0] }]
       (s.core 0).stash.find? (fun e => e.state = .moving) = some { key0 .moving with hpages := [0] } ∧ (s.core 0).stashOps = [] ∧ (s.core 0).pagesBusy 7 [48] = false)
    ∧ (let s := ((issueState .F).modCore 0 (fun k => { k with stallAt := some 0 })).modSeq 0 .F (fun z => { z with stalled := true })
       (s.core 0).stallAt = some 0 ∧ (0 : W64).toNat + s.exhaustNs 0 ≤ (0xFFFFFFFFFFFFFFFF : W64).toNat ∧ (s.seq 0 .F).stalled = true ∧ (s.ctx 0).state = .running) := by
  decide +kernel
/-- A spill of one page into the HBM stash region, which a HOST window holds. -/
theorem witness_StashKeys_spill : (let s := hostWin (withKey .B [{ key0 .moving with hpages := [0] }])
      [0].map (s.stashVa 0 0 none) = [0] ∧ s.copyHeld 0 7 0 [0] true 64 = false ∧ (s.hbmPut 0 0 [0] (pageBytes (s.core 0).store [48] 64)).2 = none)
    ∧ (let s := hostWin (withOp (op0 true [] [0]) [])
       (op0 true [] [0]).src ≠ [] ∧ s.copyHeld 0 7 0 [0] false 64 = false ∧ okE ((s.modCore 0 (fun z => { z with stashOps := [] })).hbmGet 0 0 [0] 64).2 = true) := by
  decide +kernel

/-! ### The U class -/

/-- SEQ-U of core 0 runs a context that its relay engine knows, with a descriptor at 0x1000 and a record in host memory at 0. -/
def uState (d : List Nat) (rec0 : Nat) : State :=
  let s := hostWin (withRegs (issueState .U) [(Reg.REL_CTX 0 0, 0x80000000)])
  let s := s.modCore 0 (fun k => { k with store := (List.range 8).foldl (fun m i => Mem.writeN m (0x1000 + 8 * i) ((d[i]?).getD 0) 8) k.store })
  { s with host := Mem.writeN s.host 0 rec0 8 }
def uDesc (d : List Nat) : List W64 := d.map (BitVec.ofNat 64)
def ugradD : List Nat := [0, 0, 1, 0, 0, 0, 0, 0]
def usignD : List Nat := [1, 0, 0, 0, 0, 0, 0, 0]
def ustepD : List Nat := [2 ^ 62, 0, 0, 0, 0, 0, 0, 0]
/-- 4,096 parameters, E4M3, K 128. -/
def applyD : List Nat := [3 * 2 ^ 56 + 4096, 128, 0, 0, 0, 0, 0, 0]
def verdictD : List Nat := [2 ^ 63, 0, 0, 0, 0, 0, 0, 0x10000]
def gen0 : GenEntry := ⟨0, 0, 0, 0, false, false⟩
def withGen (s : State) : State := s.modCore 0 (fun k => { k with gens := [gen0] })
theorem witness_UpdateInstructions : (let s := uState ugradD 0
      s.mayIssue 0 .U 0 false 0 = true ∧ s.relValid 0 0 = true ∧ okIs (s.takeDesc 0 .U none 0x1000 64) (uDesc ugradD) = true ∧ wbits (uDesc ugradD) 2 31 0 ≠ 0
        ∧ zeroBits (uDesc ugradD) [(0, 61, 48), (0, 31, 30), (2, 63, 48), (3, 63, 57), (4, 63, 32), (5, 63, 56), (5, 42, 0), (6, 63, 0), (7, 63, 0)] = true
        ∧ okE (s.access 0 .U none .read 0 4) = true
        ∧ (∀ v ∈ (s.core 0).uops, v.checked = none → ∃ k ∈ (s.rel 0).cmds, k.id = v.relay))
    ∧ usignZero (uDesc usignD) = true ∧ wbits (uDesc usignD) 0 31 0 ≠ 0 ∧ wbits (uDesc usignD) 0 63 62 = 0 ∧ usignZero (uDesc ustepD) = true ∧ wbits (uDesc ustepD) 0 63 62 = 1
    ∧ (let s := withGen (uState applyD 4096)
       uCount (uDesc applyD) ≠ 0 ∧ uShapeOk (uDesc applyD) = true ∧ (s.core 0).gen 0 (uLayer (uDesc applyD)) = some gen0
         ∧ zeroBits (uDesc applyD) [(0, 63, 59), (0, 53, 48), (1, 63, 48), (2, 63, 32), (3, 63, 57), (5, 63, 57), (6, 63, 57), (7, 63, 57)] = true
         ∧ (let h := s.devRead (.core 0) 0 0 (uRecord (uDesc applyD))
            h.1.relValid 0 0 = true ∧ (match h.2 with
              | .ok bs => decide (recBits bs 0 31 0 = shardLen 4096 (2 ^ (dimsOf (uDims (uDesc applyD))).length) (rankOf s.pkg (uDims (uDesc applyD))) ∧ recBits bs 1 47 32 = 0
                  ∧ recBits bs 1 31 0 = uStep (uDesc applyD) ∧ recBits bs 0 47 32 = 0 ∧ recBits bs 3 1 0 ≠ 3)
              | .error _ => false) = true))
    ∧ upubZero (uDesc applyD) false = true ∧ ((uState applyD 0).core 0).gen 0 0 = none ∧ ((uState applyD 0).core 0).genRoom = some 0
    ∧ (let s := uState verdictD 0
       upubZero (uDesc verdictD) true = true ∧ wbits (uDesc verdictD) 7 29 0 % 8 = 0 ∧ okE (s.access 0 .U none .write 0x10000 8) = true
         ∧ (let h := s.devRead (.core 0) 0 0 64
            h.1.relValid 0 0 = true ∧ okE h.2 = true))
    ∧ (let s := (withGen (uState applyD 0)).addU 0 ⟨.apply, uDesc applyD, 0, false, org0 .U false, 0, 0, some (0, []), false⟩
       ((s.core 0).uops.find? (fun u => u.checked.isSome)).isSome = true ∧ (s.core 0).genRefs gen0 1 = 0) := by decide +kernel
/-- UPUB PUBLISH with a descriptor for masters that no window holds, and with a generation table entry both of whose generations the stash
references. -/
def busyGens (s : State) : State := (withGen s).modCore 0 (fun k => { k with stash := [key0 .store, { key0 .store with uid := 8, gen := 0xFFFF }] })
theorem witness_UpdateInstructions_publish : ((uState applyD 0).publish (org0 .U false) (uDesc applyD) 0 0 false).2 = none
    ∧ ((uState applyD 0).publish (org0 .U false) (uDesc applyD) (2 ^ 40) 0 false).2 = some (2 ^ 40)
    ∧ (let s := busyGens (uState applyD 0)
       (s.core 0).gen 0 0 = some gen0 ∧ (s.core 0).genRefs gen0 0 ≠ 0 ∧ (s.core 0).genRefs gen0 1 ≠ 0 ∧ (s.seq 0 .U).genStall = false)
    ∧ ((withGen (uState applyD 0)).core 0).genRefs gen0 0 = 0 := by decide +kernel
/-- Accesses of SEQ-U that are refused: a record, and the plane's masters; and a plane that is exported. -/
theorem witness_UpdateInstructions_refused : (match ((withGen (uState applyD 0)).devRead (.core 0) 0 (2 ^ 40) 64).2 with | .error va => decide (va = 2 ^ 40) | .ok _ => false) = true
    ∧ okE ((uState usignD 0).exportPlane (org0 .U false) (uDesc usignD) 0) = true ∧ okE ((uState usignD 0).exportPlane (org0 .U false) (uDesc usignD) (2 ^ 40)) = false := by
  decide +kernel
/-- R298, R304: a plane of the signs of −1, +1, −0 and −2 has bits 0 and 3. -/
theorem test_sign_plane : signPlane [0xBF800000, 0x3F800000, 0x80000000, 0xC0000000] 1 = [0x09] := by decide +kernel

/-! ### Memory and links -/

theorem witness_LineWriteReadsBack : (∀ e ∈ svc.buf, (e.bytes.map (·.1)).Nodup ∧ ∀ b ∈ e.bytes, b.1 < 256) ∧ ([(0, 1), (255, 2)] : List (Nat × Byte)).map (·.1) = [0, 255]
    ∧ (([(0, 1), (255, 2)] : List (Nat × Byte)).map (·.1)).Nodup ∧ (svc.row (svc.cell 0).rowKey).st ≠ .retired
    ∧ ((svc.setRow (svc.cell 0).rowKey ⟨.retired, 0, false⟩).row (svc.cell 0).rowKey).st = .retired := by decide +kernel
def dirtyState : State := { svc with buf := [⟨3, [(0, 1)], true, false⟩, ⟨4, [(255, 2)], true, true⟩], flushing := true }
theorem witness_WriteBackIsInvisible : (∀ e ∈ dirtyState.buf, (e.bytes.map (·.1)).Nodup ∧ ∀ b ∈ e.bytes, b.1 < 256) ∧ dirtyState.buf.Pairwise (fun a b => a.line ≠ b.line)
    ∧ dirtyState.buf.find? (fun e => e.line = 3) = some ⟨3, [(0, 1)], true, false⟩ ∧ (dirtyState.row (dirtyState.cell 768).rowKey).st = .good
    ∧ dirtyState.flushing = true := by decide +kernel
theorem test_write_then_read : ((svc.lineWrite 0 false 0 [(0, 7), (255, 9)] unitOther).lineNow 0)[255]? = some 9
    ∧ ((svc.lineWrite 0 false 0 [(0, 7), (255, 9)] unitOther).lineNow 0)[1]? = some 0 := by decide +kernel
def scrubState : State := withRegs svc [(Reg.MEM_LIMIT_LO, 0x80000000)]
theorem witness_MemoryCommands : scrubState.fld Reg.MEM_CFG 31 24 ≠ 0 ∧ 256 < memLimit scrubState ∧ scrubState.isPoisoned 256 = false
    ∧ (scrubState.row (scrubState.cell 256).rowKey).ce + 1 < max 1 (scrubState.fld Reg.MEM_CFG 23 20)
    ∧ ((svc.setRow (svc.cell 0).rowKey ⟨.soft, 0, true⟩).row (svc.cell 0).rowKey).copying = true ∧ (svc.row (svc.cell 0).rowKey).st = .good ∧ svc.inService = true
    ∧ svc.writeAhead Reg.MEM_INVAL_HI = false ∧ svc.writeAhead Reg.MEM_FLUSH = false ∧ ({ svc with inval := [⟨0, 0, 2, none⟩] } : State).invalBusy ⟨0, 0, 2, none⟩ = false ∧ (1 : W32).getLsbD 0 = true := by decide +kernel

/-- Port 0 carries dimension 0 in a state, with the credits of R324. -/
def linkState (st : Nat) : State :=
  ((withRegs svc [(Reg.LNK_PORTMAP 0, 0x10)]).setPortState 0 st).modPort 0 (fun x => { x with credit := vcBuffer })
def msg0 : Msg := ⟨1, 0, 0, 0, .arrive 0x015 0⟩
def head0 (seq : BitVec 12) : FlitHead := ⟨true, 0, 0, seq, 0, false, Vector.replicate 4 0⟩
theorem witness_FlitsSent : (linkState 3).shutterOpen 0 = true ∧ (linkState 7).shutterOpen 0 = false ∧ ((linkState 7).port 0).unseq = [] ∧ (linkState 1).shutterOpen 0 = true
    ∧ (let s := (linkState 3).modPort 0 (fun x => { x with ctrl := [.opened], hctlAgo := 8 })
       (s.port 0).ctrl = .opened :: [] ∧ 0 < vget (s.port 0).credit vcHctl ∧ (s.port 0).retry.length < 2048 ∧ 8 ≤ (s.port 0).hctlAgo)
    ∧ (((linkState 3).modPort 0 (fun x => { x with unseq := [.idle true] })).port 0).unseq = .idle true :: [] ∧ (linkState 1).portState 0 = stTraining
    ∧ ((linkState 3).port 0).unseq = [] ∧ ((linkState 3).port 0).halted = false ∧ (linkState 3).linked 0 = true ∧ ((linkState 3).port 0).retry = [] ∧ ((linkState 3).port 0).ctrl = []
    ∧ (let s := ((linkState 3).modDim 0 (fun q => { q with out := vset q.out vcHctl [msg0] })).modPort 0 (fun x => { x with hctlAgo := 8 })
       s.vcEligible 0 vcHctl = true ∧ 8 ≤ (s.port 0).hctlAgo)
    ∧ (∀ v : Fin 4, (linkState 3).vcEligible 0 v = false) := by decide +kernel
def pkg1 (st : Nat) : State := withRegs (linkState st) [(Reg.LNK_PKGID, 1)]
theorem witness_FlitsSent_time : (linkState 3).isRoot = true ∧ (pkg1 0).isRoot = false ∧ (pkg1 0).syncPort = none ∧ (pkg1 3).syncPort = some 0 ∧ (pkg1 3).isRoot = false := by
  decide +kernel
theorem witness_FlitsReceived : (head0 0).plain = true ∧ (linkState 3).timed 0 = true ∧ (linkState 3).linked 0 = true ∧ (head0 0).seq = ((linkState 3).port 0).rx + 1
    ∧ (head0 5).seq ≠ ((linkState 3).port 0).rx + 1 ∧ (linkState 3).portState 0 = stUp ∧ (linkState 2).portState 0 ≠ stUp ∧ msg0.body = .arrive 0x015 0 ∧ (linkState 3).portDim 0 = some 0 ∧ ((linkState 3).dim 0).hold = []
    ∧ ({ msg0 with dst := 0 } : Msg).dst = (linkState 3).pkg ∧ (linkState 2).portState 0 = stFenced ∧ (linkState 2).linked 0 = true
    ∧ (let s := (pkg1 3).setFld Reg.GLB_STATUS 3 0 6
       s.isRoot = false ∧ s.syncPort = some 0 ∧ s.released = false ∧ s.psc.resync = false ∧ s.timed 0 = true)
    ∧ ((linkState 3).port 0).loss = none ∧ (linkState 1).portState 0 = stTraining ∧ (linkState 1).portDim 0 = some 0
    ∧ (1 : BitVec 16) = (linkState 1).pkg ^^^ BitVec.ofNat 16 (2 ^ 0) := by decide +kernel
/-- Port 0 with its spare lanes set, at full width. -/
def sparedState : State := (((linkState 3).setFld (Reg.LNK_STATUS 0) 15 8 255).setFld (Reg.LNK_STATUS 0) 27 24 8)
theorem witness_PortLife_lanes : (∀ f : Fin 8, bit (sparedState.act (Reg.LNK_STATUS 0)).toNat (8 + f.val) = true) ∧ sparedState.timed 0 = true
    ∧ (∀ l : Fin 8, (sparedState.port 0).txOut.getLsbD l = false) ∧ 4 < sparedState.fld (Reg.LNK_STATUS 0) 27 24 ∧ (0x044C : BitVec 16) ≠ 0x8000 ∧ (0x044C : BitVec 16).toInt < 1200
    ∧ (∀ f : Fin 8, bit ((linkState 3).act (Reg.LNK_STATUS 0)).toNat f = false) ∧ (linkState 3).timed 0 = true := by decide +kernel
theorem witness_PortLife_times : (let s := (linkState 1).modPort 0 (fun x => { x with trainAt := 5 })
      s.portState 0 = stTraining ∧ (s.port 0).trainFail = false ∧ (s.port 0).trainAt.toNat + s.fld Reg.LNK_CFG 31 20 * 1000000 ≤ (60000000005 : W64).toNat
        ∧ (s.port 0).trainAt.toNat + 1000000000 ≤ (1000000005 : W64).toNat)
    ∧ ((linkState 1).darkWaves 0).length = 0 ∧ (linkState 1).inStart = false ∧ (svc.setAct Reg.GLB_STATUS 0x40000003).inStart = true := by decide +kernel
theorem witness_PortLife : (linkState 3).linked 0 = true ∧ ((linkState 3).port 0).loss = none ∧ (((linkState 3).modPort 0 (fun x => { x with down := 256 })).port 0).down = 256
    ∧ (((linkState 3).modPort 0 (fun x => { x with loss := some 15 })).port 0).loss = some 15 ∧ (linkState 3).companion 0 = none
    ∧ (((withRegs (linkState 3) [(Reg.LNK_PORTMAP 1, 0x10)]).setPortState 1 3).companion 0) = some 1
    ∧ (linkState 4).portState 0 = stShed ∧ (((linkState 1).modPort 0 (fun x => { x with identOk := true })).port 0).identOk = true ∧ (linkState 1).portState 0 = stTraining
    ∧ 4 ≤ (4 : Fin 9).val ∧ (((linkState 1).modPort 0 (fun x => { x with trainFail := true })).port 0).trainFail = true ∧ ((linkState 1).port 0).trainFail = false
    ∧ bit ((linkState 3).act (Reg.LNK_STATUS 0)).toNat 15 = false ∧ (let s := (linkState 3).setFld (Reg.LNK_STATUS 0) 27 24 8
      s.fld (Reg.LNK_STATUS 0) 27 24 = 8 ∧ s.timed 0 = true)
    ∧ (linkState 3).fld (Reg.LNK_STATUS 0) 27 24 ≤ 4 ∧ (linkState 5).inService = true ∧ (linkState 5).portState 0 = stLost ∧ (linkState 5).fld Reg.GNT_STATUS 31 30 ≠ 2 ∧ (linkState 5).usableUnit 24 = true
    ∧ (linkState 2).portState 0 = stFenced ∧ ((linkState 2).port 0).openSent = false ∧ Ctrl.opened ∉ ((linkState 2).port 0).ctrl ∧ (linkState 5).writeAhead (Reg.LNK_CTL 0) = false ∧ (linkState 3).portState 0 ≠ stDisabled ∧ (linkState 3).portState 0 ≠ stOff := by decide +kernel

def inboxState (b : MsgBody) (w : List (Nat × W32)) : State := { withRegs (linkState 3) w with inbox := [⟨some 0, vcDisp, ⟨0, 1, 7, 0, b⟩⟩] }
def inWin : List (Nat × W32) := [(Reg.MEM_WIN_SIZE 0, 1), (Reg.MEM_WIN_ATTR 0, 0xA0030000)]
def owed (b : MsgBody) : State := { inboxState b [] with outReq := [⟨7, 1, 0, .line 0 false 0 0, none⟩] }
theorem witness_LinkMessages : ((inboxState (.rdReq 0) inWin).takeMsg 0).isSome = true ∧ (inboxState (.rdReq 0) inWin).inbound 1 0 false = some 0
    ∧ (inboxState (.rdReq 0) inWin).isPoisoned 0 = false ∧ (inboxState (.rdReq 0) []).inbound 1 0 false = none ∧ (inboxState (.wr 0 []) inWin).inbound 1 0 true = some 0
    ∧ ((owed .wrAck).takeMsg 0).isSome = true ∧ (((owed .wrAck).outReq.find? (fun r => r.tag = 7)).map (·.who)) = some (.line 0 false 0 0)
    ∧ ((linkState 3).dimPorts (Fin.ofNat 16 0)).head? = some 0 := by decide +kernel


/-! ### Relay engines -/

theorem witness_ShardsCover : (0 : Nat) < 1 ∧ (0 : Nat) < 65536 ∧ shardLen 5000 2 0 = 4096 ∧ shardLen 5000 2 1 = 904 ∧ shardLen 2048 2 1 = 0 := by decide +kernel
def scat (dims : BitVec 16) : RelCmd := { RelCmd.blank 0 opScatter (.posted 0 0x10000) 0 with dims := dims, len := 4096 }
theorem witness_RelaySteps : (dimsOf (scat 0x8001).dims)[(scat 0x8001).stepOf 1]? = some 15 ∧ (dimsOf (scat 0x8001).dims)[(scat 0x8001).stepOf 0]? = some 0
    ∧ (0 : Nat) < 2 ^ 0 ∧ (7 : Nat) < 2 ^ 3 ∧ (RelCmd.blank 0 opVote (.internal (org0 .U false)) 0).op = opVote ∧ (RelCmd.blank 0 opNorm (.internal (org0 .U false)) 0).op = opNorm := by
  decide +kernel
/-- Queue 0 of context 0 on die 0: a ring of 64 entries at 0x10000 of the core store, in a region of the context. -/
def ringState (op seq : Nat) : State :=
  let s := withRegs (issueState .F) [(Reg.REL_CTX 0 0, 0x80000009), (Reg.REL_Q_BASE 0 0 0, 0x60000001)]
  s.modCore 0 (fun k => { k with store := Mem.writeN (Mem.writeN k.store 0x10000 (op * 2 ^ 56) 8) 0x10038 seq 8 })
def kicked (s : State) : State := { s with kicks := [(0, 0, 0)] }
def polled (n : Nat) : State := (ringState 0 0).modRel 0 (fun r => { r with polls := [(0, 0, n)] })
theorem witness_RelayQueues : (kicked (ringState 0 0)).kicks = (0, 0, 0) :: [] ∧ (ringState 0 0).ringOwned 0 0 0 = true ∧ (ringState 0 0).act (Reg.REL_Q_HEAD 0 0 0) = 0
    ∧ (let w := Mem.words ((ringState 0 0).core 0).store 0x10000 8
       wbits w 7 31 0 ≠ 1)
    ∧ (let w := Mem.words ((ringState 1 1).core 0).store 0x10000 8
       wbits w 7 31 0 = 1 ∧ postedOk w = true ∧ wbits (Mem.words ((ringState 1 1).core 0).store 0x10040 8) 7 31 0 ≠ 2 ∧ (ringState 1 1).relValid 0 0 = true)
    ∧ (polled 14).ringOwned 0 0 0 = true ∧ ((polled 15).setAct (Reg.STORE_ATTR 0 1) 0).ringOwned 0 0 0 = false
    ∧ ((polled 15).rel 0).polls.find? (fun p => p.1 = 0 && p.2.1 = 0) = some (0, 0, 15) ∧ ((polled 14).rel 0).polls.find? (fun p => p.1 = 0 && p.2.1 = 0) = some (0, 0, 14) := by
  decide +kernel
def relCmdOf (op : Nat) (f : RelCmd → RelCmd) : RelCmd := f { RelCmd.blank 3 op (.posted 0 0x10000) 0 with dims := 1, len := 4096 }
def relState (op : Nat) (f : RelCmd → RelCmd) (w : List (Nat × W32)) : State :=
  (withRegs svc ([(Reg.REL_CTX 0 0, 0x80000009)] ++ w)).modRel 0 (fun r => { r with next := 4, cmds := [relCmdOf op f] })
def begun (c : RelCmd) : RelCmd := { c with started := true }
theorem witness_RelayTurns : svc.relHeld = false ∧ (let s := relState opScatter (fun c => { c with len := 0 }) []
      ((s.rel 0).cmds.filter (·.started)).length < 16 ∧ nextInTurn (s.rel 0).rot ((s.rel 0).heads.filter (s.startable 0)) = some (relCmdOf opScatter (fun c => { c with len := 0 }))
        ∧ (relCmdOf opScatter (fun c => { c with len := 0 })).empty = true ∧ s.relValid 0 0 = true)
    ∧ (let s := relState opScatter id []
       nextInTurn (s.rel 0).rot ((s.rel 0).heads.filter (s.startable 0)) = some (relCmdOf opScatter id) ∧ (relCmdOf opScatter id).empty = false
         ∧ s.fld (Reg.REL_WORK_SIZE 0 0) 15 0 < (relCmdOf opScatter id).need)
    ∧ (let s := relState opScatter id [(Reg.REL_WORK_SIZE 0 0, 1)]
       nextInTurn (s.rel 0).rot ((s.rel 0).heads.filter (s.startable 0)) = some (relCmdOf opScatter id)
         ∧ (relCmdOf opScatter id).need ≤ s.fld (Reg.REL_WORK_SIZE 0 0) 15 0)
    ∧ (let s := relState opScatter id [(Reg.REL_CTX 0 0, 0)]
       nextInTurn (s.rel 0).rot ((s.rel 0).heads.filter (s.startable 0)) = some (relCmdOf opScatter id) ∧ s.relValid 0 0 = false)
    ∧ (∀ op ∈ [opScatter, opAllReduce, opGather, opUgrad, opCodes, opNorm, opVote, opDispatch, opCombine],
        (relState op begun []).running? 0 3 op = some (relCmdOf op begun)) := by decide +kernel
theorem witness_RelayTurns_time : (let s := relState opScatter (fun c => { begun c with again := [0] }) []
      s.relCmd 0 3 = some (relCmdOf opScatter (fun c => { begun c with again := [0] })) ∧ 0 ∈ (relCmdOf opScatter (fun c => { begun c with again := [0] })).again)
    ∧ (let s := relState opScatter begun [(Reg.REL_CFG 0, 0x400000)]
       let c := relCmdOf opScatter begun
       s.relCmd 0 3 = some c ∧ c.started = true ∧ c.waitRaised = false ∧ 0 < c.steps ∧ 0 ∉ c.ready
         ∧ c.since.toNat + s.fld (Reg.REL_CFG 0) 31 22 * 1000000 ≤ (1000000 : W64).toNat)
    ∧ (let s := (relState opDispatch begun []).modRel 0 (fun r => { r with packs := [⟨3, 1, [], 5⟩] })
       (s.rel 0).packs.find? (fun p => p.cmd = 3 && p.dst = 1) = some ⟨3, 1, [], 5⟩ ∧ (5 : W64).toNat + s.fld (Reg.REL_CFG 0) 15 0 ≤ (70000 : W64).toNat)
    ∧ (let s := (withRegs svc [(Reg.REL_FOLLOW 0 0, 0x80000000)]).modCtx 0 (fun k => { k with follow := some 1000 })
       (s.ctx 0).follow = some 1000 ∧ s.fld (Reg.REL_FOLLOW 0 0) 31 31 = 1
         ∧ (s.ctx 0).followAt.toNat + max 1 (s.fld (Reg.REL_PACE_CFG 0) 15 8) * 1000000 ≤ (255000000 : W64).toNat) := by decide +kernel
/-- A relay message of job 9 for die 0, to a state where context 0 has the job and a command of the key. -/
def relKey0 : RelayKey := ⟨9, 0, 1, 0, 0⟩
def relMsg (b : RelayBody) (f : RelCmd → RelCmd) (cs : Bool) : State :=
  let s := inboxState (.relay relKey0 0 1 b) [(Reg.REL_CTX 0 0, 0x80000009), (Reg.MEM_WIN_SIZE 0, 1), (Reg.MEM_WIN_ATTR 0, 0x20030000)]
  let s := s.setTlb (.die 0) [⟨0, 0, 21, 0, true, true⟩]
  if cs then s.modRel 0 (fun r => { r with next := 4, cmds := [relCmdOf opScatter f] }) else s
theorem witness_RelayMessages : ((relMsg (.ready 4096) begun true).takeMsg 0).isSome = true ∧ (relMsg (.ready 4096) begun true).relBind 0 9 = some 0
    ∧ (relMsg (.ready 4096) begun true).relFind 0 0 relKey0 = some (relCmdOf opScatter begun) ∧ (relMsg (.ready 4096) begun false).relFind 0 0 relKey0 = none
    ∧ (relMsg (.ready 4096) begun true).relHeld = false
    ∧ ((relMsg (.ready 4096) begun false).rel 0).readies.length < 1024 ∧ (relCmdOf opScatter begun).applies 0 0 = true
    ∧ (relCmdOf opScatter begun).applies 1 0 = true ∧ (relCmdOf opAllReduce (fun c => { begun c with dims := 3 })).applies 1 0 = false
    ∧ (inboxState (.relay relKey0 0 1 (.data 0 [])) []).relBind 0 9 = none
    ∧ (∀ q ∈ (relMsg (.refuse true) begun true).outReq, q.tag ≠ 7)
    ∧ (let s := { relMsg (.ack 5) begun true with outReq := [⟨7, 1, 0, .relay 0 3 0 5, none⟩] }
       (s.outReq.find? (fun r => r.tag = 7)).map (·.who) = some (.relay 0 3 0 5) ∧ (s.relBind 0 9).isSome = true ∧ s.relCmd 0 3 = some (relCmdOf opScatter begun) ∧ (relCmdOf opScatter begun).collects = true)
    ∧ ((relMsg (.rows 0 [⟨0, 0, 0, 0, 0, some (0, 64), []⟩]) begun true).writeRow 0 0 1 ⟨0, 0, 0, 0, 0, some (0, 64), []⟩).2 = none := by
  decide +kernel

/-! ### The host port -/

/-- Queue q of function f with a ring of 16 entries at 0 of host memory, whose first entry is given. -/
def hqueue (f : FnId) (q : Nat) (s : State) (w : List Nat) : State :=
  let s := { s with host := (List.range w.length).foldl (fun m i => Mem.writeN m (8 * i) ((w[i]?).getD 0) 8) s.host }
  s.setQueue f q (some ⟨0, 4, 0x1000, 0, 0, 1, 0, [], [], [], false, false⟩)
def hentry (s : State) (w : List Nat) : State := hqueue 0 0 s w
def okEntry (f : FnId) (q : Nat) (s : State) (w : List Nat) (named : List (Nat × Nat × Nat)) : Bool :=
  match (hqueue f q s w).nextEntry f q with
  | none => false
  | some (_, v) => v == ((w ++ List.replicate (8 - w.length) 0).map (BitVec.ofNat 64)) && cmdFields v named
def op (n : Nat) : Nat := n * 2 ^ 56
theorem witness_HostCommands : okEntry 0 0 svc [op 0] [] = true ∧ okEntry 0 0 svc [op 3, 0, 0, 0, 0x20] [(4, 11, 0), (4, 31, 16), (5, 31, 0)] = true ∧ okEntry 0 0 svc [op 3, 0, 0, 0, 0x10000] [(4, 11, 0), (4, 31, 16), (5, 31, 0)] = true
    ∧ svc.mayName 0 0 = true ∧ svc.mayName 1 0 = false ∧ (svc.hurdle 0).state ≠ .poisoned
    ∧ ((svc.setHurdle 0 { Hurdle.reset with state := .poisoned }).hurdle 0).state = .poisoned
    ∧ okEntry 0 0 svc [op 4, 0, 0, 0, 0, 1, 100] [(4, 11, 0), (5, 31, 0), (6, 31, 0)] = true
    ∧ ((svc.hurdle 0).releases - BitVec.ofNat 32 0).toNat < 2 ^ 31 ∧ ¬((svc.hurdle 0).releases - BitVec.ofNat 32 1).toNat < 2 ^ 31
    ∧ okEntry 0 0 svc [op 5, 0, 8] [(2, 63, 0)] = true ∧ okEntry 1 0 (svc.setFld Reg.HIF_STATUS 21 18 1) [op 6, 0, 0, 0, 2] [(1, 63, 0), (4, 1, 0)] = true
    ∧ partOfFn 1 = some 0 := by decide +kernel
theorem witness_HostCommands_queues : okEntry 0 0 (withRegs svc [(Reg.HIF_FN_QSTATE 0, 64)]) [op 8, 0x1000, 8, 0, 0x1001] [(1, 63, 0), (2, 63, 0), (4, 5, 0), (4, 12, 8)] = true
    ∧ (let s := withRegs svc [(Reg.HIF_FN_QSTATE 0, 64)]
       okEntry 0 0 s [op 8, 0x1000, 8, 0, 0x43F] [(1, 63, 0), (2, 63, 0), (4, 5, 0), (4, 12, 8)] = true ∧ 63 < s.fld (Reg.HIF_FN_QSTATE 0) 6 0 ∧ s.queue 0 63 = none)
    ∧ (let s := hqueue 0 63 svc []
       okEntry 0 0 s [op 9, 0, 0, 0, 63] [(4, 5, 0)] = true ∧ ((hqueue 0 0 s []).queue 0 63).isSome = true) := by decide +kernel
theorem witness_HostTransfers : okEntry 0 0 svc [op 1, 0x2000, 0x2004, 4] [(1, 63, 0), (2, 63, 0), (3, 43, 0)] = true
    ∧ okEntry 0 0 svc [op 1, 0x2000, 0x2004, 0x30000000004] [(1, 63, 0), (2, 63, 0), (3, 43, 0)] = true
    ∧ okEntry 0 0 svc [op 1, 0x2002, 0x2004, 4] [(1, 63, 0), (2, 63, 0), (3, 43, 0)] = true ∧ okEntry 0 0 svc [op 1, 0x2002, 0x2004, 0] [(1, 63, 0), (2, 63, 0), (3, 43, 0)] = true
    ∧ okEntry 0 0 svc [op 2, 0, 0x2002, 0, 7] [(2, 63, 0), (3, 39, 0), (3, 43, 42), (4, 63, 0)] = true ∧ okEntry 0 0 svc [op 2, 0, 0x2002, 4, 7] [(2, 63, 0), (3, 39, 0), (3, 43, 42), (4, 63, 0)] = true
    ∧ ((hentry svc []).queue 0 0).map (·.running) = some []
    ∧ okEntry 0 0 svc [op 2, 0, 0x2004, 12, 0x0102030405060708] [(2, 63, 0), (3, 39, 0), (3, 43, 42), (4, 63, 0)] = true ∧ wbits [0, 0, 0, 0x30000000004] 3 41 40 = 3 := by
  decide +kernel
def qrun (r : RunCmd) : State := (hentry svc []).setQueue 0 0 (some ⟨0, 4, 0x1000, 0, 0, 1, 1, [], [r], [], false, false⟩)
def runOk : RunCmd := ⟨0, [2 ^ 55, 0, 0, 0, 0, 0, 0, 0], 0, 0, some stOk⟩
def runWait : RunCmd := ⟨0, [4 * 2 ^ 56, 0, 0, 0, 0, 1, 100, 0], 0, 0, none⟩
theorem witness_HostQueuesAndRecords : svc.fnExists 0 = true ∧ svc.awake = true ∧ svc.inWarmUp = false ∧ ((hentry svc []).queue 0 0).map (·.deleting) = some false
    ∧ ((16 : W32) - 0).toNat ≤ 2 ^ 4 ∧ ((16 : W32) - 1).toNat < 2 ^ 31 ∧ ¬((17 : W32) - 0).toNat ≤ 2 ^ 4 ∧ svc.act (Reg.HIF_FN_EQ_DROP 0) = 0
    ∧ ((svc.modFn 0 (fun f => { f with modBusy := true, modHeld := true })).fn 0).modBusy = true
    ∧ (svc.fn 0).modAt.toNat + svc.fld (Reg.HIF_FN_EQ_CFG 0) 15 0 * 1000 ≤ (65535000 : W64).toNat ∧ (smGet msixByte (svc.fn 0).msixTab 12).getLsbD 0 = true
    ∧ (let s := svc.modFn 0 (fun f => { f with msixTab := smSet msixByte f.msixTab 12 0 })
       (smGet msixByte (s.fn 0).msixTab 12).getLsbD 0 = false)
    ∧ runOk.owed = 0 ∧ (let s := qrun runOk
       s.queue 0 0 = some ⟨0, 4, 0x1000, 0, 0, 1, 1, [], [runOk], [], false, false⟩ ∧ [runOk].find? (fun y => y.idx = 0) = some runOk ∧ runOk.status = some stOk
         ∧ 56 + 8 ≤ 0x1000 ∧ wbits runOk.words 0 55 55 = 1)
    ∧ ([runWait].find? (fun y => y.idx = 0 && y.status.isNone && wbits y.words 0 63 56 = 4) = some runWait ∧ wbits runWait.words 6 31 0 ≠ 0xFFFFFFFF
         ∧ runWait.since.toNat + wbits runWait.words 6 31 0 * 1000 ≤ (100000 : W64).toNat)
    ∧ (let s := (withRegs svc [(Reg.HIF_FN_EQ_CFG 0, 0x600000)]).modFn 0 (fun f => { f with eqEn := true })
       s.eqOn 0 = true ∧ 2 ≤ s.eqFree 0) ∧ svc.eqOn 0 = false := by decide +kernel

/-! ### Contexts -/

/-- Partition 0 has core 0 and contexts 0 to 3; context 0 holds it, in a turn. -/
def heatState (st : CtxState) : State :=
  let s := withRegs (issueState .F) [(Reg.SCH_PCFG 0, 0x80010004), (Reg.SCH_HEAT 0, 0x00100000)]
  (s.modCtx 0 (fun k => { k with state := st })).modPart 0 (fun p => { p with running := some 0, turn := true })
/-- No core runs context 0. -/
def calm (st : CtxState) : State :=
  ((withRegs svc [(Reg.SCH_PCFG 0, 0x80010004)]).modCtx 0 (fun k => { k with state := st }))
def ctxEntry (s : State) (w : List Nat) (named : List (Nat × Nat × Nat)) : Bool := okEntry 0 0 s w named
theorem witness_ContextCommands : (calm .free).mayCtx 0 0 = true ∧ (calm .free).mayCtx 1 0 = true ∧ (calm .free).mayCtx 1 4 = false
    ∧ ctxEntry (calm .free) [op 0x10, 5] [(4, 5, 0), (1, 63, 0), (4, 10, 8)] = true ∧ (calm .free).fld (Reg.SCH_PCFG 0) 31 31 = 1 ∧ (calm .free).inRange 0 0 = true
    ∧ (calm .free).inRange 0 3 = true ∧ (calm .free).inRange 0 4 = false ∧ (calm .free).oos = false ∧ (calm .free).staging = false ∧ ((calm .free).setFld Reg.GLB_STATUS 27 27 1).oos = true
    ∧ ctxEntry (calm .ready) [op 0x12] [(4, 5, 0)] = true ∧ ((calm .ready).ctx 0).state = .ready ∧ ((calm .ready).ctx 0).replay = false
    ∧ ((heatState .running).ctx 0).state = .running ∧ ((heatState .running).ctx 0).replay = false
    ∧ ctxEntry (calm .suspended) [op 0x13] [(4, 5, 0)] = true ∧ ctxEntry (calm .free) [op 0x14] [(4, 5, 0)] = true ∧ ctxEntry (calm .created) [op 0x14] [(4, 5, 0)] = true
    ∧ ctxEntry (calm .ended) [op 0x15] [(4, 5, 0)] = true ∧ (calm .ended).hangOf 0 = none ∧ ((calm .ended).part 0).turn = false
    ∧ ctxEntry (calm .free) [op 0x16, 0, 0x1000] [(4, 5, 0), (2, 63, 0)] = true := by decide +kernel
/-- A descriptor at 0 of HBM, through a LOCAL window: a stride of 5, and one core whose entry points are 0. -/
def startState : State :=
  let s := withRegs (calm .created) [(Reg.MEM_WIN_SIZE 0, 1), (Reg.MEM_WIN_ATTR 0, 0x20030000), (Reg.MEM_LIMIT_LO, 0x80000000)]
  let s := s.setTlb .host [⟨0, 0, 21, 0, true, true⟩]
  s.lineWrite 0 false 1 [(8, 5)] unitOther
def startWords : List W64 := [0, 5, 0, 0, 0, 0, 0, 0, 0, 0]
theorem witness_ContextCommands_start : ctxEntry startState [op 0x11] [(1, 56, 0), (4, 8, 8)] = true ∧ (startState.ctx 0).state = .created ∧ (startState.ctx 0).restore = none
    ∧ (startState.partCores 0).length = 1 ∧ ((startState.descBytes 0 0 80).2).isSome = true ∧ descOk startWords 1 = true := by decide +kernel
theorem test_startWords : ((startState.descBytes 0 0 80).2).map (fun bs => (List.range 10).map (fun i => BitVec.ofNat 64 (leNat ((bs.drop (8 * i)).take 8)))) = some startWords := by
  decide +kernel
theorem witness_ContextCommands_hurdle : ((7 : Nat), ({ Hurdle.reset with owner := 3 } : Hurdle)) ∈ (svc.setHurdle 7 { Hurdle.reset with owner := 3 }).hurdles
    ∧ (7 : Nat) < 4096 ∧ ((svc.setHurdle 7 { Hurdle.reset with owner := 3 }).hurdle 7).owner = 3 := by decide +kernel

def waiting (s : State) : State := s.modCore 0 (fun k => { k with seqs := k.seqs.map (fun z => { z with state := .ended }) })
theorem witness_ContextTurns : ((heatState .running).part 0).running = some 0 ∧ ((heatState .running).ctx 0).replay = false ∧ ((heatState .running).part 0).turn = true
    ∧ ((heatState .running).part 0).heatEnd.toNat ≤ (0 : W64).toNat ∧ (heatState .running).otherReady 0 0 = false
    ∧ ((heatState .running).modCtx 3 (fun k => { k with state := .ready })).otherReady 0 0 = true
    ∧ ((heatState .running).modCtx 4 (fun k => { k with state := .ready })).otherReady 0 0 = false
    ∧ (heatState .running).fld (Reg.SCH_HEAT 0) 31 20 ≠ 0
    ∧ (let s := waiting ((heatState .running).modCtx 3 (fun k => { k with state := .ready }))
       s.otherReady 0 0 = true ∧ (∀ c ∈ s.boundCores 0, ∀ q ∈ allSeqs, ((s.seq c q).state = .wait ∨ (s.seq c q).state = .ended)
          ∧ (s.seq c q).restAt.toNat + s.fld (Reg.SCH_HEAT 0) 31 20 * 1000 ≤ (0x1000000 : W64).toNat))
    ∧ ((heatState .stopping).part 0).stopLate = false ∧ ((heatState .stopping).ctx 0).state = .stopping
    ∧ ((heatState .stopping).part 0).heatEnd.toNat + (heatState .stopping).fld (Reg.SCH_STOPLIM 0) 19 0 * 1000 ≤ (0xFFFFFFFF : W64).toNat := by decide +kernel
def quiet : State := (waiting (heatState .stopping)).modCtx 0 (fun k => { k with stopFor := .suspend })
theorem witness_ContextTurns_save : (quiet.ctx 0).state = .stopping ∧ (quiet.ctx 0).stopFor ≠ .hold ∧ (quiet.ctx 0).saving = false ∧ quiet.restoring 0 = false
    ∧ (quiet.boundCores 0).all quiet.coreHalted = true ∧ quiet.ctxQuiet 0 = true
    ∧ ((quiet.modCtx 0 (fun k => { k with frames := k.frames.map (fun f => { f with valid := false }) })).takeFrames 0 (quiet.placedCores 0)).2 = true
    ∧ (let s := quiet.modCtx 0 (fun k => { k with saving := true, suspendCmds := [(0, 0, 0)] })
       (s.ctx 0).saving = true ∧ (s.ctx 0).stopFor = .suspend ∧ (s.ctx 0).suspendCmds ≠ []) := by decide +kernel
/-- A context whose restore runs: its frame has SEQ-F running, with s0 live. -/
def restoreState : State :=
  let s := (heatState .running).modPart 0 (fun p => { p with switching := true })
  let s := s.modCore 0 (fun k => { k with seqs := k.seqs.map (fun z => { z with state := .idle }) })
  s.modCtx 0 (fun k => { k with frames := k.frames.map (fun f => { f with sMask := f.sMask.map (fun _ => 1) }) })
theorem witness_ContextTurns_restore : restoreState.restoring 0 = true ∧ (restoreState.ctx 0).state = .running ∧ (∀ e ∈ restoreState.hurdles, e.2.state ≠ .poisoned)
    ∧ (let f := vget (restoreState.ctx 0).frames 0
       (vget f.seqs 0).wait = none ∧ (vget f.seqs 0).state ≠ .ended ∧ (vget f.sMask 0).getLsbD 0 = true)
    ∧ restoreState.placedCores 0 = [(0, 0)] := by decide +kernel
theorem witness_ContextTurns_end : (let s := (issueState .F).modSeq 0 .B (fun z => { z with state := .run })
      s.mayIssue 0 .F 0 (ctw 0 0 0).pn (ctw 0 0 0).pr = true ∧ (ctw 0 0 0).zero = 0 ∧ (s.seq 0 .B).state = .run ∧ (s.ctx 0).state = .running ∧ (s.ctx 0).stopFor = .none) := by
  decide +kernel

def vfState : State := svc.setFld Reg.HIF_STATUS 21 18 8
def oosState (st : CtxState) : State := (calm st).setFld Reg.GLB_STATUS 27 27 1
theorem witness_FunctionResets : vfState.psc.state ≠ .off ∧ vfState.fnExists 8 = true ∧ vfState.inWarmUp = false ∧ (oosState .free).inService = true ∧ (oosState .free).oos = true ∧ (oosState .free).writeAhead Reg.GLB_STATUS = false
    ∧ ((oosState .running).ctx 0).state = .running ∧ (∀ k ∈ (oosState .suspended).ctxs.toList, k.state = .free ∨ k.state = .created ∨ k.state = .suspended) := by decide +kernel

/-! ### Hangs, photos and resets -/

def hungState : State := (withRegs ((heatState .running).modCore 0 (fun k => { k with rowQ := [rowCmd .norm []] })) [(Reg.HNG_WD 4, 0x80000000), (Reg.HNG_WD 7, 0x80000000),
  (Reg.HNG_WD 8, 0x80000000), (Reg.HNG_CFG, 0x80010001)])
def hang0 (p : Option CoreId) (ph : HangPhase) : Hang := ⟨4, 0, .F, p, [0], some 0, 0, ph⟩
def hungAt (p : Option CoreId) (ph : HangPhase) (st : CtxState) : State := { hungState.modCtx 0 (fun k => { k with state := st }) with hangs := [hang0 p ph] }
def photo0 : Photo := ⟨phHost, none, 0, []⟩
theorem witness_HangsAndResets : hungState.psc.state ≠ .off ∧ hungState.fld (Reg.HNG_WD 4) 31 31 = 1 ∧ hungState.holding 4 0 .F = true ∧ (hungState.core 0).ctx = some 0
    ∧ hungState.hangOf 0 = none ∧ hungState.overdue 4 0 .F 0xFFFFFFFFFFFF = true ∧ (withRegs hungState [(Reg.HNG_WD 4, 0x80000010)]).overdue 4 0 .F 0 = false
    ∧ hungState.setPending 0 = false ∧ hungState.twoCrowns = false ∧ hungState.overdue 8 0 .F 0 = true ∧ (hungState.part 0).switching = false ∧ hungState.fld Reg.HNG_CFG 31 31 = 1 ∧ hungState.photoRun = none
    ∧ (let r : RunCmd := ⟨0, [0, 0, 0, 0, 0, 0, 0, 0], 0, 0, none⟩
       let s := withRegs (qrun r) [(Reg.HNG_WD 7, 0x80000000)]
       s.hungCmd 0 = some r ∧ (s.queue (hifQueue 0).1 (hifQueue 0).2).isSome = true ∧ s.holding 7 0 .F = true ∧ s.overdue 7 0 .F 0xFFFFFFFFFFFF = true ∧ s.fld (Reg.HNG_WD 7) 31 31 = 1)
    ∧ hungState.holding 8 0 .F = true
    ∧ (hungAt none .reset .running).hangs.find? (fun h => h.kind = 4 && h.inst = 0 && h.phase = .reset) = some (hang0 none .reset)
    ∧ (hungAt (some 0) .reset .running).hangs.find? (fun h => h.kind = 4 && h.inst = 0 && h.phase = .reset) = some (hang0 (some 0) .reset)
    ∧ hungState.fld Reg.HNG_CFG 7 0 ≠ 0 ∧ (hungState.ctx 0).replay = false ∧ (hungState.ctx 0).savedAt.toNat + hungState.fld Reg.HNG_CFG 7 0 * 1000000 ≤ (1000000 : W64).toNat
    ∧ (hungAt (some 0) .replay .running).hangOf 0 = some (hang0 (some 0) .replay) ∧ (hang0 (some 0) .replay).cur = some 0
    ∧ (hang0 (some 0) .replay).since.toNat + max 1 (hungState.fld Reg.HNG_CFG 25 16) * 1000000 ≤ (1000000 : W64).toNat
    ∧ ((hungAt (some 0) .replay .held).ctx 0).state = .held := by decide +kernel
theorem witness_HangsAndResets_refclk : svc.refLost = false ∧ svc.resetDue = false ∧ (∀ k ∈ svc.ctxs.toList, k.state = .free) ∧ svc.photoRun = none ∧ svc.twoCrowns = false
    ∧ ((heatState .running).ctx 0).state = .running ∧ ((heatState .running).ctx 0).saving = false ∧ (heatState .running).refLost = false
    ∧ (heatState .running).psc.state ≠ .off ∧ (heatState .running).resetDue = false := by decide +kernel
theorem witness_HangsAndResets_photo : photo0.last + max 1 (svc.fld Reg.HNG_PHOTO_CFG 15 0) * 1000 ≤ (65535000 : W64).toNat ∧ svc.writeAhead Reg.HNG_RESET = false ∧ svc.twoCrowns = false ∧ ({ svc with photoRun := some photo0 } : State).photoRun = some photo0 ∧ (129 : Nat) < 130 ∧ (∀ o ∈ photo0.outs, o.1 ≠ 129)
    ∧ svc.hangs = [] ∧ svc.resetDue = false ∧ svc.inService = true ∧ svc.photoRun = none ∧ fieldOf 0xA5C30001 31 16 = 0xA5C3 ∧ fieldOf 0xA5C30001 0 0 = 1
    ∧ fieldOf 0xA5C40001 31 16 ≠ 0xA5C3 ∧ fieldOf 0xA5C30000 0 0 = 0 ∧ svc.psc.state ≠ .off ∧ (withRegs svc [(Reg.HNG_ESC, 1)]).fld Reg.HNG_ESC 7 0 = 1
    ∧ (withRegs svc [(Reg.HNG_ESC, 1)]).oos = false := by decide +kernel

/-! ### Splits -/

def take0 (ph : TakePhase) : Take := { newTake 1 none ⟨0, 256⟩ 0 1 0 with phase := ph }
/-- A state whose area of partition 0 has so many GiB. -/
def withArea (n : Nat) (s : State) : State := s.setAct (Reg.SPL_AREA 0) (BitVec.ofNat 32 n)
/-- Context 0 with a capture, and a LOCAL window over the first 2 MiB of HBM, which hold a list of so many extents. -/
def capState (n : Nat) (k : Take) : State :=
  let s := withRegs (heatState .running) [(Reg.MEM_WIN_SIZE 0, 1), (Reg.MEM_WIN_ATTR 0, 0x20030000), (Reg.MEM_LIMIT_LO, 0x80000000), (Reg.SPL_CTX_TAU 0, 1), (Reg.SPL_AREA 0, 0)]
  let s := (s.setTlb (.die 0) [⟨0, 0, 21, 0, true, true⟩]).lineWrite 0 false 1 [(0, BitVec.ofNat 8 n), (64, 1)] unitOther
  s.modCtx 0 (fun c => { c with take := some k, hist := { c.hist with lastSeal := some 0 } })
def listOf (n : Nat) : Except Nat (List (Nat × Nat)) := ((capState n (take0 .saved)).splitList 0 0).2
theorem witness_SplitCaptures_host : okEntry 0 0 (calm .created) [op 0x20, 0, 256, 7, 0x500, 9] [(1, 56, 0), (2, 56, 0), (3, 31, 0), (4, 19, 8), (4, 5, 0), (5, 31, 0)] = true
    ∧ (calm .created).mayCtx 0 0 = true ∧ (oosState .created).oos = true ∧ (calm .created).oos = false ∧ ((calm .created).ctx 0).take = none ∧ ((calm .created).ctx 0).restore = none
    ∧ okEntry 0 0 (calm .created) [op 0x22, 0, 0, 0, 0x100, 0, 3] [(1, 63, 0), (4, 5, 0), (4, 9, 8), (6, 31, 0)] = true ∧ wbits [0, 0, 0, 0, 0x100] 4 9 8 < 2 := by decide +kernel
theorem witness_SplitCaptures : ((capState 0 (take0 .gate)).ctx 0).hist.lastSeal = some 0 ∧ (capState 0 (take0 .gate)).fld (Reg.SPL_CTX_STATE 0) 28 28 = 0
    ∧ (0 : W64).toNat + ((capState 0 (take0 .gate)).act (Reg.SPL_CTX_TAU 0)).toNat * 1000000000 < (1000000001 : W64).toNat
    ∧ ((capState 0 (take0 .gate)).ctx 0).take = some (take0 .gate) ∧ (capState 0 (take0 .gate)).gatePassed (take0 .gate) = true ∧ (capState 0 (take0 .gate)).provisional 0 = false
    ∧ ((capState 0 (take0 .gate)).ctx 0).replay = false ∧ ((capState 0 (take0 .gate)).ctx 0).state = .running
    ∧ (2 : Nat) ≠ 0xFFFFFFFF ∧ (take0 .gate).since.toNat + 2 * 1000000 ≤ (2000000 : W64).toNat
    ∧ (capState 0 (take0 .saved)).relayQuiet 0 = true
    ∧ (∀ c ∈ allCores, ∀ e ∈ ((capState 0 (take0 .saved)).core c).stash, e.ctx ≠ 0)
    ∧ okIs (listOf 0) [] = true ∧ okIs (listOf 1) [(1, 0)] = true ∧ extsAligned [] = true ∧ extsAligned [(1, 0)] = false
    ∧ okE ((capState 0 (take0 .saved)).splitRead 0 256 256).2 = true ∧ okE ((capState 0 (take0 .saved)).frameStores 0).2 = true
    ∧ (capState 0 (take0 .saved)).slotSize 0 = 0 := by decide +kernel
theorem witness_SplitCaptures_large (l : List Byte) : (capState 0 (take0 .saved)).slotSize 0 < itemsAt 0 + (padLine l).length + 0 := by
  have h : (capState 0 (take0 .saved)).slotSize 0 = 0 := by decide +kernel
  rw [h]; unfold itemsAt; omega
/-- The largest area holds a capture whatever its items take. -/
theorem witness_SplitCaptures_fits (k : SplitItems) : itemsAt 0 + (padLine (splitBytes k)).length + 0 ≤ (withArea 65535 (capState 0 (take0 .saved))).slotSize 0 := by
  have h : (withArea 65535 (capState 0 (take0 .saved))).slotSize 0 = 65535 * 2 ^ 30 / 2 := by decide +kernel
  have n := (Config.splitSize k).isLt
  rw [h]; simp only [padLine, splitBytes, List.length_append, List.length_map, List.length_range, List.length_replicate, itemsAt, posAt, roundUp]; omega
def splHead : SplitHead := ⟨0, 0, false, 1, 0, 8⟩
/-- An answer of the buddy to the capture, or to a restore, of context 0. -/
def splMsg (b : SplitKind) (ph : TakePhase) : State :=
  { withRegs ((linkState 3).modCtx 0 (fun c => { c with take := some (take0 ph) })) [(Reg.SPL_AREA 0, 1)] with
    inbox := [⟨some 0, vcSplit, ⟨0, 1, 7, 0, .split splHead b⟩⟩], outReq := [⟨7, 1, 0, .split 0 1 0, none⟩] }
def restore0 : Restore := ⟨1, (0, 0, 0), 0, 0, 0, [0, 1], .head, [], 0, [], [], crcStart⟩
theorem witness_SplitCaptures_answers : ((splMsg .ack .copy).takeMsg 0).isSome = true ∧ (((splMsg .ack .copy).takeReq 7).1.map (·.who)) = some (.split 0 1 0)
    ∧ ((splMsg .ack .copy).ctx 0).take = some (take0 .copy) ∧ (take0 .copy).id = 1 ∧ ((splMsg .sealAck .seal).ctx 0).take = some (take0 .seal) ∧ (take0 .seal).phase = .seal
    ∧ (((splMsg (.readRsp []) .gate).modCtx 0 (fun c => { c with restore := some restore0 })).ctx 0).restore = some restore0 ∧ restore0.id = 1 := by decide +kernel
def areaState (d : Option Drain) : State :=
  (withRegs svc [(Reg.SPL_AREA 0, 1), (Reg.MEM_LIMIT_LO, 0x80000000), (Reg.FLP_STATUS, 0x80000000), (Reg.SPL_AREA_FLAGS 0, 1)]).modArea 0 (fun a => { a with drain := d })
def drain0 (fin : Bool) : Drain := ⟨0, 1, 0, 32768, false, fin⟩
theorem witness_SplitSlots : ((splMsg (.data []) .gate).takeMsg 0).isSome = true ∧ (splMsg (.data []) .gate).splitFits ⟨0, 1, 7, 0, .split splHead (.data [])⟩ splHead = true
    ∧ hbmSlot splHead = some 0 ∧ (splMsg .readReq .gate).slotSealed 0 0 = false ∧ (areaState none).slotSealed 0 0 = true
    ∧ ((areaState none).physRead ((areaState none).slotAddr 0 0) 8 false 1).2.2 = none
    ∧ ((areaState (some (drain0 true))).area 0).drain = some (drain0 true) ∧ (drain0 true).finished = true ∧ (areaState none).fld Reg.FLP_STATUS 31 31 = 1
    ∧ (let s := { areaState (some (drain0 false)) with nvme := [.write 0 0 32768] }
       s.nvme[0]? = some (.write 0 0 32768) ∧ (0 : Nat) = (drain0 false).off ∧ 0 + 32768 ≤ (drain0 false).used ∧ (drain0 false).finished = false ∧ s.nvme ≠ []
       ∧ ∀ l ∈ lineParts (s.slotAddr 0 (drain0 false).src + 0) 32768, s.isPoisoned l.1 = false)
    ∧ ({ areaState (some (drain0 false)) with nvme := [.flush 0] } : State).nvme[0]? = some (.flush 0)
    ∧ okEntry 0 0 (areaState none) [op 0x21, 0x1000, 0, 256] [(1, 63, 0), (2, 63, 0), (3, 63, 0), (4, 2, 0), (4, 8, 8), (5, 31, 0)] = true
    ∧ 0 + 256 ≤ (areaState none).slotSize 0 ∧ (vget ((areaState none).area 0).slots 0).seq.toNat = 0
    ∧ ((areaState none).physRead ((areaState none).slotAddr 0 0 + 0) 256 false 1).2.2 = none := by decide +kernel

/-! ### Power -/

theorem witness_PowerControl : svc.psc.state ≠ .off ∧ svc.setPending 1 = false ∧ svc.twoCrowns = false ∧ svc.refLost = false ∧ ({ svc with refLost := true } : State).refLost = true
    ∧ svc.writeAhead Reg.PSC_INPUT = false ∧ svc.fld Reg.PSC_STATUS 24 24 = 0 ∧ (0 : Nat) < 192 ∧ 420 ≤ reading [420] 0 ∧ (∀ i ∈ List.range 192, reading [419] i < 420)
    ∧ svc.effCap < svc.effCap + 1 ∧ 600 < svc.psc.capFreq ∧ 100 * 0 < 97 * svc.effCap ∧ svc.duty = 0 ∧ ¬svc.psc.capFreq < 1550
    ∧ (let s := { svc with psc := { svc.psc with capFreq := 600 } }
       s.effCap < s.effCap + 1 ∧ s.psc.capFreq ≤ 600 ∧ s.psc.capFreq < 1550)
    ∧ 97 * svc.effCap ≤ 100 * svc.effCap ∧ svc.effCap ≤ svc.effCap ∧ (4399 : BitVec 16).toNat < 4400 ∧ 4400 ≤ (4400 : BitVec 16).toNat ∧ svc.fld Reg.PSC_INPUT 31 31 = 0
    ∧ ({ svc with psc := { svc.psc with lowV := true } } : State).psc.lowV = true ∧ (svc.setFld Reg.PSC_INPUT 15 0 3799).fld Reg.PSC_INPUT 15 0 < 3800 ∧ svc.inService = true
    ∧ fieldOf 0x80000000 31 31 = 1 := by decide +kernel
/-- D is above 0: the frequency is at its floor and the mean was above the cap. -/
theorem witness_PowerControl_duty : (let s := svc.setFld Reg.PSC_STATUS 21 16 4
      s.duty = 4 ∧ 0 < s.duty ∧ 100 * 0 < 97 * s.effCap) := by decide +kernel
theorem witness_PowerControl_replan : (svc.setIdle 0 true).coreIdle 0 = true ∧ 24 * hourNs ≤ (((svc.setIdle 0 true).atTime (BitVec.ofNat 64 (24 * hourNs))).ptb - vget svc.psc.planAt 0).toNat
    ∧ ((svc.setIdle 0 true).atTime (BitVec.ofNat 64 (24 * hourNs))).brimNeed 0 = 5 * (-3) ∧ svc.psc.short.getLsbD 0 = false ∧ (-3 : Int) ≤ -3 := by decide +kernel
theorem witness_PowerControl_age : 5 * (-3 : Int) ≤ ((Config.ageMillivolt 0).toNat : Int) := by omega

/-- Every core is Idle, no context holds anything, and the policy allows both states. -/
def sleepy (pol lat : W32) : State :=
  let s := (withRegs svc [(Reg.PSC_POLICY, pol), (Reg.PSC_LAT_PKG, lat), (Reg.GLB_SR_UNITS0, 0x00FFFFFF)]).setFld Reg.PSC_STATUS 7 0 0xFF
  { s with ports := s.ports }
def inState (p : PState) (e : Option PState) : State := { svc with psc := { svc.psc with state := p, entry := e } }
theorem witness_PowerStates : svc.psc.state = .run ∧ svc.coreIdle 0 = false ∧ svc.arrQuiet 0 = true ∧ svc.partOf 0 = none
    ∧ (svc.progressAt 1 0).toNat + svc.fld Reg.PSC_POLICY 15 8 * 1000 ≤ (255000 : W64).toNat
    ∧ (let s := (svc.setIdle 7 true).modCore 7 (fun k => { k with arr := { k.arr with xing := [passCmd] } })
       s.coreIdle 7 = true ∧ (s.core 7).arr.xing ≠ [])
    ∧ (let s := sleepy 0x30000000 0xFFFFFFFF
       s.psc.entry = none ∧ s.pkgIdle = true ∧ s.fld Reg.GLB_STATUS 25 25 = 1 ∧ s.fld Reg.GLB_STATUS 26 26 = 0 ∧ s.powerTarget = some .deep ∧ s.twoCrowns = false
         ∧ s.psc.dwellAt.toNat + max 1 (s.fld Reg.PSC_POLICY 7 0) * 1000000 ≤ (255000000 : W64).toNat ∧ (s.atTime 255000000).refuser .deep = none)
    ∧ (sleepy 0x30000000 60000).powerTarget = some .deep ∧ (sleepy 0x30000000 59999).powerTarget = some .sleep ∧ (sleepy 0x30000000 250).powerTarget = some .sleep
    ∧ (sleepy 0x30000000 249).powerTarget = none
    ∧ ((calm .running).ctx 0).state = .running ∧ ((calm .running).atTime 255000000).refuser .sleep = some (rfContext, 0)
    ∧ (inState .run (some .sleep)).wakeHeld = false ∧ (inState .run (some .sleep)).psc.entry = some .sleep ∧ (inState .run (some .deep)).psc.entry = some .deep
    ∧ (inState .run (some .off)).psc.entry = some .off ∧ (inState .run (some .sleep)).refuserAt .sleep 0 false = none
    ∧ (inState .run (some .deep)).refuserAt .deep 0 false = none ∧ (inState .run (some .off)).refuserAt .off 0 false = none ∧ (inState .sleep none).asleep = true ∧ (inState .deep none).asleep = true
    ∧ (inState .off none).psc.state = .off ∧ (inState .off none).pins.vaux = true ∧ (inState .off none).pins.pwrgd = true ∧ (inState .off none).pins.thermtrip = false
    ∧ (withRegs (inState .deep none) [(Reg.PSC_WAKE_AT_LO, 5)]).pair Reg.PSC_WAKE_AT_LO ≠ 0
    ∧ (inState .deep none).psc.ahead = false ∧ svc.writeAhead Reg.PSC_CTL = false ∧ svc.twoCrowns = false
    ∧ (let s := { inState .sleep none with psc := { (inState .sleep none).psc with exiting := true } }
       s.psc.exiting = true ∧ s.psc.heldWr = [] ∧ s.psc.state = .sleep)
    ∧ svc.inService = true ∧ fieldOf 0x3C960001 31 16 = 0x3C96 ∧ (0x3C960001 : W32).getLsbD 0 = true ∧ svc.refuser .off = none ∧ fieldOf 0x3C950001 31 16 ≠ 0x3C96 := by decide +kernel

/-! ### Starts, the crown and updates -/

/-- A start at a stage, before its record. -/
def stageState (n : Nat) : State := State.reset.setFld Reg.GLB_STATUS 3 0 n
def goodUnit : GntUnit := ⟨none, [], [], 0, false, [], false, false⟩
def world0 (ok : Bool) : ImageWorld := ⟨ok, false, true, true, true, true, true, none⟩
theorem witness_StartStages : (stageState 0).atStage 0 = true ∧ (stageState 1).atStage 1 = true ∧ (stageState 1).start.cold = true ∧ (stageState 1).start.done = 0
    ∧ (3999 : BitVec 16).toNat < 4000 ∧ 4000 ≤ (4000 : BitVec 16).toNat ∧ (stageState 3).atStage 3 = true ∧ (world0 false).answers = false ∧ (world0 true).slow = false
    ∧ (stageState 3).start.copy = false ∧ (stageState 3).checkImage (stageState 3).image true true = some rsImgAbsent
    ∧ ({ stageState 3 with start := { (stageState 3).start with copy := true } } : State).start.copy = true
    ∧ ((stageState 3).checkImage ⟨(stageState 3).stageBank, 2 ^ 23⟩ true true).isSome = true
    ∧ (stageState 4).atStage 4 = true ∧ (stageState 4).fld Reg.GNT_FORCE0 23 0 = 0 ∧ (stageState 4).fld Reg.GNT_FORCE1 15 0 = 0 ∧ (∀ c ∈ allCores, ((stageState 4).spare c).stat ≤ 8)
    ∧ (stageState 5).atStage 5 = true ∧ (stageState 6).atStage 6 = true ∧ (stageState 7).atStage 7 = true ∧ (stageState 8).atStage 8 = true
    ∧ (withRegs (stageState 7) [(Reg.GLB_SR_UNITS0, 0x10000)]).fld Reg.GLB_SR_UNITS0 23 16 &&& (0xFE : BitVec 8).toNat = 0
    ∧ (withRegs (stageState 7) [(Reg.GLB_SR_UNITS0, 0x10000)]).fld Reg.GLB_SR_UNITS0 23 16 &&& (1 : BitVec 8).toNat ≠ 0
    ∧ ({ stageState 3 with start := { (stageState 3).start with failed := true } } : State).psc.state = .run ∧ (stageState 3).photoRun = none ∧ (stageState 3).twoCrowns = false := by decide +kernel
theorem witness_StartStages_links : (let s := stageState 6
      s.atStage 6 = true ∧ s.pins.linkRef = true ∧ 0 ∈ s.mappedPorts ∧ s.portState 0 ≠ stUp ∧ s.portState 0 ≠ stMismatch ∧ (s.port 0).trainFail = false ∧ s.trainedFor 0 0 = false
        ∧ ∀ p ∈ s.mappedPorts, s.trainedFor p 0xFFFFFFFFFFFF = true) := by decide +kernel
/-- No memory stack is usable. -/
def noStacks (s : State) : State := (List.range 16).foldl (fun s m => s.setFld (Reg.GNT_RESULT (8 + m)) 31 28 rsUnusable) s
theorem witness_StartStages_hbm : (((stageState 5).trainStacks []).mapOut []).place.dead.length ≠ 1024
    ∧ ((((noStacks (stageState 5)).trainStacks []).mapOut []).place).dead.length = 1024 := by decide +kernel

def rec0 (c : BitVec 8) : StartRec := ⟨4, 0, c, 0, 8, false, false⟩
def crownState : State := { stageState 2 with recA := [(rec0 2).words] }
/-- In service with the given life-cycle state. -/
def lifeState (n : Fin 6) : State := { svc with fuses := { svc.fuses with life := n } }
def warmState (n : Fin 6) : State := (lifeState n).setFld Reg.GLB_STATUS 26 26 1
theorem witness_CrownAndLife : crownState.psc.state ≠ .off ∧ crownState.fld Reg.GLB_STATUS 3 0 = 2 ∧ crownState.fld Reg.GLB_STATUS 25 25 = 0 ∧ crownState.start.failed = false
    ∧ crownState.crown.conflict = false ∧ crownState.newest = some (rec0 2) ∧ (rec0 2).consec.toNat < 3 ∧ crownState.fuses.life.val ≠ 0 ∧ crownState.fuses.life.val ≠ 5
    ∧ crownState.crown.silentMe = false ∧ ({ crownState with crown := { crownState.crown with silentMe := true } } : State).crown.silentMe = true
    ∧ ({ crownState with fuses := { crownState.fuses with life := 5 } } : State).fuses.life.val = 5 ∧ svc.crown.beats.length < 8
    ∧ (let s := { svc with crown := { svc.crown with beats := [(false, true)], mw := true, run := 2 } }
       s.crown.beats = (false, true) :: [] ∧ (if (false : Bool) then s.crown.mw else s.crown.me) = s.crown.me ∧ s.crown.run ≤ 2)
    ∧ (let s := { svc with crown := { svc.crown with beats := [(true, true)], mw := true, run := 2 } }
       (if (true : Bool) then s.crown.mw else s.crown.me) = true)
    ∧ svc.crown.me = false ∧ svc.photoRun = none ∧ svc.crown.waits = [] ∧ svc.posted = [] ∧ svc.heldReads = [] ∧ svc.writeAhead Reg.CRN_CTL = false ∧ svc.twoCrowns = false
    ∧ (warmState 3).writeAhead Reg.CRN_CTL = false ∧ (warmState 3).twoCrowns = false ∧ (let s := { svc with crown := { svc.crown with mw := true, me := true } }
      s.twoCrowns = true ∧ s.resetDue = false) ∧ fieldOf 0x5AC20000 31 16 ≠ 0x5AC3 ∧ fieldOf 0x5AC30002 31 16 = 0x5AC3 ∧ (0x5AC30002 : W32).getLsbD 1 = true
    ∧ fieldOf 0x5AC30003 2 0 = 3 ∧ (lifeState 2).inService = true ∧ (lifeState 2).fuses.life.val = 2 ∧ fieldOf 0x5AC30005 2 0 = 5
    ∧ (warmState 3).awake = true ∧ (warmState 3).inWarmUp = true ∧ (0x5AC30001 : W32).getLsbD 0 = true ∧ (0x5AC30001 : W32).getLsbD 1 = false
    ∧ (lifeState 0).pins.pwrgd = true ∧ (lifeState 0).fuses.life.val = 0 ∧ (lifeState 1).fuses.life.val = 1 := by decide +kernel

def stgState (n : Nat) (space : Nat) : State := (svc.setFld Reg.CRN_STG_STATUS 31 29 n).setFld Reg.CRN_STG_STATUS 15 0 space
def armState : State := withRegs (stgState 3 0) [(Reg.CRN_ACT_TIME_LO, 1000000000), (Reg.PTB_STATUS, 2)]
theorem witness_UpdatesAndTests : svc.inService = true ∧ svc.writeAhead Reg.CRN_CTL = false ∧ svc.writeAhead Reg.GNT_CTL = false ∧ svc.twoCrowns = false ∧ svc.psc.ahead = false
    ∧ svc.setPending 0 = false ∧ svc.bankState ≠ 1 ∧ svc.bankState ≠ 2 ∧ svc.stageRefusal = none ∧ (calm .running).stageRefusal = some 1
    ∧ (stgState 1 8).stageOpen = true ∧ (stgState 1 8).fld Reg.CRN_STG_STATUS 15 0 ≠ 0 ∧ (stgState 1 0).fld Reg.CRN_STG_STATUS 15 0 = 0 ∧ (stgState 2 0).bankState = 2
    ∧ (stgState 2 0).checkImage ⟨(stgState 2 0).stageBank, ((stgState 2 0).act Reg.CRN_STG_LEN).toNat⟩ true true = some rsImgAbsent
    ∧ armState.armRefusal (armState.pair Reg.CRN_ACT_TIME_LO) = none ∧ armState.armRefusal 999999999 = some 4 ∧ armState.activation.armed = false
    ∧ fieldOf 0x5AC30001 31 16 = 0x5AC3 ∧ (0x5AC30001 : W32).getLsbD 3 = false ∧ (0x5AC30002 : W32).getLsbD 1 = true ∧ (0x5AC30008 : W32).getLsbD 3 = true
    ∧ (let s := { svc with activation := ⟨true, 5, false, none⟩ }
       s.activation.armed = true ∧ s.activation.begun = none ∧ s.activation.split = false ∧ s.activation.time.toNat ≤ (5 : W64).toNat)
    ∧ (let s := { svc with activation := ⟨true, 5, false, some 7⟩ }
       s.activation.begun = some 7 ∧ s.actDone = true ∧ s.photoRun = none)
    ∧ (let s := (warmState 3).setFld Reg.CRN_STG_STATUS 31 29 3
       s.awake = true ∧ s.inWarmUp = true ∧ s.bankState = 3)
    ∧ svc.fld Reg.GNT_STATUS 31 30 = 0 ∧ svc.mayTest 0 false = true ∧ svc.mayTest 59 false = false ∧ fieldOf 0x80000000 5 0 = 0 ∧ (0x80000000 : W32).getLsbD 31 = true
    ∧ (let s := (svc.setFld Reg.GNT_STATUS 31 30 2).setFld Reg.GNT_STATUS 27 22 7
       s.fld Reg.GNT_STATUS 31 30 = 2 ∧ s.fld Reg.GNT_STATUS 27 22 = (7 : CoreId).val ∧ s.retrainDue = false) := by decide +kernel

/-! ### An image that passes every check (R491 to R494, R513) -/

def wordBytes (a w : Nat) : SMap Byte := (List.range 8).map (fun i => (a + i, BitVec.ofNat 8 (w / 256 ^ i)))
/-- Three sections, of types 1, 2 and 0xF0: an empty one, a logic-BIST entry for each unit and either run, and the signature. -/
def tableWords : List (Nat × Nat) := [(256, 0x0100000000000200), (264, 0), (272, 0x0200000000000300), (280, 1984), (288, 0xF000000000000B00), (296, 96)]
def imageWords (crc : Nat) : List (Nat × Nat) :=
  [(0, 0x4E54505300010003), (8, 0x4000000100000B60), (16, 0x10), (24, 0x219100), (32, crc)] ++ (List.range 27).map (fun i => (40 + 8 * i, 0))
    ++ tableWords ++ [(768, 0x21003C)]
    ++ ((List.range 7).map (fun i => (776 + 8 * i, 0)) ++ (List.range 60).flatMap (fun u => [(832 + 32 * u, 0x30000 + u), (848 + 32 * u, 0)]))
def img (crc : Nat) : Image := ⟨(imageWords crc).flatMap (fun e => wordBytes e.1 e.2), 2 ^ 23⟩

theorem smGet_wordBytes (a w k : Nat) (t : SMap Byte) : smGet erased (wordBytes a w ++ t) k
    = if a ≤ k ∧ k < a + 8 then BitVec.ofNat 8 (w / 256 ^ (k - a)) else smGet erased t k := by
  simp only [wordBytes, List.range, List.range.loop, List.map, List.cons_append, List.nil_append, smGet]
  by_cases h : a ≤ k ∧ k < a + 8
  · rw [if_pos h]
    obtain ⟨j, rfl⟩ := Nat.exists_eq_add_of_le h.1
    have hj : j = 0 ∨ j = 1 ∨ j = 2 ∨ j = 3 ∨ j = 4 ∨ j = 5 ∨ j = 6 ∨ j = 7 := by omega
    rcases hj with rfl | rfl | rfl | rfl | rfl | rfl | rfl | rfl <;> simp
  · rw [if_neg h]
    repeat rw [if_neg (by omega)]
def atWord (a : Nat) (e : Nat × Nat) : Bool := decide (e.1 ≤ a ∧ a < e.1 + 8)
theorem smGet_words (ws : List (Nat × Nat)) (a : Nat) : smGet erased (ws.flatMap (fun e => wordBytes e.1 e.2)) a
    = match ws.find? (atWord a) with | some e => BitVec.ofNat 8 (e.2 / 256 ^ (a - e.1)) | none => 0xFF := by
  induction ws with
  | nil => rfl
  | cons e t ih =>
    rw [List.find?_cons, List.flatMap_cons, smGet_wordBytes]
    by_cases h : e.1 ≤ a ∧ a < e.1 + 8
    · rw [if_pos h, show atWord a e = true from decide_eq_true h]
    · rw [if_neg h, show atWord a e = false from decide_eq_false h, ih]
theorem find_word (ws : List (Nat × Nat)) (hp : (ws.map (·.1)).Pairwise (fun x y => x + 8 ≤ y)) (e : Nat × Nat) (he : e ∈ ws) (i : Nat) (hi : i < 8) :
    ws.find? (atWord (e.1 + i)) = some e := by
  induction ws with
  | nil => cases he
  | cons f t ih =>
    rw [List.map_cons, List.pairwise_cons] at hp
    rcases List.mem_cons.mp he with rfl | h
    · rw [List.find?_cons, show atWord (e.1 + i) e = true from decide_eq_true (by omega)]
    · have := hp.1 e.1 (List.mem_map_of_mem h)
      rw [List.find?_cons, show atWord (e.1 + i) f = false from decide_eq_false (by omega)]
      exact ih hp.2 h
theorem image_keys (crc : Nat) : ((imageWords crc).map (·.1)).Pairwise (fun x y => x + 8 ≤ y) := by
  rw [show (imageWords crc).map (·.1) = (imageWords 0).map (·.1) from rfl]; decide +kernel
theorem img_word (crc a w : Nat) (ha : a + 8 ≤ 2 ^ 23) (hw : w < 2 ^ 64) (h : (a, w) ∈ imageWords crc) : (img crc).n a 8 = w := by
  have hb : ∀ i < 8, (img crc).byte (a + i) = BitVec.ofNat 8 (w / 256 ^ i) := fun i hi => by
    unfold Image.byte img
    rw [if_pos (show a + i < 2 ^ 23 by omega), smGet_words, find_word _ (image_keys crc) _ h i hi]
    simp
  have e : (List.range 8).map (fun i => (img crc).byte (a + i)) = (List.range 8).map (fun i => BitVec.ofNat 8 (w / 256 ^ i)) :=
    List.map_congr_left (fun i hi => hb i (List.mem_range.mp hi))
  rw [Image.n, e]
  simp [List.range, List.range.loop, leNat]
  omega
theorem img_head (crc : Nat) : (img crc).hw 0 = 0x4E54505300010003 ∧ (img crc).hw 1 = 0x4000000100000B60 ∧ (img crc).hw 2 = 0x10 ∧ (img crc).hw 3 = 0x219100 := by
  refine ⟨?_, ?_, ?_, ?_⟩ <;> exact img_word crc _ _ (by decide) (by decide) (by simp [imageWords])
theorem img_hw4 (crc : Nat) (h : crc < 2 ^ 32) : (img crc).hw 4 = crc := img_word crc _ _ (by decide) (by omega) (by simp [imageWords])
theorem img_zero (crc : Nat) : (List.range 27).all (fun i => (img crc).hw (5 + i) = 0) = true := by
  refine List.all_eq_true.mpr fun i hi => decide_eq_true (img_word crc _ 0 ?_ (by decide) ?_)
  · have := List.mem_range.mp hi; omega
  · refine List.mem_append_left _ (List.mem_append_left _ (List.mem_append_left _ (List.mem_append_right _ (List.mem_map.mpr ⟨i, hi, ?_⟩))))
    rw [show 8 * (5 + i) = 40 + 8 * i by omega]
theorem img_table (crc : Nat) : (img crc).table = [⟨1, 512, 0, true⟩, ⟨2, 768, 1984, true⟩, ⟨0xF0, 2816, 96, true⟩] := by
  have b : ∀ e ∈ tableWords, e.1 + 8 ≤ 2 ^ 23 ∧ e.2 < 2 ^ 64 := by decide
  have e : ∀ a w : Nat, (a, w) ∈ tableWords → (img crc).n a 8 = w := fun a w h =>
    img_word crc a w (b _ h).1 (b _ h).2 (List.mem_append_left _ (List.mem_append_left _ (List.mem_append_right _ h)))
  have h0 : (img crc).entry 0 = ⟨1, 512, 0, true⟩ := by
    simp only [Image.entry, e 256 0x0100000000000200 (by decide), e 264 0 (by decide), Nat.mul_zero, Nat.add_zero]; rfl
  have h1 : (img crc).entry 1 = ⟨2, 768, 1984, true⟩ := by
    simp only [Image.entry, e 272 0x0200000000000300 (by decide), e 280 1984 (by decide), Nat.mul_one, Nat.reduceAdd]; rfl
  have h2 : (img crc).entry 2 = ⟨0xF0, 2816, 96, true⟩ := by
    simp only [Image.entry, e 288 0xF000000000000B00 (by decide), e 296 96 (by decide), Nat.reduceMul, Nat.reduceAdd]; rfl
  rw [Image.table, show (img crc).sections = 3 by rw [Image.sections, Image.h, (img_head crc).1]; decide, show List.range (min 3 64) = [0, 1, 2] from rfl]
  simp only [List.map, h0, h1, h2]
theorem img_gntClean (crc : Nat) : (img crc).gntClean 768 60 = true := by
  have z (i : Nat) (hi : i < 7) : (img crc).n (768 + 8 + 8 * i) 8 = 0 := img_word crc _ _ (by omega) (by decide)
    (List.mem_append_right _ (List.mem_append_left _ (List.mem_map.mpr ⟨i, List.mem_range.mpr hi, by simp⟩)))
  have e (i : Nat) (hi : i < 60) : (img crc).n (768 + 64 + 32 * i) 8 = 0x30000 + i := img_word crc _ _ (by omega) (by omega)
    (List.mem_append_right _ (List.mem_append_right _ (List.mem_flatMap.mpr ⟨i, List.mem_range.mpr hi, by simp⟩)))
  have p (i : Nat) (hi : i < 60) : (img crc).n (768 + 80 + 32 * i) 8 = 0 := img_word crc _ _ (by omega) (by decide)
    (List.mem_append_right _ (List.mem_append_right _ (List.mem_flatMap.mpr ⟨i, List.mem_range.mpr hi, by simp⟩)))
  have a (i : Nat) (hi : i < 60) : bitsOf (0x30000 + i) 63 20 = 0 ∧ bitsOf (0x30000 + i) 19 18 = 0 := by simp [bitsOf]; omega
  unfold Image.gntClean
  simp only [List.all_eq_true, Bool.and_eq_true, List.mem_range]
  refine ⟨fun i hi => by rw [z i hi]; rfl, fun i hi => ?_⟩
  rw [e i hi, p i hi, (a i hi).1, (a i hi).2]; exact ⟨by decide, by simp⟩
theorem img_gnt (crc : Nat) : (img crc).gntOk ⟨2, 768, 1984, true⟩ = true := by
  have h0 : (img crc).n 768 8 = 0x21003C := img_word crc _ _ (by decide) (by decide) (by simp [imageWords])
  have hn : bitsOf 0x21003C 15 0 = 60 := by decide
  have e : (List.range 60).map (fun i => (img crc).n (768 + 64 + 32 * i) 8) = (List.range 60).map (fun i => 0x30000 + i) :=
    List.map_congr_left fun i hi => img_word crc _ _ (by have := List.mem_range.mp hi; omega) (by have := List.mem_range.mp hi; omega)
      (List.mem_append_right _ (List.mem_append_right _ (List.mem_flatMap.mpr ⟨i, hi, by simp⟩)))
  simp only [Image.gntOk, h0, hn, e, img_gntClean]
  simp only [List.all_eq_true, Bool.and_eq_true, List.any_eq_true, List.mem_range]
  refine ⟨by decide, fun u hu r hr => ⟨0x30000 + u, List.mem_map.mpr ⟨u, List.mem_range.mpr hu, rfl⟩, ?_⟩⟩
  have h1 : bitsOf (0x30000 + u) 7 0 = u := by simp [bitsOf]; omega
  have h2 : bitsOf (0x30000 + u) 19 18 = 0 := by simp [bitsOf]; omega
  have h3 : bitsOf (0x30000 + u) 17 16 = 3 := by simp [bitsOf]; omega
  simp only [h1, h2, h3, decide_true, true_and]
  rcases List.mem_cons.mp hr with rfl | hr
  · decide
  · rw [List.mem_singleton.mp hr]; decide
theorem img_byte (crc a : Nat) (hc : crc < 2 ^ 32) (h : ¬(32 ≤ a ∧ a < 36)) : (img crc).byte a = (img 0).byte a := by
  unfold Image.byte img
  split
  · rw [smGet_words, smGet_words, imageWords, imageWords]
    simp only [List.append_assoc, List.find?_append]
    by_cases k : 36 ≤ a ∧ a < 40
    · have hk : a = 36 ∨ a = 37 ∨ a = 38 ∨ a = 39 := by omega
      rcases hk with rfl | rfl | rfl | rfl <;> simp [atWord] <;> apply BitVec.eq_of_toNat_eq <;> simp <;> omega
    · have e : ∀ n : Nat, atWord a (32, n) = false := fun n => by simp [atWord]; omega
      simp only [List.find?_cons, e, List.find?_nil]
  · rfl
theorem img_crc (crc : Nat) (hc : crc < 2 ^ 32) : (img crc).crc = (img 0).crc := by
  have hs : ∀ n, (img n).sigAt = 2816 := fun n => by rw [Image.sigAt, img_table]; rfl
  rw [Image.crc, Image.crc, hs, hs]
  refine congrArg crc32c (List.map_congr_left fun a _ => ?_)
  by_cases h : 32 ≤ a ∧ a < 36
  · simp [h]
  · rw [img_byte crc a hc h]
theorem img_sections (crc : Nat) (hc : crc < 2 ^ 32) : (img crc).sectionsOk = true := by
  obtain ⟨h0, h1, h2, h3⟩ := img_head crc
  have h4 := img_hw4 crc hc
  have h5 : bitsOf crc 63 32 = 0 := by simp [bitsOf]; omega
  have h6 := img_zero crc
  have h7 := img_gnt crc
  rw [Image.sectionsOk, img_table]
  simp only [Image.sections, Image.length, Image.ownerSig, Image.h, h0, h1, h2, h3, h4, h5, h6]
  simp [h7, bitsOf]
  exact ⟨fun x hx => by rcases x with _ | _ | x <;> first | rfl | omega, by decide⟩
theorem img_passes (c : Nat) (hc : c < 2 ^ 32) (hi : (img c).crc.toNat = c) (s : State) (h1 : 1 ∈ vendorSlots s.fuses.life)
    (h2 : s.fuses.revoked.getLsbD 1 = false) (h3 : s.fuses.owner = none) : s.checkImage (img c) true true = none := by
  obtain ⟨w0, w1, w2, w3⟩ := img_head c
  have w4 := img_hw4 c hc
  have w5 : bitsOf c 31 0 = c := by simp [bitsOf]; omega
  have hv : (img c).vkey = 1 := by rw [Image.vkey, Image.h, w2]; rfl
  have hs : ¬(img c).sec < s.floor := by
    have : (img c).sec = 64 := by rw [Image.sec, Image.h, w1]; rfl
    unfold State.floor; omega
  have hg : s.sigOk (img c) true true = true := by
    unfold State.sigOk
    rw [hv, h3, show s.fuses.revoked.getLsbD ((1 : Fin 4) : Nat) = false from h2]
    simp; exact h1
  rw [State.checkImage, hi, hg, img_sections c hc]
  simp only [Image.length, Image.h, w0, w1, w3, w4, w5, if_neg hs]
  simp [bitsOf, stepping]
/-- The image, with its CRC field right. -/
def imageMem : SMap Byte := (img (img 0).crc.toNat).mem
theorem imageMem_passes (s : State) (h1 : 1 ∈ vendorSlots s.fuses.life) (h2 : s.fuses.revoked.getLsbD 1 = false) (h3 : s.fuses.owner = none) :
    s.checkImage ⟨imageMem, 2 ^ 23⟩ true true = none :=
  img_passes (img 0).crc.toNat (img 0).crc.isLt (congrArg BitVec.toNat (img_crc _ (img 0).crc.isLt)) s h1 h2 h3
def imageState : State := { stageState 3 with activeImage := imageMem }
theorem loadSets_image (s : State) (h : s.activeImage = imageMem) : s.loadSets = s := by
  have e : s.image = img (img 0).crc.toNat := by rw [State.image, h]; rfl
  unfold State.loadSets
  simp only [e, img_table]; rfl
theorem witness_StartStages_image : imageState.atStage 3 = true ∧ imageState.start.copy = false ∧ imageState.checkImage imageState.image true true = none
    ∧ (((imageState.setFld Reg.GLB_FW 31 24 imageState.image.sec).setFld Reg.GLB_FW 23 0 imageState.image.build).loadSets.commitSets (List.range 16)).isSome = true := by
  refine ⟨by decide +kernel, by decide +kernel, imageMem_passes _ (by decide) (by decide) (by decide), ?_⟩
  rw [loadSets_image _ rfl]; decide +kernel
/-- The same image staged. -/
def stagedState : State := { withRegs (stgState 2 0) [(Reg.CRN_STG_LEN, 0x800000)] with stageBank := imageMem }
theorem witness_UpdatesAndTests_staged : stagedState.bankState = 2 ∧ stagedState.fld Reg.CRN_STG_STATUS 28 28 = 0
    ∧ stagedState.checkImage ⟨stagedState.stageBank, (stagedState.act Reg.CRN_STG_LEN).toNat⟩ true true = none := by
  refine ⟨by decide +kernel, by decide +kernel, ?_⟩
  rw [show (stagedState.act Reg.CRN_STG_LEN).toNat = 2 ^ 23 by decide +kernel]
  exact imageMem_passes _ (by decide) (by decide) (by decide)

/-! ### Registers, sidebands and the life cycle -/

theorem witness_RegisterReads : svc.inService = true ∧ svc.fnExists 0 = true ∧ vfState.fnExists 8 = true ∧ vfState.fnExists 1 = true ∧ svc.fnExists 1 = false
    ∧ svc.gate 0 Reg.MEM_INBOUND_CNT false = .allowed ∧ svc.gate 0 (Reg.PSC_REFUSE_CNT 12) false = .allowed ∧ svc.gate 0 (Reg.ARR_PRODUCTS_LO 7) false = .allowed
    ∧ svc.gate 0 (schLoOff (.run 63)) false = .allowed ∧ inMsix (Reg.ARR_SAT 0 0) = false ∧ inMsix 0xB3FFC = false ∧ inMsix 0xB4000 = true ∧ inMsix 0xB5FFC = true
    ∧ inMsix 0xB6000 = false ∧ svc.gate 0 0xB4000 false = .allowed ∧ regAt (homeOff 0x3FFFFFC) = none ∧ vfState.gate 1 Reg.MEM_INBOUND_CNT false = .deny := by decide +kernel
/-- No write is held and nothing sleeps: no read waits. One behind a held write of its function to its block does. -/
theorem witness_RegisterReads_waits : (∀ off : Nat, svc.readWaits 0 off = false) ∧ ({ svc with posted := [(0, Reg.PSC_CAP, 0)] } : State).readWaits 0 Reg.PSC_STATUS = true
    ∧ svc.gate 0 Reg.PSC_STATUS false = .allowed :=
  ⟨fun _ => rfl, by decide +kernel, by decide +kernel⟩
theorem witness_RegisterReads_clear : ClearRead (fun f => .smbAlertDropRead f) Reg.SMB_ALERT_DROP ∧ ClearRead (fun f => .pscRefuseCntRead f 12) (Reg.PSC_REFUSE_CNT 12) :=
  ⟨.smbAlertDropRead, .pscRefuseCntRead 12⟩

def capRow (n : Nat) : Bool := match regAt Reg.PSC_CAP with
  | some r => !r.2.1.fields.isEmpty && r.2.1.fields.all (fun x => x.acc = .rws) && setAt Reg.PSC_CAP = some n
  | none => false
def capShadow (v : W32) : State := svc.setShad Reg.PSC_CAP v
/-- A commit of set 1 is pending, and the PSC holds at the boundary of a control period for it. -/
def pendingCap : State :=
  let s := (capShadow 500000).setBit Reg.CSET_PENDING 1 true
  { s with csetOrder := [1], psc := { s.psc with boundary := true } }
theorem witness_RegisterWritesAndCommits : svc.inService = true ∧ capRow 1 = true ∧ svc.setPending 1 = false ∧ (svc.setBit Reg.CSET_PENDING 1 true).setPending 1 = true
    ∧ homeOff Reg.PSC_CAP = Reg.PSC_CAP ∧ hasRws Reg.PSC_CAP = true ∧ inMsix Reg.PSC_CAP = false ∧ inMirror Reg.PSC_CAP = false ∧ inMirror (Reg.PSC_CAP + 0x8000) = true
    ∧ svc.gate 1 0 true = .absent ∧ vfState.gate 8 Reg.PSC_CAP true = .deny ∧ fieldOf 16 4 0 = 16 ∧ fieldOf 1 4 0 = 1 ∧ svc.setEqual 1 = true
    ∧ (capShadow 500000).setEqual 1 = false ∧ (capShadow 500000).checkSet 1 false = none ∧ (capShadow 499999).checkSet 1 false = some Reg.PSC_CAP
    ∧ pendingCap.posted = [] ∧ pendingCap.heldReads = [] ∧ pendingCap.setPending 1 = true ∧ pendingCap.atApply 1 = true ∧ pendingCap.firstOf 1 = true ∧ pendingCap.twoCrowns = false
    ∧ ({ pendingCap with psc := { pendingCap.psc with boundary := false } } : State).atApply 1 = false ∧ ({ svc with csetOrder := [11, 14] } : State).firstOf 14 = false
    ∧ svc.writeAhead Reg.PSC_CAP = false ∧ svc.writeAhead Reg.CSET_COMMIT = false ∧ ({ svc with posted := [(0, Reg.PSC_CAP, 0)] } : State).writeAhead Reg.PSC_STATUS = true
    ∧ svc.barSize 0 ≤ 2 ^ 36 ∧ 0 < svc.barSize 0
    ∧ (let s := (svc.setFld Reg.GNT_STATUS 31 30 2).setBit Reg.CSET_PENDING 0 true
       s.setPending 0 = true ∧ s.atApply 0 = false)
    ∧ memLimit (withRegs svc [(Reg.MEM_LIMIT_LO, 0)]) ≤ (withRegs svc [(Reg.MEM_LIMIT_LO, 0)]).aperture 0 0
    ∧ (withRegs svc [(Reg.MEM_LIMIT_LO, 0x80000000)]).aperture 0 0 < memLimit (withRegs svc [(Reg.MEM_LIMIT_LO, 0x80000000)]) := by decide +kernel
def okOf {α : Type} (h : HostAcc α) : Bool := match h with | .ok _ => true | _ => false
theorem witness_RegisterWritesAndCommits_bar2 : okOf (let s := withRegs svc [(Reg.MEM_LIMIT_LO, 0x80000000)]
      (s.hostRead 0 (barSpace 0) (s.aperture 0 0) (inLine (s.aperture 0 0) 8)).2) = true := by decide +kernel

theorem witness_SideBand : svc.psc.state = .run ∧ (inState .sleep none).psc.state = .sleep ∧ (inState .deep none).psc.state = .deep ∧ svc.inService = true ∧ svc.readWaits 0 svc.smbPtr.toNat = false
    ∧ smbWritable Reg.PSC_CAP = true ∧ smbWritable Reg.SCH_ENERGY_ALL_LO = false ∧ (inState .sleep none).asleep = true ∧ (inState .sleep none).psc.entry = none
    ∧ (inState .run (some .deep)).psc.entry.isSome = true ∧ (inState .run (some .sleep)).psc.entry ≠ some .deep ∧ (inState .run (some .sleep)).psc.state ≠ .deep
    ∧ ({ svc with pins := { svc.pins with vaux := false } } : State).pins.vaux = false ∧ svc.pins.vaux = true ∧ (inState .off none).psc.state = .off
    ∧ ({ svc with pins := { svc.pins with pwrgd := false } } : State).pins.pwrgd = false ∧ svc.pins.thermtrip = false ∧ svc.pins.pwrgd = true ∧ (linkState 3).timed 0 = true
    ∧ ({ svc with pins := { svc.pins with perst := false } } : State).pins.perst = false ∧ ({ svc with pins := { svc.pins with perst := true } } : State).pins.perst = true := by decide +kernel
/-- R537: an Alert Response Address read answers the address while ALERT_N is asserted. -/
theorem test_alertResponse : ({ svc with alerts := [(1, 0)] } : State).alertPin = true ∧ svc.alertPin = false := by decide +kernel
/-- An idle step, and a step that fuses a blank part. -/
theorem witness_LifeCycleSteps : nextIs (step svc) (fun t => t.fuses.life = svc.fuses.life) = true
    ∧ nextIs (step { lifeState 0 with pending := [.jtagFusing] }) (fun t => t.fuses.life = 1) = true
    ∧ nextIs (step { lifeState 1 with pending := [.jtagFusing] }) (fun t => t.fuses.life = 2 && t.fuses.revoked.getLsbD 0) = true := by decide +kernel

end Sys2Proof.Tests

end
end

/-! PROOFS. The tables keep their form (R9, R11), and the state after reset (R11, R495). -/

namespace Sys2Proof.Machine
open Sys2Proof

/-! ## Lists of bytes written to a memory -/

/-- A write of a list of bytes leaves every other byte. -/
theorem byte_setBytes_out (bs : List Byte) (m : Mem) (a k : Nat) (h : k < a ∨ a + bs.length ≤ k) :
    (m.setBytes a bs).byte k = m.byte k := by
  induction bs generalizing m a with
  | nil => rfl
  | cons b t ih =>
    rw [List.length_cons] at h
    rw [Mem.setBytes, ih _ _ (by omega), byte_setByte_ne _ _ (by omega)]

/-- Each byte of a list written from an address reads back at its place. -/
theorem byte_setBytes_in (bs : List Byte) (m : Mem) (a i : Nat) (h : i < bs.length) :
    (m.setBytes a bs).byte (a + i) = bs[i] := by
  induction bs generalizing m a i with
  | nil => simp at h
  | cons b t ih =>
    rw [Mem.setBytes]
    cases i with
    | zero => rw [byte_setBytes_out _ _ _ _ (by omega)]; simp
    | succ i =>
      rw [show a + (i + 1) = a + 1 + i by omega, List.getElem_cons_succ]
      exact ih _ _ _ (Nat.lt_of_succ_lt_succ h)

/-- Settles O4: bytes by induction on the list written, registers by the laws of one write of a table. -/
theorem tablesKeepTheirForm : Obligations.TablesKeepTheirForm := by
  constructor
  · intro m a bs hm
    exact ⟨setBytes_wf bs hm a, byte_setBytes_in bs m a, byte_setBytes_out bs m a⟩
  · intro s off v hs
    exact ⟨setAct_regs_wf hs off v, act_setAct_same s off v, fun k hk => act_setAct_ne s v hk, shad_setAct s off v⟩

/-! ## The state after reset -/

/-- GLB_STATUS is the one register that the reset table lists. -/
theorem act_reset_of_ne {off : Nat} (h : off ≠ Reg.GLB_STATUS) : State.reset.act off = regReset off :=
  if_neg h

/-- LIFE alone is set in GLB_STATUS: Provisioned (log 25). -/
@[simp] theorem act_reset_glbStatus : State.reset.act Reg.GLB_STATUS = 0x40000000 := (rfl)

@[simp] theorem shad_reset (off : Nat) : State.reset.shad off = regReset off := (rfl)

@[simp] theorem core_reset (c : CoreId) : State.reset.core c = Core.reset := vget_replicate _ c

@[simp] theorem seq_reset (c : CoreId) (q : SeqId) : State.reset.seq c q = Seq.reset := by
  rw [State.seq, core_reset]
  exact vget_replicate _ (seqIx q)

@[simp] theorem ctx_reset (x : CtxId) : State.reset.ctx x = Ctx.reset := vget_replicate _ x

@[simp] theorem hurdle_reset (i : Hid) : State.reset.hurdle i = Hurdle.reset := (rfl)

/-- The start stands before its first stage (R495). -/
theorem atStage_reset : State.reset.atStage 0 = true := by
  rw [State.atStage, State.fld, State.fld, act_reset_glbStatus]
  decide

/-- Settles O59: the registers through the reset table, the units through the reset value of each. -/
theorem resetState : Obligations.ResetState := by
  have hglb : State.reset.fld Reg.GLB_STATUS 28 0 = 0 := by
    rw [State.fld, act_reset_glbStatus]; decide
  have hcores : ∀ c : CoreId, (State.reset.core c).ctx = none
      ∧ (∀ q : SeqId, (State.reset.seq c q).state = .idle) ∧ (State.reset.core c).store = [] := by
    intro c
    simp only [core_reset, seq_reset]
    exact ⟨rfl, fun _ => rfl, rfl⟩
  have hctxs : ∀ x : CtxId, (State.reset.ctx x).state = .free := fun x => congrArg Ctx.state (ctx_reset x)
  have hhurdles : ∀ i : Hid, (State.reset.hurdle i).state = .idle := fun i => congrArg Hurdle.state (hurdle_reset i)
  exact ⟨fun _ h => act_reset_of_ne h, shad_reset, rfl, rfl, hglb, hcores, hctxs, hhurdles, rfl, rfl, rfl, rfl, atStage_reset⟩

end Sys2Proof.Machine
